-- ==== Sys2Proof/Word.lean ====
section
/-! DEFINITION. The word types of the Mofrane 2160 model: the widths the manual numbers as bits. -/

namespace Sys2Proof

/-- One character of the host line, of a code line or of the beat bus. -/
abbrev Byte := BitVec 8

/-- A 32-bit unsigned count that wraps: step times, beat counts, tick counts (R1, R2, R16). -/
abbrev U32 := BitVec 32

/-- A channel set: bit n stands for channel n. -/
abbrev ChannelSet := BitVec 16

end Sys2Proof
end

