-- ==== Sys2Proof/Syntax.lean ====
section
/-! DEFINITION. The commands of the part: one constructor of `Instr` for each row of
spec/opcode_table.json, with the operands the row's event carries. A REQUEST row takes no operand:
its step is the handling of the entry at the head of the request queue (R186), and that entry's
payload bytes are its operands (log entry 2). -/

namespace Sys2Proof

/-- The two tempo lanes. -/
inductive LaneId where
  | a
  | b
  deriving DecidableEq, Repr

/-- The two line pairs of the beat bus (R158). -/
inductive BusLine where
  | one
  | two
  deriving DecidableEq, Repr

/-- The four preset select lines and the lane-select line (section 5.3). -/
inductive SelectLine where
  | sel0
  | sel1
  | sel2
  | sel3
  | lsel
  deriving DecidableEq, Repr

/-- The four receive errors of R164. -/
inductive ReceiveErrorKind where
  | framing
  | crc
  | length
  | violation
  deriving DecidableEq, Repr

/-- The commands of spec/opcode_table.json, in the table's order. -/
inductive Instr where
  /-- PHASE_STEP (R1): one phase step of the time base. -/
  | phaseStep
  /-- ANNOUNCED_BOUNDARY (R23): lane `x` carries into a beat above its high-water beat. -/
  | announcedBoundary (x : LaneId)
  /-- SILENT_BOUNDARY (R21): lane `x` carries into a beat at or below its high-water beat. -/
  | silentBoundary (x : LaneId)
  | identify
  | reset
  | status
  | setNoticeMask
  | setTempo
  | setMeter
  | setSource
  | transportStart
  | transportStop
  | transportResume
  | nudge
  | copyLane
  | readLane
  | setReference
  | listChanges
  | cancelChange
  | writePreset
  | writePresetStrobe
  | readPreset
  | applyPreset
  | setCue
  | setChannel
  | readChannel
  | startBreak
  | cancelBreak
  | readBreaks
  | startHandover
  | cancelHandover
  | readHandovers
  | setBus
  | writeFilter
  | readBus
  /-- UNKNOWN_TYPE_REQUEST (R186): the head request's TYPE is not in the catalogue. -/
  | unknownTypeRequest
  /-- LINK_BUSY (R186): the head entry is a refusal. -/
  | linkBusy
  /-- VERIFIED_FRAME (R183): the check of the host frame that stands received whole. -/
  | verifiedFrame
  | gapTimeout
  | replyBegin
  | noticeBegin
  | resetBegin
  | powerOnReset
  /-- RESET_RELEASE (R195); `strapHigh` is the level of the RATE strap sampled at the release (R181). -/
  | resetRelease (strapHigh : Bool)
  | tap
  | refclkPulse
  | dbeatEdge
  | referenceHoldoverExpiry
  | referenceSearchingExpiry
  | busHoldoverExpiry (n : Fin 8)
  | busSearchingExpiry (n : Fin 8)
  /-- JOIN_DUE (R78): the oldest due START with JOIN of lane `x`. -/
  | joinDue (x : LaneId)
  /-- CUE_EDGE (R80): a rising edge on cue line `c` + 1. -/
  | cueEdge (c : Fin 4)
  | strobeEdge
  /-- CHANNEL_ENTRY_CROSSING (R76): the oldest crossed CHANNEL entry of channel `n`. -/
  | channelEntryCrossing (n : Fin 16)
  | breakEntry (n : Fin 16)
  | breakEnd (n : Fin 16)
  | memberHold (n : Fin 16)
  | memberSwitch (n : Fin 16)
  | pulseBegin (n : Fin 16)
  | pulseEnd (n : Fin 16)
  | barPulseBegin (n : Fin 16)
  | gateLevelChange (n : Fin 16)
  | tickCodeQueued (n : Fin 16)
  | slotMove (n : Fin 16)
  | characterEnd (n : Fin 16)
  | characterBegin (n : Fin 16)
  /-- VALID_COPY (R163): the receiver of line `l` completes the 23 characters `chars` with a correct CRC. -/
  | validCopy (l : BusLine) (chars : List Byte)
  /-- RECEIVE_ERROR (R164): a reception on line `l` goes wrong in the way `e`. -/
  | receiveError (l : BusLine) (e : ReceiveErrorKind)
  | pairingTimeout
  | frameBegin
  | referenceInstant
  /-- ARBITRATION_LOSS (R174): the bit time `bit` of the frame (0 is the first of its break) was sent
  recessive and read dominant on line 1 (`on1`), on line 2 (`on2`) or on both. -/
  | arbitrationLoss (bit : Nat) (on1 on2 : Bool)
  | frameSent
  /-- HOST_CHARACTER (R182): a character of value `v` completes on HRX; `stopHigh` is its stop bit. -/
  | hostCharacter (v : Byte) (stopHigh : Bool)
  | hostLineIdle
  | hostFrameEnd
  | busLineIdle (l : BusLine)
  | busDominantEdge (l : BusLine)
  /-- BUS_DOMINANT_RUN_END (R163): a dominant run of `bits` whole bit times ends in recessive. -/
  | busDominantRunEnd (l : BusLine) (bits : Nat)
  | busFirstStartBit (l : BusLine)
  /-- SELECT_LINE_CHANGE (R91): the level of a select line becomes `high`. -/
  | selectLineChange (l : SelectLine) (high : Bool)
  deriving DecidableEq, Repr

end Sys2Proof
end

