-- ==== Sys2Proof/Decode.lean ====
section
/-! DEFINITION. The command that a word spells. The part takes events and requests, not instruction words:
spec/opcode_table.json gives no row any bits, so no word spells a command. -/

namespace Sys2Proof

/-- No row of the table has bits, so every word is refused. -/
def decodeTableWord (_nbits _w : Nat) : Option Instr := none

end Sys2Proof
end

