-- ==== Sys2Proof/Config.lean ====
section
/-! DEFINITION. What the manual leaves open and the model leaves free: constants with no body. -/

namespace Sys2Proof

/-- The tempo that R17 would form from an evidence window whose spanned time is 0 phase steps (all its
pulses in one phase step): 2^48 × m / (Q × 0) has no value in the manual. A FREE VALUE of the number of
intervals `m` and the pulses per beat `q` (DESIGN CHOICE, log entry 9); R17's clamp into the range of R4 is
applied to it like to any other estimate. -/
opaque Config.zeroSpanEstimate (m q : Nat) : Nat

end Sys2Proof
end

