-- ==== Sys2Proof/Machine/State.lean ====
section
/-! DEFINITION. The state of the Mofrane 2160: every record, queue, counter, flag and setting the manual
gives the part, as plain data, with the values of a reset. Fields marked MODEL are the model's own
bookkeeping of one phase step; INVENTORY.md lists each of them. -/

namespace Sys2Proof.Machine

/-- The manual describes no machine fault: every receive error, overflow and refusal is a count, a flag or
a reply (chapter 10). No command faults, so the type has no value. -/
inductive Fault where
  deriving DecidableEq, Repr

/-- Why a command is not run. -/
inductive Refusal where
  /-- Raised by an arm of `exec` whose command has no meaning yet; safe. No arm raises it at present. -/
  | notModelled (mnemonic : String)
  deriving DecidableEq, Repr

/-! ## Positions and lanes (chapters 1 and 2) -/

/-- A lane position: a beat count and a phase in units of 1/2^48 beat (R2). -/
structure Position where
  beat : U32
  phase : BitVec 48
  deriving DecidableEq, Repr

/-- A lane's run state (R19). -/
inductive Transport where
  | stopped
  | running
  deriving DecidableEq, Repr

/-- A present glide: start I0, target It, length G and index j of the last step taken (R6). -/
structure Glide where
  start : Nat
  target : Nat
  length : Nat
  index : Nat
  deriving DecidableEq, Repr

/-- What a lane follows (R19). -/
inductive SourceKind where
  | free
  | tap
  | reference
  | bus (entry : Fin 8)
  | lane
  deriving DecidableEq, Repr

/-- The alignment length (R8). -/
inductive AlignLength where
  | beat
  | bar
  | phrase
  deriving DecidableEq, Repr

/-- The alignment mode (R9). -/
inductive AlignMode where
  | nearest
  | forward
  deriving DecidableEq, Repr

/-- A lane's follow state (R63). -/
inductive FollowState where
  | free
  | following
  | holdover
  deriving DecidableEq, Repr

/-- A tracker's lock state (R42). -/
inductive LockState where
  | searching
  | locked
  | holdover
  deriving DecidableEq, Repr

/-- The lane record of R19. -/
structure Lane where
  transport : Transport
  increment : Nat
  glide : Option Glide
  pos : Position
  beatInBar : Nat
  barInPhrase : Nat
  barCount : U32
  phraseCount : U32
  high : U32
  beatsPerBar : Nat
  barsPerPhrase : Nat
  source : SourceKind
  alignLength : AlignLength
  alignMode : AlignMode
  pullLimit : Nat
  followGlide : Nat
  follow : FollowState
  residual : Int
  pullRate : Int
  aligned : Bool
  barOffset : Int
  /-- MODEL: this phase step's advance carries and is still to be made by the boundary command (log 3). -/
  crossing : Bool
  /-- MODEL: the pull that the outstanding advance of this step has from the lane it was copied from (R39, log 3). -/
  copiedPull : Int
  /-- MODEL: the glide present before the boundary being worked still owes its step (part 3 of R23). -/
  glideDue : Bool
  deriving DecidableEq, Repr

/-! ## Trackers (chapter 3) -/

/-- The tap tracker record of R45. Step times are counts of `State.clock`. -/
structure TapTracker where
  lock : LockState
  last : Option Nat
  intervals : List Nat
  estimate : Option Nat
  anchor : Option Nat
  deriving DecidableEq, Repr

/-- The reference tracker record of R49. -/
structure RefTracker where
  q : Nat
  downbeat : Bool
  realign : Bool
  lock : LockState
  lastPulse : Option Nat
  count : Nat
  beatInBar : Nat
  mark : Bool
  window : List Nat
  estimate : Option Nat
  anchor : Option Nat
  holdoverStart : Option Nat
  /-- MODEL: counting restarts, so the next pulse is a first pulse (R49). -/
  restart : Bool
  deriving DecidableEq, Repr

/-- The content of a beat bus frame (R161). -/
structure BusFrame where
  station : BitVec 10
  run : Bool
  holdover : Bool
  tag : BitVec 2
  beatsPerBar : Nat
  barsPerPhrase : Nat
  beatInBar : Nat
  barInPhrase : Nat
  beat : U32
  phase : BitVec 48
  increment : Nat
  deriving DecidableEq, Repr

/-- A bus tracker record of R56; the last frame carries its reference step time. -/
structure BusTracker where
  lock : LockState
  station : Option (BitVec 10)
  last : Option (BusFrame × Nat)
  estimate : Option Nat
  holdoverStart : Option Nat
  rejects : Nat
  deriving DecidableEq, Repr

/-! ## Output channels (chapter 6) -/

/-- The kind of signal a channel produces (R100). -/
inductive ChannelFunction where
  | tick
  | gate
  | bar
  | phrase
  | code
  deriving DecidableEq, Repr

/-- The pulse width modes of R18. -/
inductive WidthMode where
  | ratio25
  | ratio33
  | ratio50
  | fixed
  deriving DecidableEq, Repr

/-- The line polarity of R101. -/
inductive Polarity where
  | normal
  | inverted
  deriving DecidableEq, Repr

/-- The code rates of R100. -/
inductive CodeRate where
  | r38400
  | r57600
  | r115200
  deriving DecidableEq, Repr

/-- A channel's configuration, the first group of R100; the lead is in microseconds. -/
structure ChannelConfig where
  enabled : Bool
  lane : LaneId
  function : ChannelFunction
  n : Nat
  d : Nat
  swing : Nat
  lead : Nat
  width : WidthMode
  fixedMs : Nat
  polarity : Polarity
  codeRate : CodeRate
  barCodes : Bool
  deriving DecidableEq, Repr

/-- A transport item in the transport-code slot (R124). -/
inductive SlotItem where
  | start
  | stop
  | resume (position : Nat)
  | position (position : Nat)
  deriving DecidableEq, Repr

/-- The code transmitter of R123. `age` and `len` count thirds of a phase step: a character lasts 75, 50
or 25 of them at the three code rates (R122). -/
inductive CodeTx where
  | idle
  | sending (char : Byte) (age len : Nat)
  deriving DecidableEq, Repr

/-- A break member's state (R130); beats remaining and the break beat mark are present once it is in. -/
inductive MemberState where
  /-- MODEL field `atOnce`: the member enters without a crossing (IMMEDIATE, NONE, or past Y already). -/
  | waiting (atOnce : Bool)
  | inBreak (beats : Nat) (mark : U32)
  deriving DecidableEq, Repr

/-- A channel's break membership (R100, R130). -/
structure BreakMembership where
  record : Fin 4
  state : MemberState
  deriving DecidableEq, Repr

/-- A channel's handover membership with its held flag (R100, R142). -/
structure HandoverMembership where
  record : Fin 4
  held : Bool
  deriving DecidableEq, Repr

/-- The channel record of R100. -/
structure Channel where
  cfg : ChannelConfig
  running : Bool
  origin : Position
  delta : U32
  emitted : U32
  owing : Bool
  pulseOwed : Bool
  mark : U32
  level : Bool
  lastChange : Option Nat
  lastPulse : Option (Nat × Nat)
  barDue : Bool
  phraseDue : Bool
  brk : Option BreakMembership
  ho : Option HandoverMembership
  fifo : List Byte
  slot : Option SlotItem
  tx : CodeTx
  /-- MODEL: a pulse has been begun since the channel last started (third test of R115). -/
  pulsed : Bool
  /-- MODEL: the evaluation of R108 has been completed for the present phase step. -/
  evaluated : Bool
  /-- MODEL: the lead (in microseconds) by which part 1 of this step's evaluation of a RUNNING channel computed X,
  where an entry applied in part 2 has changed the lead since; kept until that evaluation is complete (R105, R108). -/
  evalLead : Option Nat
  /-- MODEL: the ids of the CHANNEL entries whose crossing X had reached when another entry of the channel was applied
  in this step; they are applied in it too, whatever moves X meanwhile (R76). -/
  reached : List Nat
  /-- MODEL: the channel has switched to the to-lane of a handover in the present phase step (R129). -/
  switched : Bool
  deriving DecidableEq, Repr

/-! ## Scheduled changes (chapter 4) and presets (chapter 5) -/

/-- The quantize settings of R80. -/
inductive Quantize where
  | none
  | beat
  | bar
  deriving DecidableEq, Repr

/-- A cue line record of R80. -/
structure CueLine where
  quantize : Quantize
  lastEdge : Option Nat
  deriving DecidableEq, Repr

/-- The settings a SOURCE change carries (R72). -/
structure SourceSettings where
  kind : SourceKind
  alignLength : AlignLength
  alignMode : AlignMode
  pullLimit : Nat
  followGlide : Nat
  deriving DecidableEq, Repr

/-- The transport actions of an entry (R72). -/
inductive EntryAction where
  | start
  | join
  | stop
  | resume
  | copy
  deriving DecidableEq, Repr

/-- The change an entry carries: its kind, target and parameters (R72). -/
inductive Change where
  | tempo (target : LaneId) (increment glide : Nat)
  | meter (target : LaneId) (beatsPerBar barsPerPhrase : Nat)
  | source (target : LaneId) (settings : SourceSettings)
  | transport (target : LaneId) (action : EntryAction)
  | channel (target : Fin 16) (config : ChannelConfig)
  deriving DecidableEq, Repr

/-- The source boundary a START with JOIN waits for (R78): that of a bus tracker, with the predicted step stored
for it, or that of the other lane. -/
inductive JoinWait where
  | bus (entry : Fin 8) (predicted : Option Nat)
  /-- MODEL field `ripe`: the other lane has crossed a boundary. -/
  | lane (ripe : Bool)
  deriving DecidableEq, Repr

/-- An entry's due point (R72): a beat, a cue line, or a source boundary. -/
inductive Due where
  | beat (index : U32)
  | cue (line : Fin 4)
  | join (wait : JoinWait)
  deriving DecidableEq, Repr

/-- Who made an entry (R72). -/
inductive Maker where
  | host
  | preset (index : Fin 16)
  deriving DecidableEq, Repr

/-- An entry of the pending-change queue (R72). -/
structure Entry where
  id : Nat
  maker : Maker
  timing : LaneId
  due : Due
  change : Change
  deriving DecidableEq, Repr

/-- The take modes a preset may hold (R86). -/
inductive PresetTake where
  | immediate
  | nextBeat
  | nextBar
  | nextPhrase
  deriving DecidableEq, Repr

/-- A preset record of R86. -/
structure Preset where
  increment : Nat
  glide : Nat
  take : PresetTake
  deriving DecidableEq, Repr

/-- The strobe modes of R88. -/
inductive StrobeMode where
  | hostOnly
  | laneA
  | laneB
  | byLine
  | both
  deriving DecidableEq, Repr

/-- The strobe unit: mode, last taken edge and last sampled selection (R88 to R91). -/
structure Strobe where
  mode : StrobeMode
  lastEdge : Option Nat
  selection : Option (Fin 16 × Bool)
  deriving DecidableEq, Repr

/-- The levels of the select lines (bit i is SELi) and of LSEL (section 5.3). -/
structure SelectPins where
  sel : BitVec 4
  lsel : Bool
  deriving DecidableEq, Repr

/-! ## Breaks (chapter 7) and handovers (chapter 8) -/

/-- The break modes. -/
inductive BreakMode where
  | mute
  | halt
  deriving DecidableEq, Repr

/-- A break record's due (R130). -/
inductive BreakDue where
  | absent
  | beat (index : U32)
  | cue (line : Fin 4)
  deriving DecidableEq, Repr

/-- A break record of R130. Its members are the channels whose break membership names it. -/
structure BreakRecord where
  active : Bool
  set : ChannelSet
  mode : BreakMode
  length : Nat
  timing : LaneId
  due : BreakDue
  cancelPending : Bool
  completed : ChannelSet
  stopSeen : Bool
  cancelSeen : Bool
  deriving DecidableEq, Repr

/-- The handover modes. -/
inductive HandoverMode where
  | aligned
  | cut
  deriving DecidableEq, Repr

/-- The windows of R142. -/
inductive Window where
  | w64
  | w32
  | w16
  | w8
  deriving DecidableEq, Repr

/-- The outcome of a record in SWITCH_DUE (R142). -/
inductive SwitchOutcome where
  | aligned
  | forced
  | cut
  deriving DecidableEq, Repr

/-- A handover record's state with the fields present in it (R142): the switch beat Y, and the from-lane
switch beat where the outcome is ALIGNED. -/
inductive HandoverStage where
  | waitingAlign
  | switchDue (outcome : SwitchOutcome) (y : U32) (yFrom : Option U32)
  deriving DecidableEq, Repr

/-- A handover record of R142. Its members are the channels whose handover membership names it; the
from-lane is the other lane of `toLane`. -/
structure HandoverRecord where
  stage : HandoverStage
  set : ChannelSet
  switched : ChannelSet
  toLane : LaneId
  mode : HandoverMode
  alignLength : AlignLength
  window : Window
  deadline : Nat
  residual : Option Int
  deriving DecidableEq, Repr

/-- MODEL: an announced boundary made known to the handover unit at part 7 of R23: the announcing lane's
side of the measurement of R146. -/
structure KnownBoundary where
  lane : LaneId
  index : U32
  bar : Bool
  beatInBar : Nat
  barInPhrase : Nat
  beatsPerBar : Nat
  phase : BitVec 48
  /-- The records opened since the boundary was made known, which it does not measure (R146). -/
  later : List (Fin 4)
  deriving DecidableEq, Repr

/-! ## The beat bus (chapter 9) -/

/-- The bit rates of R158. -/
inductive BitRate where
  | k250
  | k500
  | k1000
  deriving DecidableEq, Repr

/-- The line modes of R166. -/
inductive LineMode where
  | forced1
  | forced2
  | auto
  deriving DecidableEq, Repr

/-- The bus settings of R159; `lead = none` is NONE. -/
structure BusSettings where
  rate : BitRate
  mode : LineMode
  lead : Option LaneId
  station : BitVec 10
  deriving DecidableEq, Repr

/-- A receiver's state (R163); CHARACTERS holds the reference step time recorded for the copy. -/
inductive BusRx where
  | waitingIdle
  | idle
  | inBreak
  | afterBreak
  | characters (ref : Nat)
  deriving DecidableEq, Repr

/-- The bad outcomes a line is judged by (R168). -/
inductive BadOutcome where
  | missing
  | receive (e : ReceiveErrorKind)
  deriving DecidableEq, Repr

/-- What the controller keeps for one line: idle condition, receiver, fault record (R168) and counters
(R178). -/
structure BusLineState where
  lineIdle : Bool
  rx : BusRx
  faulty : Bool
  errors : Nat
  good : Nat
  valid : Nat
  framing : Nat
  crc : Nat
  length : Nat
  violations : Nat
  /-- The line's last receive error not yet taken by a pairing, with its step (R167). -/
  lastError : Option (Nat × ReceiveErrorKind)
  deriving DecidableEq, Repr

/-- An open pairing of R167: content, line of the first copy and step of its completion. -/
structure Pairing where
  content : List Byte
  line : BusLine
  opened : Nat
  deriving DecidableEq, Repr

/-- An acceptance entry of R170. -/
structure AcceptEntry where
  enabled : Bool
  code : BitVec 10
  mask : BitVec 10
  deriving DecidableEq, Repr

/-- The kinds of transmit request (R172). -/
inductive TxKind where
  | boundary (index : U32)
  | stop
  deriving DecidableEq, Repr

/-- The transmit request of R172. `begun`: its frame is being sent; `lost`: it lost arbitration and waits
for its retry (R175). -/
structure TxRequest where
  kind : TxKind
  retry : Bool
  begun : Bool
  lost : Bool
  deriving DecidableEq, Repr

/-- A frame of the part being sent (R173): the lane and station id it began with, the lines included, its
age in 1/125 of a phase step, and the content captured at its reference instant. -/
structure BusTx where
  lane : LaneId
  station : BitVec 10
  on1 : Bool
  on2 : Bool
  age : Nat
  captured : Option BusFrame
  deriving DecidableEq, Repr

/-- The beat bus controller. `rate` and `mode` are the bit rate and line mode in force; they differ from
the settings only while a SET_BUS waits for the end of the part's own frame (R179). -/
structure Bus where
  settings : BusSettings
  rate : BitRate
  mode : LineMode
  /-- MODEL: a SET_BUS accepted during an own frame takes its bit rate and line mode effect at the end. -/
  deferred : Bool
  line1 : BusLineState
  line2 : BusLineState
  pairings : List Pairing
  accept : Vector AcceptEntry 8
  request : Option TxRequest
  tx : Option BusTx
  duplicates : Nat
  accepted : Nat
  unmatched : Nat
  sent : Nat
  losses : Nat
  drops : Nat
  deriving DecidableEq, Repr

/-! ## Host link and notices (chapter 10) -/

/-- The host line rates of R181. -/
inductive HostRate where
  | baud1000000
  | baud115200
  deriving DecidableEq, Repr

/-- The cause of a reset (R195). -/
inductive ResetCause where
  | power
  | request
  deriving DecidableEq, Repr

/-- A host frame as received: TYPE, TAG, payload (its LEN is the payload's length). -/
structure HostFrame where
  type : Byte
  tag : Byte
  payload : List Byte
  deriving DecidableEq, Repr

/-- The framing states of R182 with the partial frame each holds. -/
inductive HostRx where
  | hunt
  | length
  | header (len : Nat)
  | headerTag (len : Nat) (type : Byte)
  | payload (len : Nat) (type tag : Byte) (got : List Byte)
  | check (frame : HostFrame)
  | checkLow (frame : HostFrame) (crcHigh : Byte)
  deriving DecidableEq, Repr

/-- An entry of the request queue (R185). -/
inductive QueueItem where
  | request (frame : HostFrame)
  | refusal (type tag : Byte)
  deriving DecidableEq, Repr

/-- A reply waiting to be sent (R187): the request's TYPE and TAG and the reply payload. `resets` marks the
OK of a RESET request (R194). -/
structure Reply where
  type : Byte
  tag : Byte
  payload : List Byte
  resets : Bool
  deriving DecidableEq, Repr

/-- The subject of a source notice (R43, R61). -/
inductive SourceSubject where
  | tap
  | reference
  | bus (n : Fin 8)
  | lane (x : LaneId)
  deriving DecidableEq, Repr

/-- The target of an entry, subject of CHANGE_APPLIED. -/
inductive Target where
  | lane (x : LaneId)
  | channel (n : Fin 16)
  deriving DecidableEq, Repr

/-- The kinds of entry. -/
inductive EntryKind where
  | tempo
  | meter
  | source
  | transport
  | channel
  deriving DecidableEq, Repr

/-- The causes of TRANSPORT_STARTED. -/
inductive StartCause where
  | start
  | join
  | copy
  | resume
  deriving DecidableEq, Repr

/-- The reasons of BREAK_DONE (R140). -/
inductive BreakReason where
  | complete
  | cancelled
  | stopped
  deriving DecidableEq, Repr

/-- The outcomes of HANDOVER_DONE (R153). -/
inductive DoneOutcome where
  | aligned
  | forced
  | cut
  | cancelled
  deriving DecidableEq, Repr

/-- The causes of a preset recall (R96). -/
inductive RecallCause where
  | strobe
  | host
  deriving DecidableEq, Repr

/-- The reasons of PRESET_IGNORED (R93). -/
inductive IgnoreReason where
  | sourceNotFree
  | laneStopped
  deriving DecidableEq, Repr

/-- The causes of ID_CONFLICT (R176). -/
inductive ConflictCause where
  | arbitration
  | received
  deriving DecidableEq, Repr

/-- A notice's kind, subject and detail (R189, section 11.6). Tempos are in mBPM. -/
inductive NoticeBody where
  | ready (cause : ResetCause) (rate : HostRate)
  | sourceLocked (subject : SourceSubject) (tempo : Nat) (station : Option (BitVec 10))
  | sourceHoldover (subject : SourceSubject) (tempo : Nat) (station : Option (BitVec 10))
  | sourceSearching (subject : SourceSubject) (tempo : Nat) (station : Option (BitVec 10))
  | aligned (x : LaneId)
  | glideDone (x : LaneId)
  | changeApplied (target : Target) (id : Nat) (kind : EntryKind) (maker : Maker) (applied : Bool)
  | changesDiscarded (x : LaneId) (count : Nat)
  | transportStarted (x : LaneId) (cause : StartCause)
  | transportStopped (x : LaneId)
  | bar (x : LaneId) (count : U32)
  | phrase (x : LaneId) (count : U32)
  | breakDone (r : Fin 4) (reason : BreakReason) (mode : BreakMode) (set completed : ChannelSet)
  | handoverDone (r : Fin 4) (outcome : DoneOutcome) (fromLane toLane : LaneId) (set switched : ChannelSet)
      (y : Option U32)
  | presetTaken (x : LaneId) (index : Fin 16) (cause : RecallCause) (entry : Option Nat) (tempo : Nat)
  | presetIgnored (x : LaneId) (index : Fin 16) (cause : RecallCause) (reason : IgnoreReason)
  | refMisaligned
  | lineFault (l : BusLine) (outcome : BadOutcome)
  | lineRestored (l : BusLine)
  | idConflict (station : BitVec 10) (cause : ConflictCause) (on1 on2 : Bool)
  deriving DecidableEq, Repr

/-- A notice with its step time of posting (R189). -/
structure Notice where
  body : NoticeBody
  time : U32
  deriving DecidableEq, Repr

/-- The transmitter on HTX (R188): the frame being sent, its age in 1/75 of a phase step, and whether it
is the OK reply of a RESET. -/
inductive HostTx where
  | idle
  | sending (bytes : List Byte) (age : Nat) (reply resets : Bool)
  deriving DecidableEq, Repr

/-- The six sticky flags of R191. -/
structure StickyFlags where
  noticeOverflow : Bool
  strobeDropped : Bool
  refMisaligned : Bool
  line1Fault : Bool
  line2Fault : Bool
  idConflict : Bool
  deriving DecidableEq, Repr

/-- The link error counts of R183. -/
structure LinkCounts where
  sync : Nat
  length : Nat
  crc : Nat
  character : Nat
  gap : Nat
  overrun : Nat
  deriving DecidableEq, Repr

/-- The host link. -/
structure Link where
  rate : HostRate
  rx : HostRx
  /-- The receiver waits for ten bit times of high level before it takes a start bit (R184). -/
  waitIdle : Bool
  /-- The step of the last character taken (R184). -/
  lastChar : Nat
  /-- MODEL: a frame received whole, with its two CRC bytes, whose check (VERIFIED_FRAME) is due. -/
  complete : Option (HostFrame × Byte × Byte)
  requests : List QueueItem
  replies : List Reply
  tx : HostTx
  notices : List Notice
  mask : BitVec 32
  sticky : StickyFlags
  counts : LinkCounts
  /-- A RESET is pending (R194). -/
  resetPending : Bool
  /-- MODEL: an entry of the request queue has been handled in the present phase step (R186). -/
  handled : Bool
  deriving DecidableEq, Repr

/-! ## The whole part -/

/-- Whether the part runs, is held in a reset (with the phase steps since it began), or is released and
waits for its first phase step (R195). -/
inductive PartMode where
  | running
  | inReset (cause : ResetCause) (age : Nat)
  | released (cause : ResetCause)
  deriving DecidableEq, Repr

/-- The state of the part, and the queue of commands waiting to be taken. -/
structure State where
  /-- The phase steps since the last reset was released, not wrapped; the step time of R1 is this count
  modulo 2^32 (`State.stepTime`), and a recorded step time is this count at the recorded step (log 5). -/
  clock : Nat
  mode : PartMode
  laneA : Lane
  laneB : Lane
  tap : TapTracker
  ref : RefTracker
  busTrackers : Vector BusTracker 8
  queue : List Entry
  idCounter : Nat
  generation : BitVec 16
  cues : Vector CueLine 4
  presets : Vector Preset 16
  strobe : Strobe
  pins : SelectPins
  channels : Vector Channel 16
  breaks : Vector (Option BreakRecord) 4
  handovers : Vector (Option HandoverRecord) 4
  /-- MODEL: boundaries made known to the handover unit whose measurement waits for the from-lane's own
  work of the phase step (R146). -/
  known : List KnownBoundary
  bus : Bus
  link : Link
  /-- The commands that are waiting, first in, first out. -/
  pending : List Instr
  deriving DecidableEq, Repr

/-! ## Reset values -/

/-- The increment of 120.000 BPM (R19). -/
abbrev resetIncrement : Nat := 5864062015

/-- Beat 0 + 0. -/
def Position.zero : Position := ⟨0, 0⟩

/-- The lane record's reset values (R19). -/
def Lane.reset : Lane where
  transport := .stopped
  increment := resetIncrement
  glide := none
  pos := .zero
  beatInBar := 0
  barInPhrase := 0
  barCount := 0
  phraseCount := 0
  high := 0
  beatsPerBar := 4
  barsPerPhrase := 8
  source := .free
  alignLength := .bar
  alignMode := .nearest
  pullLimit := 64
  followGlide := 4
  follow := .free
  residual := 0
  pullRate := 0
  aligned := false
  barOffset := 0
  crossing := false
  copiedPull := 0
  glideDue := false

/-- R45. -/
def TapTracker.reset : TapTracker := ⟨.searching, none, [], none, none⟩

/-- R49. -/
def RefTracker.reset : RefTracker where
  q := 24
  downbeat := false
  realign := true
  lock := .searching
  lastPulse := none
  count := 0
  beatInBar := 0
  mark := false
  window := []
  estimate := none
  anchor := none
  holdoverStart := none
  restart := true

/-- R56. -/
def BusTracker.reset : BusTracker := ⟨.searching, none, none, none, none, 0⟩

/-- The configuration group of R100. -/
def ChannelConfig.reset : ChannelConfig where
  enabled := false
  lane := .a
  function := .tick
  n := 24
  d := 1
  swing := 50
  lead := 0
  width := .ratio50
  fixedMs := 10
  polarity := .normal
  codeRate := .r38400
  barCodes := false

/-- R100. -/
def Channel.reset : Channel where
  cfg := .reset
  running := false
  origin := .zero
  delta := 0
  emitted := 0
  owing := false
  pulseOwed := false
  mark := 0
  level := false
  lastChange := none
  lastPulse := none
  barDue := false
  phraseDue := false
  brk := none
  ho := none
  fifo := []
  slot := none
  tx := .idle
  pulsed := false
  evaluated := false
  evalLead := none
  reached := []
  switched := false

/-- R168, R178, and R158 for the receiver. Model's choice (log 15): the idle condition of a line, to which no rule gives a
reset value, is clear until the line has been recessive for 12 bit times. -/
def BusLineState.reset : BusLineState where
  lineIdle := false
  rx := .waitingIdle
  faulty := false
  errors := 0
  good := 0
  valid := 0
  framing := 0
  crc := 0
  length := 0
  violations := 0
  lastError := none

/-- R158, R159, R170, R172, R178. -/
def Bus.reset : Bus where
  settings := ⟨.k500, .auto, none, 0⟩
  rate := .k500
  mode := .auto
  deferred := false
  line1 := .reset
  line2 := .reset
  pairings := []
  accept := Vector.replicate 8 ⟨false, 0, 0⟩
  request := none
  tx := none
  duplicates := 0
  accepted := 0
  unmatched := 0
  sent := 0
  losses := 0
  drops := 0

/-- The notice mask after a reset: every kind but BAR and PHRASE (R190, section 11.6). -/
def resetMask : BitVec 32 := 0x000FF3FE#32

/-- The host link after the release of a reset (R182 to R191) at the line rate `rate`. -/
def Link.reset (rate : HostRate) : Link where
  rate := rate
  rx := .hunt
  waitIdle := true
  lastChar := 0
  complete := none
  requests := []
  replies := []
  tx := .idle
  notices := []
  mask := resetMask
  sticky := ⟨false, false, false, false, false, false⟩
  counts := ⟨0, 0, 0, 0, 0, 0⟩
  resetPending := false
  handled := false

/-- Every block at its reset values (the table after R195). The select lines are pins of the venue and keep
their levels `pins`; the waiting commands `pending` stay. -/
def State.resetValues (mode : PartMode) (rate : HostRate) (pins : SelectPins) (pending : List Instr) : State where
  clock := 0
  mode := mode
  laneA := .reset
  laneB := .reset
  tap := .reset
  ref := .reset
  busTrackers := Vector.replicate 8 .reset
  queue := []
  idCounter := 0
  generation := 0
  cues := Vector.replicate 4 ⟨.beat, none⟩
  presets := Vector.replicate 16 ⟨resetIncrement, 0, .nextBeat⟩
  strobe := ⟨.hostOnly, none, none⟩
  pins := pins
  channels := Vector.replicate 16 .reset
  breaks := Vector.replicate 4 none
  handovers := Vector.replicate 4 none
  known := []
  bus := .reset
  link := .reset rate
  pending := pending

/-- The part right after the release of a power-on reset, before its first phase step (R195). DESIGN CHOICE
(log 1): the RATE strap was sampled low and the select lines stand low, since pins have no reset value. -/
def State.reset : State := State.resetValues (.released .power) .baud1000000 ⟨0, false⟩ []

end Sys2Proof.Machine
end

