-- ==== Sys2Proof/Machine/Arith.lean ====
section
/-! DEFINITION. Tempo Arithmetic (chapter 1): intervals, positions, tempo conversion, the glide staircase,
alignment reduction, pull, lead projection, the channel grid, tracker estimates and pulse widths. All of it
is exact integer arithmetic, rounded only where a rule names the rounding. -/

namespace Sys2Proof.Machine

/-! ## Integers -/

/-- One beat in phase units (section 1.1). -/
abbrev beatUnits : Nat := 2 ^ 48

/-- Round-half-up of `num / den` (Conventions). -/
def roundHalfUp (num den : Nat) : Nat := (2 * num + den) / (2 * den)

/-- `x` brought into `lo..hi`. -/
def clampNat (lo hi x : Nat) : Nat := max lo (min hi x)

/-- `x` brought into `lo..hi`, signed. -/
def clampInt (lo hi x : Int) : Int := max lo (min hi x)

/-- The smallest integer at or above `num / den`. -/
def ceilDiv (num den : Nat) : Nat := (num + den - 1) / den

/-- `a` seen from `b` as a signed 32-bit distance: positive when `a` is ahead (R2, R16). -/
def ahead (a b : U32) : Int := (a - b).toInt

/-! ## Time (R1) -/

/-- The interval from the recorded step `t` to the step `now`, which holds at 2^31 (R1). -/
def since (now t : Nat) : Nat := min (now - t) (2 ^ 31)

/-! ## Positions (R2, R3) -/

/-- A position of the given beat with phase 0. -/
def Position.atBeat (b : U32) : Position := ⟨b, 0⟩

/-- Advance by `v` phase units with as many carries as it takes (R2, R3). -/
def Position.advance (p : Position) (v : Nat) : Position :=
  let total := p.phase.toNat + v
  ⟨p.beat + BitVec.ofNat 32 (total / beatUnits), BitVec.ofNat 48 total⟩

/-- Move back by `v` phase units, stopping at beat 0 + 0 (R3). -/
def Position.retreat (p : Position) (v : Nat) : Position :=
  if v ≤ p.phase.toNat then ⟨p.beat, BitVec.ofNat 48 (p.phase.toNat - v)⟩
  else
    let borrow := ceilDiv (v - p.phase.toNat) beatUnits
    if p.beat.toNat < borrow then .zero
    else ⟨p.beat - BitVec.ofNat 32 borrow, BitVec.ofNat 48 (p.phase.toNat + borrow * beatUnits - v)⟩

/-- The distance from `y` to `z` in phase units (R2). -/
def Position.distance (y z : Position) : Int :=
  ahead z.beat y.beat * beatUnits + ((z.phase.toNat : Int) - y.phase.toNat)

/-- `x` stands at or past beat `y` + 0. -/
def Position.reached (x : Position) (y : U32) : Bool := 0 ≤ (Position.atBeat y).distance x

/-! ## Tempo and increment (R4, R5) -/

/-- The increment of 20.000 BPM (R4). -/
abbrev incMin : Nat := 977343669

/-- The increment of 300.000 BPM (R4). -/
abbrev incMax : Nat := 14660155037

/-- The range of R4. -/
def clampInc (i : Nat) : Nat := clampNat incMin incMax i

/-- A tempo in mBPM converted to an increment (R4). -/
def tempoToIncrement (t : Nat) : Nat :=
  clampInc (roundHalfUp (beatUnits * clampNat 20000 300000 t) 5760000000)

/-- Whether R4 clamps the tempo given. -/
def tempoClamped (t : Nat) : Bool := t < 20000 || 300000 < t

/-- An increment reported as mBPM (R5). -/
def incrementToTempo (i : Nat) : Nat := roundHalfUp (i * 5760000000) beatUnits

/-! ## The glide staircase (R6, R7) -/

/-- A glide length of the host clamped to 64 (R7). -/
def clampGlide (g : Nat) : Nat := min g 64

/-- A glide of `g` beats from the increment `i` to `target` (R6). -/
def Glide.make (i target g : Nat) : Glide := ⟨i, target, g, 0⟩

/-- The increment after step `j` of a glide, the quotient truncated toward zero (R6). -/
def Glide.at (g : Glide) (j : Nat) : Nat :=
  if j < g.length then
    ((g.start : Int) + (((g.target : Int) - g.start) * j).tdiv g.length).toNat
  else g.target

/-! ## Alignment reduction (R8, R9) -/

/-- A relative position: the place within the enclosing unit, in phase units (R8). -/
def relPosition (len : AlignLength) (beatInBar barInPhrase beatsPerBar : Nat) (phase : BitVec 48) : Nat :=
  match len with
  | .beat => phase.toNat
  | .bar => beatInBar * beatUnits + phase.toNat
  | .phrase => (barInPhrase * beatsPerBar + beatInBar) * beatUnits + phase.toNat

/-- The unit length in phase units, from the lane side's meter (R8). -/
def unitLength (len : AlignLength) (beatsPerBar barsPerPhrase : Nat) : Nat :=
  match len with
  | .beat => beatUnits
  | .bar => beatsPerBar * beatUnits
  | .phrase => beatsPerBar * barsPerPhrase * beatUnits

/-- The quotient q of the reduction (R9). -/
def reduceQuotient (mode : AlignMode) (d : Int) (l : Nat) : Int :=
  match mode with
  | .nearest => (d + (l / 2 : Nat)).fdiv l
  | .forward => d.fdiv l

/-- The residual r of the reduction (R9). -/
def reduceResidual (mode : AlignMode) (d : Int) (l : Nat) : Int := d - reduceQuotient mode d l * l

/-- The bar offset saturates (R9). -/
def clampOffset (q : Int) : Int := clampInt (-32767) 32767 q

/-- The lower end of the residual range of a mode with unit length `l` (R9, R13). -/
def residualLow (mode : AlignMode) (l : Nat) : Int :=
  match mode with
  | .nearest => -((l / 2 : Nat) : Int)
  | .forward => 0

/-- The upper end of the residual range, included (R13). -/
def residualHigh (mode : AlignMode) (l : Nat) : Int :=
  match mode with
  | .nearest => ((l / 2 : Nat) : Int) - 1
  | .forward => (l : Int) - 1

/-- The residual brought into its range (R9, R13). -/
def clampResidual (mode : AlignMode) (l : Nat) (r : Int) : Int :=
  clampInt (residualLow mode l) (residualHigh mode l) r

/-! ## Pull (R10, R11) -/

/-- The pull rate p set after a reduction (R10). -/
def pullRateFor (increment pullLimit : Nat) (r : Int) : Int :=
  r.sign * (min (ceilDiv r.natAbs (beatUnits / increment)) (increment * pullLimit / 1024) : Nat)

/-- The pull amount a of one phase step (R11). -/
def pullAmount (r p : Int) : Int := r.sign * (min p.natAbs r.natAbs : Nat)

/-- 1/256 beat, the limit of the aligned flag (R12). -/
abbrev alignedLimit : Nat := 2 ^ 40

/-! ## Channels (R14 to R16, R18) -/

/-- The lead steps L of a lead in µs (R14). -/
def leadSteps (leadUs : Nat) : Nat := roundHalfUp (leadUs * 96) 1000

/-- The projected position X of a lane position with lead steps `l` at increment `i` (R14). -/
def project (p : Position) (l i : Nat) : Position := p.advance (l * i)

/-- The count of R15 at projected position `x`. -/
def gridCount (x origin : Position) (delta : U32) (n d swing : Nat) : U32 :=
  let dist := origin.distance x
  if dist < 0 then delta
  else
    let num := dist.toNat * n
    let den := d * beatUnits
    let m := num / (2 * den)
    let f := num - 2 * m * den
    delta + BitVec.ofNat 32 (2 * m + 1 + if 2 * swing * den ≤ 100 * f then 1 else 0)

/-- The pulse width for a period of `num / den` phase steps (R18). -/
def pulseWidth (mode : WidthMode) (fixedMs num den : Nat) : Nat :=
  let raw := match mode with
    | .ratio25 => num / (4 * den)
    | .ratio33 => num / (3 * den)
    | .ratio50 => num / (2 * den)
    | .fixed => 96 * fixedMs
  max 48 (min raw (num / den - 48))

/-! ## Tracker estimates (R17) -/

/-- The tempo estimate of `m` intervals spanning `s` steps with `q` intervals to a beat (R17). A span of 0
has no value in the manual: the free value of log 9, clamped like any estimate. -/
def estimateOf (m q s : Nat) : Nat :=
  clampInc (if q * s = 0 then Config.zeroSpanEstimate m q else roundHalfUp (beatUnits * m) (q * s))

/-- Saturating increment of a 16-bit counter (R56, R178, R183). -/
def bump16 (n : Nat) : Nat := min (n + 1) 65535

end Sys2Proof.Machine
end

