-- ==== Sys2Proof/Machine/Flags.lean ====
section
/-! DEFINITION. The flags of the part: the notice mask (R190), the sticky flags (R191) and the aligned flag
(R12), with the flag bytes the manual gives them. -/

namespace Sys2Proof.Machine

/-! ## The notice mask (R190, section 11.6) -/

/-- The number of a notice kind (section 11.6). -/
def NoticeBody.kindNumber : NoticeBody → Nat
  | .ready _ _ => 0
  | .sourceLocked _ _ _ => 1
  | .sourceHoldover _ _ _ => 2
  | .sourceSearching _ _ _ => 3
  | .aligned _ => 4
  | .glideDone _ => 5
  | .changeApplied _ _ _ _ _ => 6
  | .changesDiscarded _ _ => 7
  | .transportStarted _ _ => 8
  | .transportStopped _ => 9
  | .bar _ _ => 10
  | .phrase _ _ => 11
  | .breakDone _ _ _ _ _ => 12
  | .handoverDone _ _ _ _ _ _ _ => 13
  | .presetTaken _ _ _ _ _ => 14
  | .presetIgnored _ _ _ _ => 15
  | .refMisaligned => 16
  | .lineFault _ _ => 17
  | .lineRestored _ => 18
  | .idConflict _ _ _ _ => 19

/-- The mask bit that enables a notice: bit n for kind n, bits 20 and 21 for BAR and PHRASE of lane B, and
none for READY (R190, section 11.6). -/
def NoticeBody.maskBit : NoticeBody → Option Nat
  | .ready _ _ => none
  | .bar .b _ => some 20
  | .phrase .b _ => some 21
  | n => some n.kindNumber

/-- Whether the mask lets a notice be posted (R189, R190). -/
def enabledBy (mask : BitVec 32) (n : NoticeBody) : Bool :=
  match n.maskBit with
  | none => true
  | some k => mask.getLsbD k

/-- A set bit in bit 0 or in bits 22 to 31 names no enable (R190, section 11.6). -/
def maskValid (mask : BitVec 32) : Bool := mask &&& 0xFFC00001#32 == 0

/-! ## The sticky flags (R191) -/

/-- The sticky flag byte of the STATUS reply (section 11.6). -/
def StickyFlags.toByte (f : StickyFlags) : Byte :=
  BitVec.ofNat 8 (f.noticeOverflow.toNat + 2 * f.strobeDropped.toNat + 4 * f.refMisaligned.toNat
    + 8 * f.line1Fault.toNat + 16 * f.line2Fault.toNat + 32 * f.idConflict.toNat)

/-- All flags clear (R191, R192). -/
def StickyFlags.clear : StickyFlags := ⟨false, false, false, false, false, false⟩

/-- The fault flag of a bus line (R168). -/
def StickyFlags.setLineFault (f : StickyFlags) : BusLine → StickyFlags
  | .one => { f with line1Fault := true }
  | .two => { f with line2Fault := true }

/-! ## The aligned flag (R12) -/

/-- The flag after the residual has become `r`: set when |r| is within 1/256 beat. A reduction also clears
it beyond that; every other change of r leaves a set flag set (R12). -/
def alignedAfter (was : Bool) (r : Int) (reduction : Bool) : Bool :=
  if r.natAbs ≤ alignedLimit then true else was && !reduction

/-- The lane state byte of the STATUS reply (section 11.6). -/
def laneStateByte (l : Lane) : Byte :=
  BitVec.ofNat 8 ((l.transport == .running).toNat + 2 * l.glide.isSome.toNat + 4 * l.aligned.toNat)

end Sys2Proof.Machine
end

