-- ==== Sys2Proof/Machine/Ops.lean ====
section
/-! DEFINITION. The named operations over the state: reads and writes of lanes, channels and tables, the step
time, and the posting of a notice. Every block reaches the state through them. -/

namespace Sys2Proof.Machine

/-! ## Index lists -/

/-- The two lanes, A first. -/
def bothLanes : List LaneId := [.a, .b]

/-- The sixteen channels in increasing number. -/
def allChannels : List (Fin 16) := [0, 1, 2, 3, 4, 5, 6, 7, 8, 9, 10, 11, 12, 13, 14, 15]

/-- The eight acceptance entries and bus trackers in increasing index. -/
def allEntries : List (Fin 8) := [0, 1, 2, 3, 4, 5, 6, 7]

/-- The four records of the break and handover tables, and the four cue lines. -/
def allRecords : List (Fin 4) := [0, 1, 2, 3]

/-- "The other lane" of A is B, and of B is A (Terms). -/
def otherLane : LaneId → LaneId
  | .a => .b
  | .b => .a

/-- The other line pair. -/
def otherLine : BusLine → BusLine
  | .one => .two
  | .two => .one

/-! ## Time and the part's mode -/

/-- The step time: 32 bits, wrapping (R1). -/
def State.stepTime (s : State) : U32 := BitVec.ofNat 32 s.clock

/-- The part is neither in a reset nor waiting for its first phase step (R195, log 4). -/
def State.live (s : State) : Bool := s.mode == .running

/-! ## Lanes -/

/-- The record of lane `x`. -/
def State.lane (s : State) : LaneId → Lane
  | .a => s.laneA
  | .b => s.laneB

/-- Lane `x` takes the record `l`. -/
def State.setLane (s : State) (x : LaneId) (l : Lane) : State :=
  match x with
  | .a => { s with laneA := l }
  | .b => { s with laneB := l }

/-- Lane `x`'s record changed by `f`. -/
def State.modLane (s : State) (x : LaneId) (f : Lane → Lane) : State := s.setLane x (f (s.lane x))

/-- Lane `x` is RUNNING. -/
def Lane.isRunning (l : Lane) : Bool := l.transport == .running

/-- Lane `x` has made its advance of the step, and its boundary work. -/
def State.settledLane (s : State) (x : LaneId) : Bool := !(s.lane x).crossing

/-! ## Channels and tables -/

/-- The record of channel `n`. -/
def State.chan (s : State) (n : Fin 16) : Channel := s.channels[n]

/-- Channel `n` takes the record `c`. -/
def State.setChan (s : State) (n : Fin 16) (c : Channel) : State :=
  { s with channels := s.channels.set n.val c n.isLt }

/-- Channel `n`'s record changed by `f`. -/
def State.modChan (s : State) (n : Fin 16) (f : Channel → Channel) : State := s.setChan n (f (s.chan n))

/-- `f` done for every channel in increasing number. -/
def State.forChannels (s : State) (f : Fin 16 → State → State) : State :=
  allChannels.foldl (fun t n => f n t) s

/-- Break record `r`; `none` is FREE (R130). -/
def State.brk (s : State) (r : Fin 4) : Option BreakRecord := s.breaks[r]

/-- Break record `r` set. -/
def State.setBrk (s : State) (r : Fin 4) (b : Option BreakRecord) : State :=
  { s with breaks := s.breaks.set r.val b r.isLt }

/-- Handover record `r`; `none` is FREE (R142). -/
def State.ho (s : State) (r : Fin 4) : Option HandoverRecord := s.handovers[r]

/-- Handover record `r` set. -/
def State.setHo (s : State) (r : Fin 4) (h : Option HandoverRecord) : State :=
  { s with handovers := s.handovers.set r.val h r.isLt }

/-- Bus tracker `n`. -/
def State.busTracker (s : State) (n : Fin 8) : BusTracker := s.busTrackers[n]

/-- Bus tracker `n` set. -/
def State.setBusTracker (s : State) (n : Fin 8) (t : BusTracker) : State :=
  { s with busTrackers := s.busTrackers.set n.val t n.isLt }

/-- Channel `n` stands in the set. -/
def inSet (set : ChannelSet) (n : Fin 16) : Bool := set.getLsbD n.val

/-- The set with channel `n` added. -/
def addTo (set : ChannelSet) (n : Fin 16) : ChannelSet := set ||| BitVec.ofNat 16 (2 ^ n.val)

/-- The set of the channels for which `p` holds. -/
def setOf (p : Fin 16 → Bool) : ChannelSet :=
  allChannels.foldl (fun m n => if p n then addTo m n else m) 0

/-! ## Notices (R189) -/

/-- Change the host link. -/
def State.modLink (s : State) (f : Link → Link) : State := { s with link := f s.link }

/-- Post a notice: not when its kind is masked; appended when the notice queue holds fewer than 32;
otherwise discarded with NOTICE_OVERFLOW set (R189). -/
def State.post (s : State) (n : NoticeBody) : State :=
  if !enabledBy s.link.mask n then s
  else if s.link.notices.length < 32 then
    s.modLink fun k => { k with notices := k.notices ++ [⟨n, s.stepTime⟩] }
  else s.modLink fun k => { k with sticky := { k.sticky with noticeOverflow := true } }

/-- Change the sticky flags (R191). -/
def State.modSticky (s : State) (f : StickyFlags → StickyFlags) : State :=
  s.modLink fun k => { k with sticky := f k.sticky }

/-- Change the beat bus controller. -/
def State.modBus (s : State) (f : Bus → Bus) : State := { s with bus := f s.bus }

end Sys2Proof.Machine
end

