-- ==== Sys2Proof/Machine/Channels.lean ====
section
/-! DEFINITION. Operations on one channel record (chapter 6): projection, reckoning of bar and phrase starts,
starts, stops and resumes, re-origin, the transport-code slot and the code characters. -/

namespace Sys2Proof.Machine

/-! ## Projection and reckoning (R14, R119) -/

/-- The position projected on lane record `l` with a lead of `lead` µs (R14). -/
def leadPosition (l : Lane) (lead : Nat) : Position := project l.pos (leadSteps lead) l.increment

/-- The lead the channel's position is projected by: the configuration's, but while an evaluation is under way the one its
part 1 took, where an entry of part 2 has changed it since; the new lead steps take effect at the next evaluation
(R105, R108). The crossings of CHANNEL entries are judged by the configuration's lead alone (`State.entryReached`). -/
def Channel.lead (c : Channel) : Nat := c.evalLead.getD c.cfg.lead

/-- What is kept of the leads before an entry gives the channel the lead `lead`: that of part 1, for a RUNNING channel whose
evaluation of the step is still to be completed (R105, R108). Any other channel has no evaluation under way, and its new
lead stands at once (R76). -/
def Channel.keepLead (c : Channel) (lead : Nat) : Channel :=
  if c.running && !c.evaluated && lead != c.cfg.lead then { c with evalLead := some c.lead } else c

/-- The channel's projected position on lane record `l` (R14). -/
def Channel.projectedOn (c : Channel) (l : Lane) : Position := leadPosition l c.lead

/-- The beat from which the bar starts, or the phrase starts, of a lane are reckoned (R119). -/
def startBase (f : ChannelFunction) (l : Lane) : U32 :=
  match f with
  | .phrase => l.pos.beat - BitVec.ofNat 32 (l.beatInBar + l.barInPhrase * l.beatsPerBar)
  | _ => l.pos.beat - BitVec.ofNat 32 l.beatInBar

/-- The distance in beats between two such starts (R119). -/
def startPeriod (f : ChannelFunction) (l : Lane) : Nat :=
  match f with
  | .phrase => l.beatsPerBar * l.barsPerPhrase
  | _ => l.beatsPerBar

/-- Beat `k` is a phrase start (function PHRASE) or a bar start (any other) by the lane's counters (R119). -/
def isStart (f : ChannelFunction) (l : Lane) (k : U32) : Bool :=
  (ahead k (startBase f l)).emod (startPeriod f l) == 0

/-- Some beat above `m` and at or below `x` is a start (R120). -/
def startCrossed (f : ChannelFunction) (l : Lane) (m x : U32) : Bool :=
  let from0 := ahead m (startBase f l)
  0 < ahead x m && from0.fdiv (startPeriod f l) < (from0 + ahead x m).fdiv (startPeriod f l)

/-- The bar count the lane will have at beat `y`, reckoned from its counters and meter, modulo 16384
(R137, R152). -/
def barCountAt (l : Lane) (y : U32) : Nat :=
  (l.barCount + BitVec.ofInt 32 ((ahead y l.pos.beat + l.beatInBar).fdiv l.beatsPerBar)).toNat % 16384

/-- The first beat boundary at or after `p`: where a re-origin ahead places the origin (R110). -/
def boundaryFrom (p : Position) : Position := if p.phase = 0 then p else .atBeat (p.beat + 1)

/-! ## The transport-code slot and codes (R122, R124) -/

/-- A POSITION code with its two data bytes (R122). -/
def positionCodes (p : Nat) : List Byte :=
  [0xD8#8, BitVec.ofNat 8 (p % 128), BitVec.ofNat 8 (p % 16384 / 128)]

/-- The codes of a transport item, in the order sent (R122, R124). -/
def SlotItem.codes : SlotItem → List Byte
  | .start => [0xD2#8]
  | .stop => [0xD3#8]
  | .resume p => positionCodes p ++ [0xD4#8]
  | .position p => positionCodes p

/-- Put an item into the slot: a POSITION gives way to a START, STOP or RESUME held there; any other item
replaces what is held (R124). -/
def Channel.putSlot (c : Channel) (item : SlotItem) : Channel :=
  match item, c.slot with
  | .position _, some .start => c
  | .position _, some .stop => c
  | .position _, some (.resume _) => c
  | _, _ => { c with slot := some item }

/-- A CODE channel puts an item into its slot; any other channel has none (R112 to R114). -/
def Channel.codePut (c : Channel) (item : SlotItem) : Channel :=
  if c.cfg.function = .code then c.putSlot item else c

/-- The length of one character in thirds of a phase step (R122). -/
def CodeRate.thirds : CodeRate → Nat
  | .r38400 => 75
  | .r57600 => 50
  | .r115200 => 25

/-- The functions whose active line is a pulse. -/
def ChannelFunction.isPulse : ChannelFunction → Bool
  | .tick => true
  | .bar => true
  | .phrase => true
  | _ => false

/-! ## Starts, stops, resumes and re-origin (R110, R112 to R114) -/

/-- The projected beat mark at a start with origin `o`: the beat before it when it has phase 0 (R112). -/
def startMark (o : Position) : U32 := if o.phase = 0 then o.beat - 1 else o.beat

/-- The counts and marks of a channel enabled or started with origin `o` (R112, R127). -/
def Channel.restartCounts (c : Channel) (o : Position) : Channel :=
  { c with
    origin := o
    delta := 0
    emitted := 0
    owing := false
    pulseOwed := false
    barDue := false
    phraseDue := false
    mark := startMark o }

/-- A start of the channel with origin `o` (R112). A pulse in flight across it is one "since the channel last started"
(R115), so that its gap is served (R18; DEDUCED, log 11). -/
def Channel.startAt (c : Channel) (o : Position) : Channel :=
  Channel.codePut { c.restartCounts o with running := true, pulsed := c.level && c.cfg.function.isPulse } .start

/-- The stop of the channel's lane (R113). The channel is evaluated no more, and no lead is kept for it (R108). -/
def Channel.stop (c : Channel) : Channel :=
  Channel.codePut { c with running := false, pulseOwed := false, evalLead := none } .stop

/-- The resume of the channel's lane, whose bar count modulo 16384 is `p` (R114). -/
def Channel.resume (c : Channel) (p : Nat) : Channel :=
  Channel.codePut { c with running := true } (.resume p)

/-- Re-origin at `y` (R110). -/
def Channel.reorigin (c : Channel) (y : Position) : Channel :=
  { c with origin := y, delta := c.emitted, owing := false }

/-! ## Line and pulse (R101, R116) -/

/-- A pulse in flight ends at step `now` and still counts as the last pulse; the line goes inactive
(R105, R116, R128). -/
def Channel.cutLine (c : Channel) (now : Nat) : Channel :=
  { c with
    level := false
    lastPulse := if c.level && c.cfg.function.isPulse then c.lastPulse.map fun p => (p.1, now) else c.lastPulse }

/-- The code FIFO and the slot emptied, a character in transmission cut (R105, R128). -/
def Channel.clearCode (c : Channel) : Channel := { c with fifo := [], slot := none, tx := .idle }

/-- The level of a character of 8-N-1 in its bit `i`: the start bit low, eight data bits least significant first, the
stop bit high (R101, R122, R181). -/
def charLevel (v : Byte) (i : Nat) : Bool := if i = 0 then false else if i ≤ 8 then v.getLsbD (i - 1) else true

/-- The level of a CODE line: high when idle, and its character's bits otherwise (R101, R122). -/
def CodeTx.level : CodeTx → Bool
  | .idle => true
  | .sending ch age len => charLevel ch (age * 10 / len)

/-- The pin of a channel: the transmitter of a CODE channel, and the line level through the polarity of any
other (R101). True is high. -/
def Channel.pin (c : Channel) : Bool :=
  if c.cfg.function = .code then c.tx.level
  else match c.cfg.polarity with
    | .normal => c.level
    | .inverted => !c.level

/-- The output pin of channel `n`, which is low throughout a reset (R101, R195). -/
def State.pin (s : State) (n : Fin 16) : Bool :=
  match s.mode with
  | .inReset _ _ => false
  | _ => (s.chan n).pin

/-- 48 steps have passed since the last pulse ended (R18, R115, R120), or a TICK channel has begun no pulse since it
last started (R115, which states how the gap of R18 delays a tick). -/
def Channel.gapServed (c : Channel) (now : Nat) : Bool :=
  (c.cfg.function == .tick && !c.pulsed) || match c.lastPulse with
    | none => true
    | some p => 48 ≤ since now p.2

/-- Begin a pulse of `width` steps (R115, R120). -/
def Channel.beginPulse (c : Channel) (now width : Nat) : Channel :=
  { c with level := true, lastPulse := some (now, now + width), pulsed := true }

/-! ## Channel sets of a lane -/

/-- Channel `n` is enabled and attached to lane `x`. -/
def State.attached (s : State) (x : LaneId) (n : Fin 16) : Bool :=
  (s.chan n).cfg.enabled && (s.chan n).cfg.lane == x

/-- The lane record channel `n` is attached to. -/
def State.laneOf (s : State) (n : Fin 16) : Lane := s.lane (s.chan n).cfg.lane

/-- Channel `n`'s projected position on its lane (R14). -/
def State.projection (s : State) (n : Fin 16) : Position := (s.chan n).projectedOn (s.laneOf n)

/-- The channels attached to lane `x` start with origin `o` (R33, R112). -/
def State.startChannels (s : State) (x : LaneId) (o : Position) : State :=
  s.forChannels fun n t => if t.attached x n then t.modChan n (·.startAt o) else t

/-- The channels attached to lane `x` stop (R35, R113). -/
def State.stopChannels (s : State) (x : LaneId) : State :=
  s.forChannels fun n t => if t.attached x n then t.modChan n (·.stop) else t

/-- The channels attached to lane `x` resume (R37, R114). -/
def State.resumeChannels (s : State) (x : LaneId) (p : Nat) : State :=
  s.forChannels fun n t => if t.attached x n then t.modChan n (·.resume p) else t

end Sys2Proof.Machine
end

