-- ==== Sys2Proof/Machine/Breaks.lean ====
section
/-! DEFINITION. The break unit (chapter 7): members, their entries and ends, and the end of a record. -/

namespace Sys2Proof.Machine

/-! ## Members -/

/-- Channel `n` is a member of break record `r`. -/
def State.inBreakRecord (s : State) (r : Fin 4) (n : Fin 16) : Bool :=
  match (s.chan n).brk with
  | some m => m.record == r
  | none => false

/-- The members of break record `r` (R130). -/
def State.breakMembers (s : State) (r : Fin 4) : ChannelSet := setOf (s.inBreakRecord r)

/-- The member is IN_BREAK. -/
def BreakMembership.entered (m : BreakMembership) : Bool :=
  match m.state with
  | .inBreak _ _ => true
  | .waiting _ => false

/-- The mode of the break that channel `n` is in, if it has entered one. -/
def State.breakModeOf (s : State) (n : Fin 16) : Option BreakMode :=
  match (s.chan n).brk with
  | some m => if m.entered then (s.brk m.record).map (·.mode) else none
  | none => none

/-- Channel `n` is muted (R133). -/
def State.muted (s : State) (n : Fin 16) : Bool := s.breakModeOf n == some .mute

/-- Channel `n` is halted (R136). -/
def State.halted (s : State) (n : Fin 16) : Bool := s.breakModeOf n == some .halt

/-- A FREE break record's index, the lowest (R131). -/
def State.freeBreak (s : State) : Option (Fin 4) := allRecords.find? fun r => (s.brk r).isNone

/-- Change break record `r` where it holds a break. -/
def State.modBrk (s : State) (r : Fin 4) (f : BreakRecord → BreakRecord) : State :=
  s.setBrk r ((s.brk r).map f)

/-! ## The end of a record (R140) -/

/-- STOPPED, else CANCELLED, else COMPLETE (R140). -/
def BreakRecord.reason (b : BreakRecord) : BreakReason :=
  if b.stopSeen then .stopped else if b.cancelSeen then .cancelled else .complete

/-- A record that has no member left posts BREAK_DONE and becomes FREE (R140). -/
def State.finishBreak (s : State) (r : Fin 4) : State :=
  match s.brk r with
  | none => s
  | some b =>
    if s.breakMembers r == 0 then
      (s.setBrk r none).post (.breakDone r b.reason b.mode b.set b.completed)
    else s

/-! ## Leaving (R139) -/

/-- The event by which a member leaves its record: a stop, or a disabling or cancel (R138, R139). -/
inductive LeaveBy where
  | stop
  | cancel
  deriving DecidableEq, Repr

/-- The record sees the event. -/
def BreakRecord.see (b : BreakRecord) : LeaveBy → BreakRecord
  | .stop => { b with stopSeen := true }
  | .cancel => { b with cancelSeen := true }

/-- Channel `n`'s membership becomes none and its record sees why; the record is not yet finished. -/
def State.dropMember (s : State) (n : Fin 16) (by_ : LeaveBy) : State :=
  match (s.chan n).brk with
  | none => s
  | some m => (s.modChan n fun c => { c with brk := none }).modBrk m.record (·.see by_)

/-- Channel `n` leaves its break record, which ends if it was the last member (R139, R140). -/
def State.leaveBreak (s : State) (n : Fin 16) (by_ : LeaveBy) : State :=
  match (s.chan n).brk with
  | none => s
  | some m => (s.dropMember n by_).finishBreak m.record

/-- The stop of lane `x` for record `r`: the members attached to the lane leave, and where the lane is the
timing lane every WAITING member leaves and stop seen is set, whether or not a member leaves (R139). A record
left without members ends. -/
def State.stopBreak (s : State) (x : LaneId) (r : Fin 4) : State :=
  match s.brk r with
  | none => s
  | some b =>
    let leaves (t : State) (n : Fin 16) : Bool :=
      match (t.chan n).brk with
      | some m => m.record == r && ((t.chan n).cfg.lane == x || (b.timing == x && !m.entered))
      | none => false
    let s := if b.timing = x then s.modBrk r (·.see .stop) else s
    (s.forChannels fun n t => if leaves t n then t.dropMember n .stop else t).finishBreak r

/-! ## Entering (R132, R133, R136) -/

/-- A CODE channel's bar code marks are cleared; those that another function still holds from before it are kept
(R133, R136). -/
def Channel.clearMarks (c : Channel) : Channel :=
  if c.cfg.function = .code then { c with barDue := false, phraseDue := false } else c

/-- What the entry of a break does to the channel's working state: the pulse owed goes for every function (R100), and
the bar code marks for CODE; a MUTE empties a CODE member's FIFO (R133), and a HALT clears the owing flag and puts STOP
into a CODE member's slot (R136). -/
def Channel.breakEntered (c : Channel) (mode : BreakMode) : Channel :=
  let c := Channel.clearMarks { c with pulseOwed := false }
  match mode with
  | .mute => if c.cfg.function = .code then { c with fifo := [] } else c
  | .halt => Channel.codePut { c with owing := false } .stop

/-- The WAITING member enters at this step: without a crossing, or because its projection on the timing
lane, which has made its work of the step, stands at or past the due beat, at an evaluation of its channel still to be
completed (R108, R132; DEDUCED, log 6). -/
def State.breakEntryDue (s : State) (n : Fin 16) : Bool :=
  match (s.chan n).brk with
  | some ⟨r, .waiting atOnce⟩ =>
    match s.brk r with
    | some b =>
      atOnce || match b.due with
        | .beat y => !(s.chan n).evaluated && s.settledLane b.timing && ((s.chan n).projectedOn (s.lane b.timing)).reached y
        | _ => false
    | none => false
  | _ => false

/-- The timing lane of a WAITING member with a due beat has still its work of the step to do, so that an entry due at
this step is not yet known (R132). -/
def State.breakEntryUnknown (s : State) (n : Fin 16) : Bool :=
  match (s.chan n).brk with
  | some ⟨r, .waiting false⟩ =>
    match s.brk r with
    | some b =>
      match b.due with
      | .beat _ => !(s.chan n).evaluated && !s.settledLane b.timing
      | _ => false
    | none => false
  | _ => false

/-- Channel `n` enters its break: beats remaining take the length, and the break beat mark is the due beat
at a crossing on the timing lane, and the beat of the projection on the channel's own lane otherwise
(R132). -/
def State.enterBreak (s : State) (n : Fin 16) : State :=
  match (s.chan n).brk with
  | some ⟨r, .waiting atOnce⟩ =>
    match s.brk r with
    | some b =>
      let own := (s.projection n).beat
      let mark := match b.due with
        | .beat y => if !atOnce && (s.chan n).cfg.lane == b.timing then y else own
        | _ => own
      (s.modChan n fun c =>
        ({ c with brk := some ⟨r, .inBreak b.length mark⟩ }).breakEntered b.mode).modBrk r
          fun b => { b with active := true }
    | none => s
  | _ => s

/-! ## Counting and ending (R134 to R138) -/

/-- The member's beats crossed since its mark: the distance from the break beat mark to the beat of its
projection (R134). -/
def State.beatsCrossed (s : State) (n : Fin 16) (mark : U32) : Int := ahead (s.projection n).beat mark

/-- The boundary at which the member ends its break at this step: its end boundary when the beats crossed
use up the beats remaining, or the next boundary of a cancelled HALT (R134, R138). The flag says COMPLETE. -/
def State.breakEndAt (s : State) (n : Fin 16) : Option (U32 × Bool) :=
  match (s.chan n).brk with
  | some ⟨r, .inBreak beats mark⟩ =>
    match s.brk r with
    | some b =>
      let k := s.beatsCrossed n mark
      if b.mode == .halt && b.cancelPending && 0 < k then some (mark + 1, false)
      else if 0 < k && (beats : Int) ≤ k then some (mark + BitVec.ofNat 32 beats, true)
      else none
    | none => none
  | _ => none

/-- A member's count of beats at an evaluation at which it does not end (R134). -/
def State.countBreak (s : State) (n : Fin 16) : State :=
  match (s.chan n).brk with
  | some ⟨r, .inBreak beats mark⟩ =>
    let k := s.beatsCrossed n mark
    if 0 < k then
      s.modChan n fun c => { c with brk := some ⟨r, .inBreak (beats - k.toNat) (s.projection n).beat⟩ }
    else s
  | _ => s

/-- The count on the old lane of a member about to switch: the beats crossed by the step of the switch are counted
(R134), but for a completing count or a HALT end, which is judged after the switch (R151; DEDUCED, log 12). -/
def State.countBeforeSwitch (s : State) (n : Fin 16) : State :=
  if (s.breakEndAt n).isNone then s.countBreak n else s

/-- The end actions of a HALT at boundary `y` on lane record `l` (R137). -/
def Channel.haltEnd (c : Channel) (l : Lane) (y : U32) : Channel :=
  let c := c.reorigin (.atBeat y)
  match c.cfg.function with
  | .code => c.putSlot (.resume (barCountAt l y))
  | .bar => { c with pulseOwed := isStart .bar l y }
  | .phrase => { c with pulseOwed := isStart .phrase l y }
  | _ => c

/-- Member `n` of record `r` ends its break at boundary `y`: the end actions of its mode (R135, R137), its
membership none, the completed set where it ends COMPLETE; the record ends after its last member (R140). -/
def State.endMember (s : State) (n : Fin 16) (y : U32) (complete : Bool) : State :=
  match (s.chan n).brk with
  | none => s
  | some m =>
    let halt := s.halted n
    let s := s.modChan n fun c =>
      let c := { c with brk := none }
      if halt then c.haltEnd (s.laneOf n) y else c
    let s := if complete then s.modBrk m.record fun b => { b with completed := addTo b.completed n } else s
    s.finishBreak m.record

/-- The break beat mark set afresh when the member's channel is re-origined at beat `y` of a new lane:
`y` − 1 when its projection on the old lane stood half a beat or more past its last boundary (R134). -/
def Channel.remark (c : Channel) (oldProjection : Position) (y : U32) : Channel :=
  match c.brk with
  | some ⟨r, .inBreak beats _⟩ =>
    { c with brk := some ⟨r, .inBreak beats (if 2 ^ 47 ≤ oldProjection.phase.toNat then y - 1 else y)⟩ }
  | _ => c

end Sys2Proof.Machine
end

