-- ==== Sys2Proof/Machine/Handovers.lean ====
section
/-! DEFINITION. The handover unit's records (chapter 8): members, the end and the cancelling of a record, and
the inter-lane measurement with its test. -/

namespace Sys2Proof.Machine

/-- Channel `n` is a member of handover record `r`. -/
def State.inHandoverRecord (s : State) (r : Fin 4) (n : Fin 16) : Bool :=
  match (s.chan n).ho with
  | some m => m.record == r
  | none => false

/-- The members of handover record `r` (R142). -/
def State.handoverMembers (s : State) (r : Fin 4) : ChannelSet := setOf (s.inHandoverRecord r)

/-- The from-lane of a record. -/
def HandoverRecord.fromLane (h : HandoverRecord) : LaneId := otherLane h.toLane

/-- The switch beat where the record holds one. -/
def HandoverRecord.switchBeat (h : HandoverRecord) : Option U32 :=
  match h.stage with
  | .switchDue _ y _ => some y
  | .waitingAlign => none

/-- The from-lane switch beat where the record holds one. -/
def HandoverRecord.fromSwitchBeat (h : HandoverRecord) : Option U32 :=
  match h.stage with
  | .switchDue _ _ f => f
  | .waitingAlign => none

/-- The outcome a record ends with by itself: its own where a channel has switched, else CANCELLED (R153). -/
def HandoverRecord.doneOutcome (h : HandoverRecord) : DoneOutcome :=
  if h.switched == 0 then .cancelled
  else match h.stage with
    | .switchDue .aligned _ _ => .aligned
    | .switchDue .forced _ _ => .forced
    | .switchDue .cut _ _ => .cut
    | .waitingAlign => .cancelled

/-- A FREE handover record's index, the lowest (R143). -/
def State.freeHandover (s : State) : Option (Fin 4) := allRecords.find? fun r => (s.ho r).isNone

/-- A record with no members left posts HANDOVER_DONE and becomes FREE (R153). -/
def State.finishHandover (s : State) (r : Fin 4) : State :=
  match s.ho r with
  | none => s
  | some h =>
    if s.handoverMembers r == 0 then
      (s.setHo r none).post
        (.handoverDone r h.doneOutcome h.fromLane h.toLane h.set h.switched h.switchBeat)
    else s

/-- Channel `n` leaves its handover record without switching (R154). -/
def State.leaveHandover (s : State) (n : Fin 16) : State :=
  match (s.chan n).ho with
  | none => s
  | some m => (s.modChan n fun c => { c with ho := none }).finishHandover m.record

/-- Record `r` is cancelled: the remaining members become plain channels of the from-lane, and
HANDOVER_DONE is posted with CANCELLED (R155, R156). -/
def State.cancelHandover (s : State) (r : Fin 4) : State :=
  match s.ho r with
  | none => s
  | some h =>
    let s := s.forChannels fun n t =>
      if t.inHandoverRecord r n then t.modChan n fun c => { c with ho := none } else t
    (s.setHo r none).post (.handoverDone r .cancelled h.fromLane h.toLane h.set h.switched h.switchBeat)

/-- The stop of lane `x` cancels record `r` when it is the record's from-lane or to-lane (R155): every record
joins the two lanes, so every record is cancelled. -/
def State.stopHandover (s : State) (x : LaneId) (r : Fin 4) : State :=
  match s.ho r with
  | none => s
  | some h => if h.fromLane == x || h.toLane == x then s.cancelHandover r else s

/-! ## Windows and switch beats (R142, R144) -/

/-- The windows in phase units (R142). -/
def Window.units : Window → Nat
  | .w64 => 2 ^ 42
  | .w32 => 2 ^ 43
  | .w16 => 2 ^ 44
  | .w8 => 2 ^ 45

/-- The first of `cand`, `cand` + `step`, `cand` + 2 `step`, ... that stands above beat `h` (R71, R144). -/
def firstAbove (cand h : U32) (step : Nat) : U32 :=
  if 0 < ahead cand h then cand
  else cand + BitVec.ofNat 32 (step * ((ahead h cand).toNat / step + 1))

/-- The candidates of R71 above H, for counters that stand at beat `at_`. -/
def nextStartFrom (at_ : U32) (len : AlignLength) (l : Lane) : U32 :=
  match len with
  | .beat => l.high + 1
  | .bar => firstAbove (at_ + BitVec.ofNat 32 (l.beatsPerBar - l.beatInBar)) l.high l.beatsPerBar
  | .phrase =>
    firstAbove (at_ + BitVec.ofNat 32 ((l.barsPerPhrase - l.barInPhrase) * l.beatsPerBar - l.beatInBar))
      l.high (l.beatsPerBar * l.barsPerPhrase)

/-- The NEXT_BEAT, NEXT_BAR and NEXT_PHRASE candidates of a lane, above H (R71). -/
def nextStart (len : AlignLength) (l : Lane) : U32 := nextStartFrom l.pos.beat len l

/-- The unit of a resolution in beats (R144). -/
def unitBeats (len : AlignLength) (l : Lane) : Nat :=
  match len with
  | .beat => 1
  | .bar => l.beatsPerBar
  | .phrase => l.beatsPerBar * l.barsPerPhrase

/-- The switch beat: the candidate of R71 on the to-lane, whose counters stand at beat `at_`, moved on by whole
units until it stands above the beat of every member's projection there (R144). -/
def State.switchBeatFor (s : State) (r : Fin 4) (x : LaneId) (at_ : U32) (len : AlignLength) : U32 :=
  allChannels.foldl (fun y n =>
    if s.inHandoverRecord r n then
      firstAbove y ((s.chan n).projectedOn (s.lane x)).beat (unitBeats len (s.lane x))
    else y) (nextStartFrom at_ len (s.lane x))

/-! ## Measurement, test and deadline (R146 to R148) -/

/-- The inter-lane residual of a known boundary for a record (R146): the to-lane's side from the boundary,
the lane side and unit from the from-lane as it stands, NEAREST. -/
def interLaneResidual (k : KnownBoundary) (len : AlignLength) (f : Lane) : Int :=
  reduceResidual .nearest
    ((relPosition len k.beatInBar k.barInPhrase k.beatsPerBar k.phase : Int)
      - relPosition len f.beatInBar f.barInPhrase f.beatsPerBar f.pos.phase)
    (unitLength len f.beatsPerBar f.barsPerPhrase)

/-- The from-lane beat nearest the from-lane's position (R147). -/
def nearestBeat (p : Position) : U32 := if p.phase.toNat < 2 ^ 47 then p.beat else p.beat + 1

/-- The measurement, the window test and the deadline count of record `r` at a known boundary (R146 to R148);
`at_` is the to-lane's beat that its counters stand at, from which a switch beat is resolved (R144). -/
def State.measure (s : State) (k : KnownBoundary) (at_ : U32) (r : Fin 4) : State :=
  match s.ho r with
  | none => s
  | some h =>
    if h.toLane == k.lane && h.stage == .waitingAlign then
      let f := s.lane h.fromLane
      let res := interLaneResidual k h.alignLength f
      let h := { h with residual := some res }
      if res.natAbs ≤ h.window.units then
        let y := s.switchBeatFor r k.lane at_ h.alignLength
        s.setHo r (some { h with stage := .switchDue .aligned y (some (nearestBeat f.pos + (y - k.index))) })
      else if k.bar then
        if h.deadline ≤ 1 then
          s.setHo r (some { h with deadline := 0
                                   stage := .switchDue .forced (s.switchBeatFor r k.lane at_ .bar) none })
        else s.setHo r (some { h with deadline := h.deadline - 1 })
      else s.setHo r (some h)
    else s

/-- The boundary does not measure record `r`, opened after it was made known (R146). -/
def KnownBoundary.without (r : Fin 4) (k : KnownBoundary) : KnownBoundary := { k with later := r :: k.later }

/-- Every record measured at a known boundary, in increasing index; one opened after it has its first measurement at
the next boundary (R146). -/
def State.measureAll (s : State) (k : KnownBoundary) (at_ : U32) : State :=
  allRecords.foldl (fun t r => if r ∈ k.later then t else t.measure k at_ r) s

/-- The known boundaries whose from-lane has done its own work of the step are measured, in order; the
others go on waiting (R146). -/
def State.measureKnown (s : State) : State :=
  s.known.foldl (fun t k =>
    if (t.lane (otherLane k.lane)).crossing then { t with known := t.known ++ [k] }
    else t.measureAll k (t.lane k.lane).pos.beat)
    { s with known := [] }

/-- Lane `x`'s announced boundary `index` made known to the handover unit, the lane's counters standing at beat
`at_` (part 7 of R23, R146). -/
def State.makeKnown (s : State) (x : LaneId) (index at_ : U32) (bar : Bool) : State :=
  let l := s.lane x
  let k : KnownBoundary := ⟨x, index, bar, l.beatInBar, l.barInPhrase, l.beatsPerBar, l.pos.phase, []⟩
  if (s.lane (otherLane x)).crossing then { s with known := s.known ++ [k] } else s.measureAll k at_

end Sys2Proof.Machine
end

