-- ==== Sys2Proof/Machine/Schedule.lean ====
section
/-! DEFINITION. The pending-change queue (chapter 4): take modes and their resolution, ids, the generation
count, entries added, re-timed, taken and discarded. -/

namespace Sys2Proof.Machine

/-- The take modes of R69. -/
inductive TakeMode where
  | immediate
  | nextBeat
  | nextBar
  | nextPhrase
  | afterBars (n : Nat)
  | cue (c : Fin 4)
  | join
  deriving DecidableEq, Repr

/-- The boundary take modes (R69). -/
def TakeMode.isBoundary : TakeMode → Bool
  | .nextBeat => true
  | .nextBar => true
  | .nextPhrase => true
  | .afterBars _ => true
  | _ => false

/-- A boundary take mode resolved to a due beat on a lane record (R71). -/
def TakeMode.dueBeat (m : TakeMode) (l : Lane) : U32 :=
  match m with
  | .nextBar => nextStart .bar l
  | .nextPhrase => nextStart .phrase l
  | .afterBars n => nextStart .bar l + BitVec.ofNat 32 ((n - 1) * l.beatsPerBar)
  | _ => nextStart .beat l

/-- The take modes a preset holds (R86). -/
def PresetTake.takeMode : PresetTake → TakeMode
  | .immediate => .immediate
  | .nextBeat => .nextBeat
  | .nextBar => .nextBar
  | .nextPhrase => .nextPhrase

/-- The most entries the queue holds (R72). -/
abbrev queueCapacity : Nat := 24

/-- The queue holds 24 entries (R70). -/
def State.queueFull (s : State) : Bool := queueCapacity ≤ s.queue.length

/-- The queue generation count increases by one (R84). -/
def State.bumpGeneration (s : State) : State := { s with generation := s.generation + 1 }

/-- The first id from `c` on, in turn and wrapping at 256, that no entry of the queue holds (R70). -/
def freeId (held : List Nat) : Nat → Nat → Nat
  | 0, c => c
  | fuel + 1, c => if held.contains c then freeId held fuel ((c + 1) % 256) else c

/-- The id the next entry takes (R70). -/
def State.nextId (s : State) : Nat := freeId (s.queue.map (·.id)) 256 (s.idCounter % 256)

/-- An entry is made and placed last in acceptance order; the id counter moves past its id and the
generation count increases (R70, R73). -/
def State.addEntry (s : State) (maker : Maker) (timing : LaneId) (due : Due) (change : Change) : State :=
  let id := s.nextId
  State.bumpGeneration { s with
    queue := s.queue ++ [⟨id, maker, timing, due, change⟩]
    idCounter := (id + 1) % 256 }

/-- The entry with an id leaves the queue (R72). -/
def State.removeEntry (s : State) (id : Nat) : State :=
  State.bumpGeneration { s with queue := s.queue.filter fun e => e.id != id }

/-- The entry with an id gets a due point, and with it a timing lane, keeping its place (R30, R73, R81). The
generation count is the caller's. -/
def State.retime (s : State) (id : Nat) (timing : LaneId) (due : Due) : State :=
  { s with queue := s.queue.map fun e => if e.id = id then { e with timing := timing, due := due } else e }

/-- The subject of an entry's CHANGE_APPLIED (R75). -/
def Change.target : Change → Target
  | .tempo x _ _ => .lane x
  | .meter x _ _ => .lane x
  | .source x _ => .lane x
  | .transport x _ => .lane x
  | .channel n _ => .channel n

/-- The kind of a change (R72). -/
def Change.kind : Change → EntryKind
  | .tempo _ _ _ => .tempo
  | .meter _ _ _ => .meter
  | .source _ _ => .source
  | .transport _ _ => .transport
  | .channel _ _ => .channel

/-- CHANGE_APPLIED for an entry (R75). -/
def State.postApplied (s : State) (e : Entry) (applied : Bool) : State :=
  s.post (.changeApplied e.change.target e.id e.change.kind e.maker applied)

/-- Every entry timed by lane `x` is discarded, with CHANGES_DISCARDED when there is one (R36, R83). -/
def State.discardTimed (s : State) (x : LaneId) : State :=
  let n := (s.queue.filter fun e => e.timing == x).length
  if n = 0 then s
  else (State.bumpGeneration { s with queue := s.queue.filter fun e => e.timing != x }).post
    (.changesDiscarded x n)

/-! ## Queue order (R73) -/

/-- The due distance of an entry from beat `h`, for the due order of R73. -/
def Entry.dueFrom (e : Entry) (h : U32) : Int :=
  match e.due with
  | .beat y => ahead y h
  | _ => 0

/-- An entry placed by due distance among entries so ordered, before those it was accepted before (R73). -/
def insertDue (h : U32) (e : Entry) : List Entry → List Entry
  | [] => [e]
  | f :: rest => if e.dueFrom h ≤ f.dueFrom h then e :: f :: rest else f :: insertDue h e rest

/-- Entries in due order, equal dues in acceptance order (R73). -/
def sortDue (h : U32) : List Entry → List Entry
  | [] => []
  | e :: rest => insertDue h e (sortDue h rest)

/-- The entry is due at a beat. -/
def Entry.isBeatDue (e : Entry) : Bool :=
  match e.due with
  | .beat _ => true
  | _ => false

/-- The beat-due entries timed by lane `x`, in queue order (R73). -/
def State.beatDue (s : State) (x : LaneId) : List Entry :=
  sortDue (s.lane x).high (s.queue.filter fun e => e.timing == x && e.isBeatDue)

/-- The beat-due CHANNEL entries of channel `n`, in queue order (R76, R77). Model's choice (log 19): R73 orders the
entries of one lane only, and those timed by lane A stand before those timed by lane B here. -/
def State.channelEntries (s : State) (n : Fin 16) : List Entry :=
  (s.beatDue .a ++ s.beatDue .b).filter fun e => e.change.target == .channel n

/-- The oldest entry that meets `p`. -/
def State.findEntry (s : State) (p : Entry → Bool) : Option Entry := s.queue.find? p

/-- The source a join waits for. -/
def JoinWait.source : JoinWait → SourceKind
  | .bus n _ => .bus n
  | .lane _ => .lane

/-- The source boundary that the entry, a START with JOIN of lane `x`, waits for (R72, R78). -/
def Entry.joinWait (e : Entry) (x : LaneId) : Option JoinWait :=
  match e.change, e.due with
  | .transport y .join, .join w => if y = x then some w else none
  | _, _ => none

/-- The entry is a START with JOIN of lane `x` still waiting for its source. -/
def Entry.isJoinOf (e : Entry) (x : LaneId) : Bool := (e.joinWait x).isSome

/-- The entry is a START with JOIN of lane `x` waiting for the source `k`. -/
def Entry.joinsOn (e : Entry) (x : LaneId) (k : SourceKind) : Bool :=
  match e.joinWait x with
  | some w => w.source == k
  | none => false

/-- The other lane has crossed a boundary: the joins of lane `x` that wait for a LANE source's boundary come
due (R78). -/
def State.ripenJoins (s : State) (x : LaneId) : State :=
  { s with queue := s.queue.map fun e => if e.joinsOn x .lane then { e with due := .join (.lane true) } else e }

end Sys2Proof.Machine
end

