-- ==== Sys2Proof/Machine/Sources.lean ====
section
/-! DEFINITION. Following (sections 3.5 and 3.6): what a lane's source supplies, the follow state, the
residual with its aligned flag, the reduction and the lane increment. -/

namespace Sys2Proof.Machine

/-! ## What a source supplies (R17, R44, R61, R65) -/

/-- What a LOCKED source supplies of its position (R44): a phase, the counters where it counts them (with the
meter they count under), and the beat count where its evidence carries one. -/
structure SourceSide where
  phase : BitVec 48
  beatInBar : Nat
  barInPhrase : Nat
  beatsPerBar : Nat
  beat : Option U32
  deriving DecidableEq, Repr

/-- The first step after `now` at which a position that has gone `v` phase units, at `i` a step, carries into a
new beat (R44). -/
def nextCarry (now v i : Nat) : Nat := now + ceilDiv (beatUnits - v % beatUnits) i

/-- The phase units a LOCKED tracker's position has gone at step `now` since its anchor, with its estimate (R17,
R44). -/
def gone (lock : LockState) (estimate anchor : Option Nat) (now : Nat) : Option (Nat × Nat) :=
  match lock, estimate, anchor with
  | .locked, some i, some a => some (i * since now a, i)
  | _, _, _ => none

/-- The tap tracker's position estimate: a phase (R47). -/
def TapTracker.side (t : TapTracker) (now : Nat) : Option SourceSide :=
  (gone t.lock t.estimate t.anchor now).map fun p => ⟨BitVec.ofNat 48 p.1, 0, 0, 1, none⟩

/-- The tap tracker's predicted next source beat boundary: the first step at which its phase carries (R44, R47). -/
def TapTracker.predicted (t : TapTracker) (now : Nat) : Option Nat :=
  (gone t.lock t.estimate t.anchor now).map fun p => nextCarry now p.1 p.2

/-- The reference tracker's position estimate: phase and beat-in-bar, which holds at 15 (R50). -/
def RefTracker.side (t : RefTracker) (now : Nat) : Option SourceSide :=
  (gone t.lock t.estimate t.anchor now).map fun p =>
    ⟨BitVec.ofNat 48 p.1, min 15 (t.beatInBar + p.1 / beatUnits), 0, 1, none⟩

/-- The reference tracker's predicted next source beat boundary (R44). -/
def RefTracker.predicted (t : RefTracker) (now : Nat) : Option Nat :=
  (gone t.lock t.estimate t.anchor now).map fun p => nextCarry now p.1 p.2

/-- The phase units a frame's position has advanced since its beat began, at step `now` (R58). -/
def BusFrame.travelled (f : BusFrame) (ref now : Nat) : Nat := f.phase.toNat + f.increment * since now ref

/-- The frame carried forward: beat count and phase, and both counters under the frame's own meter (R58). -/
def BusFrame.side (f : BusFrame) (ref now : Nat) : SourceSide :=
  let v := f.travelled ref now
  let beats := f.barInPhrase * f.beatsPerBar + f.beatInBar + v / beatUnits
  ⟨BitVec.ofNat 48 v, beats % f.beatsPerBar, beats / f.beatsPerBar % f.barsPerPhrase, f.beatsPerBar,
    some (f.beat + BitVec.ofNat 32 (v / beatUnits))⟩

/-- The frame a LOCKED bus tracker extrapolates, with its reference step (R44, R58). -/
def BusTracker.evidence (t : BusTracker) : Option (BusFrame × Nat) := if t.lock = .locked then t.last else none

/-- A bus tracker's position estimate (R58). -/
def BusTracker.side (t : BusTracker) (now : Nat) : Option SourceSide := t.evidence.map fun p => p.1.side p.2 now

/-- The predicted next source beat boundary of a bus tracker (R44, R58). -/
def BusTracker.predicted (t : BusTracker) (now : Nat) : Option Nat :=
  t.evidence.map fun p => nextCarry now (p.1.travelled p.2 now) p.1.increment

/-- The lane as a source side (R61). -/
def Lane.side (l : Lane) : SourceSide :=
  ⟨l.pos.phase, l.beatInBar, l.barInPhrase, l.beatsPerBar, some l.pos.beat⟩

/-- The lock state of source `k` for lane `x`; none for FREE (R61, R63). -/
def State.lockOf (s : State) (x : LaneId) (k : SourceKind) : Option LockState :=
  match k with
  | .free => none
  | .tap => some s.tap.lock
  | .reference => some s.ref.lock
  | .bus n => some (s.busTracker n).lock
  | .lane => some (if (s.lane (otherLane x)).isRunning then .locked else .holdover)

/-- The lock state of lane `x`'s source (R61, R63). -/
def State.sourceLock (s : State) (x : LaneId) : Option LockState := s.lockOf x (s.lane x).source

/-- The tempo estimate of lane `x`'s source. -/
def State.sourceEstimate (s : State) (x : LaneId) : Option Nat :=
  match (s.lane x).source with
  | .free => none
  | .tap => s.tap.estimate
  | .reference => s.ref.estimate
  | .bus n => (s.busTracker n).estimate
  | .lane => some (s.lane (otherLane x)).increment

/-- What source `k` supplies of its position to lane `x` at this step (R44, R61). -/
def State.sideOf (s : State) (x : LaneId) (k : SourceKind) : Option SourceSide :=
  match k with
  | .free => none
  | .tap => s.tap.side s.clock
  | .reference => s.ref.side s.clock
  | .bus n => (s.busTracker n).side s.clock
  | .lane => some (s.lane (otherLane x)).side

/-- The source side of lane `x`'s reduction at this step (R65). -/
def State.sourceSide (s : State) (x : LaneId) : Option SourceSide := s.sideOf x (s.lane x).source

/-- The predicted next source beat boundary of source `k` (R44); the LANE source's is the other lane's next
boundary, whose step is known when it comes (R61, `State.ripenJoins`). -/
def State.predictedOf (s : State) (k : SourceKind) : Option Nat :=
  match k with
  | .free | .lane => none
  | .tap => s.tap.predicted s.clock
  | .reference => s.ref.predicted s.clock
  | .bus n => (s.busTracker n).predicted s.clock

/-- The alignment length in force: the lane's setting with the fall-backs of R8. -/
def State.alignInForce (s : State) (x : LaneId) : AlignLength :=
  let l := s.lane x
  match l.source with
  | .tap => .beat
  | .reference =>
    if !s.ref.downbeat then .beat else if l.alignLength == .beat then .beat else .bar
  | _ => l.alignLength

/-! ## Residual, aligned flag and pull (R9 to R13) -/

/-- The lane's unit length in force (R8). -/
def State.unitInForce (s : State) (x : LaneId) : Nat :=
  unitLength (s.alignInForce x) (s.lane x).beatsPerBar (s.lane x).barsPerPhrase

/-- r and p become 0 and the aligned flag is cleared without a notice (R12, R35, R63). -/
def Lane.clearPull (l : Lane) : Lane := { l with residual := 0, pullRate := 0, aligned := false }

/-- The residual becomes `r`; the aligned flag is evaluated by R12, with ALIGNED when it becomes set. -/
def State.setResidual (s : State) (x : LaneId) (r : Int) (reduction : Bool) : State :=
  let was := (s.lane x).aligned
  let now := alignedAfter was r reduction
  let s := s.modLane x fun l => { l with residual := r, aligned := now }
  if now && !was then s.post (.aligned x) else s

/-- The residual brought into the range in force after a change of setting, meter or fall-back (R9). -/
def State.rangeResidual (s : State) (x : LaneId) : State :=
  let l := s.lane x
  let r := clampResidual l.alignMode (s.unitInForce x) l.residual
  if r = l.residual then s else s.setResidual x r false

/-- The alignment reduction and the pull rate set after it (R8 to R10, R65). -/
def State.reduce (s : State) (x : LaneId) : State :=
  match s.sourceSide x with
  | none => s
  | some src =>
    let l := s.lane x
    let len := s.alignInForce x
    let d : Int := (relPosition len src.beatInBar src.barInPhrase src.beatsPerBar src.phase : Int)
      - relPosition len l.beatInBar l.barInPhrase l.beatsPerBar l.pos.phase
    let u := s.unitInForce x
    let r := reduceResidual l.alignMode d u
    (s.modLane x fun l => { l with
      barOffset := clampOffset (reduceQuotient l.alignMode d u)
      pullRate := pullRateFor l.increment l.pullLimit r }).setResidual x r true

/-! ## Increment and glide -/

/-- Lane `x` is STOPPED and FOLLOWING: it takes its source's estimate and any glide becomes absent (R66). -/
def State.takeEstimate (s : State) (x : LaneId) : State :=
  let l := s.lane x
  if !l.isRunning && l.follow == .following then
    match s.sourceEstimate x with
    | some i => s.setLane x { l with increment := i, glide := none }
    | none => s
  else s

/-- Lane `x`'s increment becomes `i`. A change while it runs is a tracker update of the other lane where that
follows it (R61, R66). -/
def State.setIncrement (s : State) (x : LaneId) (i : Nat) : State :=
  let was := (s.lane x).increment
  let s := s.modLane x fun l => { l with increment := i }
  if i ≠ was ∧ (s.lane x).isRunning ∧ (s.lane (otherLane x)).source = .lane then s.takeEstimate (otherLane x)
  else s

/-- A present glide takes one step of its staircase, with GLIDE_DONE at its last (R6). -/
def State.glideStep (s : State) (x : LaneId) : State :=
  match (s.lane x).glide with
  | none => s
  | some g =>
    let j := g.index + 1
    if j < g.length then
      (s.modLane x fun l => { l with glide := some { g with index := j } }).setIncrement x (g.at j)
    else
      ((s.modLane x fun l => { l with glide := none }).setIncrement x g.target).post (.glideDone x)

/-- A new tempo target with a glide length (R7): at once for length 0, by a new glide otherwise. A present
glide is replaced and takes no step at the boundary being worked. -/
def State.newTarget (s : State) (x : LaneId) (target g : Nat) : State :=
  if g = 0 then (s.modLane x fun l => { l with glide := none, glideDue := false }).setIncrement x target
  else s.modLane x fun l => { l with glide := some (Glide.make l.increment target g), glideDue := false }

/-- The follow comparison of part 4 of R23 (R64). -/
def State.followCompare (s : State) (x : LaneId) : State :=
  let l := s.lane x
  if l.follow == .following then
    match s.sourceEstimate x with
    | none => s
    | some e =>
      let target := match l.glide with
        | some g => g.target
        | none => l.increment
      if l.increment < ((e : Int) - target).natAbs * 4096 then s.newTarget x e l.followGlide else s
  else s

/-! ## Follow state (R63) -/

/-- Lane `x`'s source has become LOCKED (R63, R66). -/
def State.followLocked (s : State) (x : LaneId) : State :=
  (s.modLane x fun l => if l.follow == .holdover then { l with follow := .following } else l).takeEstimate x

/-- Lane `x`'s source has left LOCKED (R63). -/
def State.followLeft (s : State) (x : LaneId) : State :=
  s.modLane x fun l => if l.follow == .following then { l.clearPull with follow := .holdover } else l

/-- Lane `x` has started: a transition to LOCKED for the other lane where its source is LANE (R61). Model's choice
(log 19): SOURCE_LOCKED of the follower stands after TRANSPORT_STARTED of the lane, two notices no rule orders. -/
def State.laneStarted (s : State) (x : LaneId) : State :=
  let o := otherLane x
  if (s.lane o).source = .lane then
    (s.post (.sourceLocked (.lane o) (incrementToTempo (s.lane x).increment) none)).followLocked o
  else s

end Sys2Proof.Machine
end

