-- ==== Sys2Proof/Machine/Lanes.lean ====
section
/-! DEFINITION. The changes a lane can undergo (chapter 2): tempo, meter, source, start, join, stop, resume,
copy and nudge. -/

namespace Sys2Proof.Machine

/-! ## The transmit request of the lead role (R172) -/

/-- The lead lane's boundary or stop makes the transmit request, replacing what stood there; any other lane's
changes nothing (R172). -/
def State.leadRequest (s : State) (x : LaneId) (kind : TxKind) : State :=
  if s.bus.settings.lead = some x then
    s.modBus fun b => { b with request := some ⟨kind, false, false, false⟩ }
  else s

/-! ## Tempo (R28) and meter (R30) -/

/-- A TEMPO change: not carried out on a lane whose source kind is not FREE (R28). -/
def State.applyTempo (s : State) (x : LaneId) (increment glide : Nat) : State × Bool :=
  if (s.lane x).source = .free then (s.newTarget x increment glide, true) else (s, false)

/-- A METER change takes effect now on a STOPPED lane, and on a RUNNING lane at its own announced bar boundary
(`here`); in every other case it is held over (R30). -/
def State.meterNow (s : State) (x : LaneId) (here : Option LaneId) : Bool :=
  !(s.lane x).isRunning || (here == some x && (s.lane x).beatInBar == 0)

/-- A METER change that takes effect (R30). On a STOPPED lane both counters are reduced modulo the new meter.
At a bar boundary a bar-in-phrase at or above the new bars per phrase makes a phrase boundary. -/
def State.applyMeter (s : State) (x : LaneId) (beatsPerBar barsPerPhrase : Nat) : State :=
  let l := s.lane x
  let l' :=
    if l.isRunning then
      if l.barInPhrase < barsPerPhrase then l
      else { l with barInPhrase := 0, phraseCount := l.phraseCount + 1 }
    else { l with beatInBar := l.beatInBar % beatsPerBar, barInPhrase := l.barInPhrase % barsPerPhrase }
  (s.setLane x { l' with beatsPerBar := beatsPerBar, barsPerPhrase := barsPerPhrase }).rangeResidual x

/-! ## Starts, resume and copy (R32 to R34, R37, R39) -/

/-- A lane RUNNING at `pos` with the given counters, H at its beat (R21, R32, R34). -/
def Lane.startedAt (l : Lane) (pos : Position) (beatInBar barInPhrase : Nat) (barCount : U32) : Lane :=
  { l.clearPull with
    transport := .running
    pos := pos
    beatInBar := beatInBar
    barInPhrase := barInPhrase
    barCount := barCount
    phraseCount := 0
    high := pos.beat
    crossing := false
    copiedPull := 0 }

/-- START (R32, R33). -/
def State.startLane (s : State) (x : LaneId) : State :=
  (((s.modLane x (·.startedAt .zero 0 0 0)).post (.transportStarted x .start)).startChannels x .zero).laneStarted x

/-- START with JOIN on the source side `src`, at its beat boundary (R34). -/
def State.joinLane (s : State) (x : LaneId) (src : SourceSide) : State :=
  let pos := Position.atBeat (BitVec.ofNat 32 (src.barInPhrase * src.beatsPerBar + src.beatInBar))
  let l := s.lane x
  (((s.setLane x (l.startedAt pos (src.beatInBar % l.beatsPerBar) (src.barInPhrase % l.barsPerPhrase)
    (BitVec.ofNat 32 src.barInPhrase))).post (.transportStarted x .join)).startChannels x pos).laneStarted x

/-- RESUME (R37). -/
def State.resumeLane (s : State) (x : LaneId) : State :=
  let s := (s.modLane x fun l => { l.clearPull with transport := .running }).post (.transportStarted x .resume)
  (s.resumeChannels x ((s.lane x).barCount.toNat % 16384)).laneStarted x

/-- COPY from lane `f` into the other lane (R39). An advance of this step still to be made is copied with the
position, its pull included, so that both lanes stand at the same position after the step (DEDUCED, log 3). -/
def State.copyLane (s : State) (f : LaneId) : State :=
  let x := otherLane f
  let l := s.lane f
  let s := s.modLane x fun t => { t.clearPull with
    transport := .running
    increment := l.increment
    glide := none
    pos := l.pos
    beatInBar := l.beatInBar
    barInPhrase := l.barInPhrase
    barCount := l.barCount
    phraseCount := l.phraseCount
    high := l.pos.beat
    beatsPerBar := l.beatsPerBar
    barsPerPhrase := l.barsPerPhrase
    source := .free
    follow := .free
    barOffset := 0
    crossing := l.crossing
    copiedPull := if l.crossing then pullAmount l.residual l.pullRate + l.copiedPull else 0
    glideDue := false }
  ((s.post (.transportStarted x .copy)).startChannels x l.pos).laneStarted x

/-! ## Joins that end in a plain START (R79) -/

/-- A kind a JOIN may wait on (R31). -/
def SourceKind.joinable : SourceKind → Bool
  | .bus _ => true
  | .lane => true
  | _ => false

/-- A due JOIN entry of lane `x` carried out as a plain START; IGNORED where the lane is RUNNING or its source is
no longer BUS or LANE (R31, R79). -/
def State.plainJoin (s : State) (e : Entry) (x : LaneId) : State :=
  let s := s.removeEntry e.id
  if (s.lane x).isRunning || !(s.lane x).source.joinable then s.postApplied e false
  else (s.startLane x).postApplied e true

/-- The source `k` has left LOCKED: the JOIN entries of lane `x` that wait for it come due, whatever lane `x`'s
present source (R79). -/
def State.joinsLeft (s : State) (x : LaneId) (k : SourceKind) : State :=
  (s.queue.filter (·.joinsOn x k)).foldl (fun t e => t.plainJoin e x) s

/-! ## Stop (R35, R36) -/

/-- STOP, with the notices in the order of R36. Then the other lane, where it follows this one, loses its
source (R61), and its joins that wait for this lane come due (R79). Model's choice (log 19): SOURCE_HOLDOVER of that lane
and the notices of those joins stand behind the notices of R36 and before the CHANGE_APPLIED of a STOP entry. -/
def State.stopLane (s : State) (x : LaneId) : State :=
  let s := (s.modLane x fun l => { l.clearPull with transport := .stopped, crossing := false, copiedPull := 0 }).post
    (.transportStopped x)
  let s := ((s.leadRequest x .stop).stopChannels x).discardTimed x
  let s := allRecords.foldl (fun t r => t.stopBreak x r) s
  let s := allRecords.foldl (fun t r => t.stopHandover x r) s
  let o := otherLane x
  let s := if (s.lane o).source = .lane then
      (s.post (.sourceHoldover (.lane o) (incrementToTempo (s.lane x).increment) none)).followLeft o
    else s
  s.joinsLeft o .lane

/-! ## Source (R68, R79) -/

/-- A JOIN's wait on source `k`, with the prediction asked now for a BUS source (R78). -/
def State.waitOn (s : State) (k : SourceKind) : JoinWait :=
  match k with
  | .bus n => .bus n (s.predictedOf k)
  | _ => .lane false

/-- A JOIN entry of lane `x` takes the wait `w`; a change of its predicted step or source counts in the generation
(R78, R79, R84). -/
def State.setWait (s : State) (e : Entry) (x : LaneId) (w : JoinWait) : State :=
  if e.due = .join w then s else (s.retime e.id x (.join w)).bumpGeneration

/-- A waiting JOIN entry of lane `x` rebound to the lane's new source (R79): one that keeps the source LANE goes on
waiting as it did. -/
def State.rebindJoin (s : State) (e : Entry) (x : LaneId) : State :=
  let k := (s.lane x).source
  if k.joinable && s.sourceLock x == some .locked then
    if k == .lane && e.joinsOn x .lane then s else s.setWait e x (s.waitOn k)
  else s.plainJoin e x

/-- The lane record with the settings of a SOURCE change. -/
def Lane.withSource (l : Lane) (g : SourceSettings) : Lane :=
  { l with
    source := g.kind
    alignLength := g.alignLength
    alignMode := g.alignMode
    pullLimit := g.pullLimit
    followGlide := g.followGlide }

/-- The follow state under a new source of the given lock state (R63, R68). -/
def followUnder : Option LockState → FollowState
  | none => .free
  | some .locked => .following
  | some _ => .holdover

/-- The source notice of a change to LANE from another kind (R68). -/
def State.laneSourceNotice (s : State) (x : LaneId) : State :=
  let o := s.lane (otherLane x)
  if (s.lane x).source = .lane then
    s.post (if o.isRunning then .sourceLocked (.lane x) (incrementToTempo o.increment) none
      else .sourceHoldover (.lane x) (incrementToTempo o.increment) none)
  else s

/-- A SOURCE change; not carried out when it would make both lanes follow each other (R62, R68). Model's choice
(log 19): a JOIN that comes due by it (R79) is carried out before the SOURCE entry's own CHANGE_APPLIED is posted,
its notices standing among those of the change itself. -/
def State.applySource (s : State) (x : LaneId) (g : SourceSettings) : State × Bool :=
  if g.kind = .lane ∧ (s.lane (otherLane x)).source = .lane then (s, false)
  else
    let same := (s.lane x).source = g.kind
    let s := s.modLane x (·.withSource g)
    let s :=
      if same then s.rangeResidual x
      else
        let s := s.modLane x fun l =>
          { l.clearPull with barOffset := 0, follow := followUnder (s.sourceLock x) }
        (s.takeEstimate x).laneSourceNotice x
    ((s.queue.filter (·.isJoinOf x)).foldl (fun t e => t.rebindJoin e x) s, true)

/-! ## Nudge (R13) -/

/-- The nudge's sum clamped into the residual range, and whether either clamp changed a value (R13). -/
def State.nudgeLane (s : State) (x : LaneId) (n : Int) : State × Bool :=
  let n' := clampInt (-512) 511 n
  let l := s.lane x
  let sum := l.residual + n' * 2 ^ 38
  let r := clampResidual l.alignMode (s.unitInForce x) sum
  (s.setResidual x r false, n' ≠ n || r ≠ sum)

end Sys2Proof.Machine
end

