-- ==== Sys2Proof/Machine/Configure.lean ====
section
/-! DEFINITION. A configuration applied to a channel (R105): enabling (R127), disabling (R128), lane change
(R106), re-origin (R110) and change of function. -/

namespace Sys2Proof.Machine

/-- Where a configuration is applied: at acceptance (or a cue edge), at the crossing of beat `y` of the
entry's timing lane, or at a handover switch (R76, R77, R104). -/
inductive ApplyAt where
  | acceptance
  | crossing (y : U32) (timing : LaneId)
  | switch
  deriving DecidableEq, Repr

/-- A grid change: lane, function, N, D or swing differs (R104). -/
def gridChange (c d : ChannelConfig) : Bool :=
  c.lane != d.lane || c.function != d.function || c.n != d.n || c.d != d.d || c.swing != d.swing

/-- The reference position of a re-origin ahead on lane record `l`: the projection there while the lane runs,
its frozen position otherwise (R106). -/
def Channel.aheadReference (c : Channel) (l : Lane) : Position :=
  if l.isRunning then c.projectedOn l else l.pos

/-- Re-origin ahead on the channel's own lane (R110). -/
def State.reoriginAhead (s : State) (n : Fin 16) : State :=
  s.modChan n fun c => c.reorigin (boundaryFrom (c.aheadReference (s.laneOf n)))

/-- The origin of a channel enabled on a RUNNING lane: the lane's position, or Y at an entry crossing (R105,
R112, R127). Model's choice (log 11): where the entry names a lane other than its timing lane, the origin is still Y, a beat
of the timing lane, as R105 says of every enabling at a crossing; R76 and R110 re-origin ahead an entry crossed after its
channel has left the timing lane, which the model takes to speak of a channel enabled before and after. -/
def ApplyAt.origin (at_ : ApplyAt) (l : Lane) : Position :=
  match at_ with
  | .crossing y _ => .atBeat y
  | _ => l.pos

/-- Channel `n` becomes enabled with configuration `cfg` (R127); its first evaluation uses its own lead. -/
def State.enableChannel (s : State) (n : Fin 16) (cfg : ChannelConfig) (at_ : ApplyAt) : State :=
  let l := s.lane cfg.lane
  let s := s.modChan n fun c => { c with evalLead := none }
  if l.isRunning then s.modChan n fun c => Channel.startAt { c with cfg := cfg } (at_.origin l)
  else s.modChan n fun c => Channel.restartCounts { c with cfg := cfg, running := false } l.pos

/-- The lane a disabled channel is attached to: the one `cfg` names, but its present lane for a member of a handover
record, which leaves unswitched, and for one that has switched in this phase step (R129, R154). -/
def Channel.laneDisabled (c : Channel) (cfg : ChannelConfig) : LaneId :=
  if c.ho.isSome || c.switched then c.cfg.lane else cfg.lane

/-- Channel `n` becomes disabled with configuration `cfg`, and leaves its break and handover records
(R128, R139, R154). Model's choice (log 19): where it was the last member of both, BREAK_DONE stands before
HANDOVER_DONE. -/
def State.disableChannel (s : State) (n : Fin 16) (cfg : ChannelConfig) : State :=
  let s := s.modChan n fun c => { (c.cutLine s.clock).clearCode with
    cfg := { cfg with lane := c.laneDisabled cfg }
    running := false
    pulseOwed := false
    lastChange := some s.clock
    evalLead := none }
  (s.leaveBreak n .cancel).leaveHandover n

/-- Channel `n` moves to lane `x` (R106): re-origined ahead there, its mark the beat before the new origin,
running as the lane does with the start or stop actions of a change of running state; it leaves its handover
record, and its break membership is carried over (R134) or left on a STOPPED lane (R139). -/
def State.laneChange (s : State) (n : Fin 16) (x : LaneId) : State :=
  let old := s.projection n
  let l := s.lane x
  let wasRunning := (s.chan n).running
  let s := s.modChan n fun c =>
    let o := boundaryFrom (c.aheadReference l)
    let c := c.reorigin o
    let c := { c with
      cfg := { c.cfg with lane := x }
      pulseOwed := false
      mark := o.beat - 1
      running := l.isRunning
      evalLead := if l.isRunning then c.evalLead else none }
    let c :=
      if l.isRunning && !wasRunning then c.codePut .start
      else if !l.isRunning && wasRunning then c.codePut .stop
      else c
    c.remark old o.beat
  let s := s.leaveHandover n
  if l.isRunning then s else s.leaveBreak n .stop

/-- The function of channel `n` changes to that of `cfg`, which it takes (R105): a pulse in flight ends, the
line goes inactive, the codes of a CODE channel are dropped, and a RUNNING channel that becomes a CODE channel
takes its start action unless it is halted (R136). Model's choice (log 11): the last level change is recorded only where the
new function is GATE. -/
def State.functionChange (s : State) (n : Fin 16) (cfg : ChannelConfig) : State :=
  let halted := s.halted n
  s.modChan n fun c =>
    let wasCode := c.cfg.function = .code
    let c := { c.cutLine s.clock with cfg := cfg, pulseOwed := false }
    let c := if wasCode then c.clearCode else c
    let c := if cfg.function = .gate then { c with lastChange := some s.clock } else c
    if c.running && !halted then c.codePut .start else c

/-- The configuration of an enabled channel that stays enabled (R105), its lane field already settled. -/
def State.reconfigure (s : State) (n : Fin 16) (cfg : ChannelConfig) (at_ : ApplyAt) : State :=
  let old := (s.chan n).cfg
  let s := if old.function = cfg.function then
      s.modChan n fun c => { c with cfg := { cfg with lane := old.lane } }
    else s.functionChange n { cfg with lane := old.lane }
  let s := if cfg.barCodes then s else s.modChan n fun c => { c with barDue := false, phraseDue := false }
  if cfg.lane ≠ old.lane then s.laneChange n cfg.lane
  else match at_ with
    | .crossing y timing =>
      if timing = old.lane then s.modChan n fun c => c.reorigin (.atBeat y) else s.reoriginAhead n
    | .acceptance =>
      if gridChange old cfg && !(s.chan n).running then s.reoriginAhead n else s
    | .switch => s

/-- A configuration applied to channel `n` (R105). At a handover switch the lane field makes no lane change
(R106). -/
def State.applyConfig (s : State) (n : Fin 16) (new : ChannelConfig) (at_ : ApplyAt) : State :=
  let old := (s.chan n).cfg
  let cfg := if at_ = .switch then { new with lane := old.lane } else new
  match old.enabled, cfg.enabled with
  | false, true => s.enableChannel n cfg at_
  | true, false => s.disableChannel n cfg
  | false, false => s.modChan n fun c => { c with cfg := cfg }
  | true, true => s.reconfigure n cfg at_

end Sys2Proof.Machine
end

