-- ==== Sys2Proof/Machine/Entries.lean ====
section
/-! DEFINITION. Entries applied (sections 4.3 to 4.5): at a boundary of their timing lane, at a source boundary
for a JOIN, and at a cue edge. -/

namespace Sys2Proof.Machine

/-! ## One change carried out (R74) -/

/-- A queued transport action carried out on lane `x`, checked again for the state of its target
(R31, R38); false is IGNORED. -/
def State.applyTransport (s : State) (x : LaneId) (action : EntryAction) : State × Bool :=
  match action with
  | .start | .join => if (s.lane x).isRunning then (s, false) else (s.startLane x, true)
  | .stop => if (s.lane x).isRunning then (s.stopLane x, true) else (s, false)
  | .resume => if (s.lane x).isRunning then (s, false) else (s.resumeLane x, true)
  | .copy => if (s.lane x).isRunning then (s, false) else (s.copyLane (otherLane x), true)

/-- A change carried out on its target now, a METER that is held over aside; false is IGNORED (R28, R30, R31,
R38, R68, R105). -/
def State.applyChange (s : State) (c : Change) : State × Bool :=
  match c with
  | .tempo x increment glide => s.applyTempo x increment glide
  | .meter x beatsPerBar barsPerPhrase => (s.applyMeter x beatsPerBar barsPerPhrase, true)
  | .source x settings => s.applySource x settings
  | .transport x action => s.applyTransport x action
  | .channel n cfg => (s.applyConfig n cfg .acceptance, true)

/-- An entry leaves the queue, its change is carried out and CHANGE_APPLIED is posted after it (R74, R75). -/
def State.carryOut (s : State) (e : Entry) : State :=
  let out := (s.removeEntry e.id).applyChange e.change
  out.1.postApplied e out.2

/-- The target of a METER change that cannot take effect here and is held over (R30). -/
def State.heldOver (s : State) (c : Change) (here : Option LaneId) : Option LaneId :=
  match c with
  | .meter x _ _ => if s.meterNow x here then none else some x
  | _ => none

/-- A METER entry held over: re-timed to its target lane's next bar start, the target's counters standing at beat
`at_`, with no notice (R30, R74, R84). -/
def State.holdOver (s : State) (e : Entry) (target : LaneId) (at_ : U32) : State :=
  (s.retime e.id target (.beat (nextStartFrom at_ .bar (s.lane target)))).bumpGeneration

/-- The beat that lane `z`'s counters stand at while lane `x` works its announced boundary `y`: `y` for lane `x`,
which may have jumped beyond it (R24), and its own beat for the other lane. -/
def State.countedBeat (s : State) (x : LaneId) (y : U32) (z : LaneId) : U32 :=
  if z = x then y else (s.lane z).pos.beat

/-! ## At a boundary (part 2 of R23, R74) -/

/-- A lane-level entry timed by lane `x` and due at beat `y`. -/
def Entry.dueAt (e : Entry) (x : LaneId) (y : U32) : Bool :=
  e.timing == x && e.due == .beat y && e.change.kind != .channel

/-- The lane-level entries of lane `x` due at its announced boundary `y`, one at a time in queue order, until
none is left or lane `x` has stopped (R23, R74). `fuel` bounds the entries taken. -/
def State.boundaryEntries (x : LaneId) (y : U32) : Nat → State → State
  | 0, s => s
  | fuel + 1, s =>
    match s.findEntry (·.dueAt x y) with
    | none => s
    | some e =>
      match s.heldOver e.change (some x) with
      | some target => State.boundaryEntries x y fuel (s.holdOver e target (s.countedBeat x y target))
      | none =>
        let t := s.carryOut e
        if (t.lane x).isRunning then State.boundaryEntries x y fuel t else t

/-! ## At a source boundary (R78) -/

/-- The START with JOIN entry of lane `x` that is due now: its predicted step is reached (BUS), or the other
lane has crossed a boundary and has made its own advance of the step (LANE). -/
def State.dueJoin (s : State) (x : LaneId) : Option Entry :=
  s.findEntry fun e => match e.joinWait x with
    | some (.bus _ (some p)) => p ≤ s.clock
    | some (.lane ripe) => ripe && !(s.lane (otherLane x)).crossing
    | _ => false

/-- What the source a JOIN entry waits for supplies to its lane, where that source is LOCKED (R34, R78). -/
def State.joinSide (s : State) (e : Entry) (x : LaneId) : Option SourceSide :=
  match e.joinWait x with
  | some w => if s.lockOf x w.source = some .locked then s.sideOf x w.source else none
  | none => none

/-- A due JOIN carried out: IGNORED on a RUNNING lane or where the lane's source is no longer BUS or LANE, a plain
START where the source waited for is not LOCKED, and otherwise a start on the source's counters (R31, R34, R79). -/
def State.carryOutJoin (s : State) (e : Entry) (x : LaneId) : State :=
  if (s.lane x).isRunning || !(s.lane x).source.joinable then (s.removeEntry e.id).postApplied e false
  else
    match s.joinSide e x with
    | some src => ((s.removeEntry e.id).joinLane x src).postApplied e true
    | none => s.plainJoin e x

/-! ## At a cue edge (R80, R81) -/

/-- The debounce time of a cue line, 20 ms in phase steps (R80). -/
abbrev cueDebounce : Nat := 1920

/-- An edge at step `now` is taken after the last taken edge `last` (R80). -/
def edgeTaken (debounce now : Nat) (last : Option Nat) : Bool :=
  match last with
  | none => true
  | some t => debounce ≤ since now t

/-- The entry's IMMEDIATE form makes an entry of it: a METER on a RUNNING lane (R29), or a grid change on a
RUNNING channel that stays enabled (R104). The timing lane and due beat of that form. -/
def State.immediateDue (s : State) (e : Entry) : Option (LaneId × U32) :=
  match e.change with
  | .meter x _ _ => if (s.lane x).isRunning then some (x, nextStart .bar (s.lane x)) else none
  | .channel n cfg =>
    let c := s.chan n
    if c.running && cfg.enabled && gridChange c.cfg cfg then
      some (e.timing, nextStart .beat (s.lane e.timing))
    else none
  | _ => none

/-- One entry waiting for a cue line resolved at a taken edge, by the quantize setting `q`; quantize acts as
NONE where the timing lane is STOPPED. The flag says that the entry was given a due point (R81, R84). Model's choice
(log 13): whether the timing lane is STOPPED "at the edge" is read as the entries resolved before have left it. -/
def State.resolveCueEntry (s : State) (q : Quantize) (e : Entry) : State × Bool :=
  let lane := s.lane e.timing
  match (if lane.isRunning then q else .none) with
  | .beat => (s.retime e.id e.timing (.beat (nextStart .beat lane)), true)
  | .bar => (s.retime e.id e.timing (.beat (nextStart .bar lane)), true)
  | .none =>
    match s.immediateDue e with
    | some (x, y) => (s.retime e.id x (.beat y), true)
    | none => (s.carryOut e, false)

/-- The waiting entries of line `c`, named by id, resolved in acceptance order. An entry that one before it
has discarded is gone. -/
def State.resolveCueEntries (c : Fin 4) (q : Quantize) : List Nat → State → State × Bool
  | [], s => (s, false)
  | id :: rest, s =>
    match s.findEntry fun e => e.id == id && e.due == .cue c with
    | none => State.resolveCueEntries c q rest s
    | some e =>
      let one := s.resolveCueEntry q e
      let out := State.resolveCueEntries c q rest one.1
      (out.1, one.2 || out.2)

/-- A WAITING member of a record whose due has become beat `y` enters without a crossing where its projection
already stands at or past it (R132). -/
def State.markPassed (s : State) (r : Fin 4) (timing : LaneId) (y : U32) : State :=
  s.forChannels fun n t =>
    match (t.chan n).brk with
    | some ⟨r', .waiting _⟩ =>
      if r' = r && ((t.chan n).projectedOn (t.lane timing)).reached y then
        t.modChan n fun c => { c with brk := some ⟨r', .waiting true⟩ }
      else t
    | _ => t

/-- Every WAITING member of record `r` enters at this step (R132). -/
def State.markAll (s : State) (r : Fin 4) : State :=
  s.forChannels fun n t =>
    match (t.chan n).brk with
    | some ⟨r', .waiting _⟩ =>
      if r' = r then t.modChan n fun c => { c with brk := some ⟨r', .waiting true⟩ } else t
    | _ => t

/-- A break record waiting on line `c` resolved at a taken edge: its due becomes a beat, or absent where its
members enter at once (R81, R132). -/
def State.resolveCueBreak (s : State) (c : Fin 4) (q : Quantize) (r : Fin 4) : State :=
  match s.brk r with
  | none => s
  | some b =>
    if b.due = .cue c then
      let lane := s.lane b.timing
      match (if lane.isRunning then q else .none) with
      | .beat =>
        let y := nextStart .beat lane
        (s.setBrk r (some { b with due := .beat y })).markPassed r b.timing y
      | .bar =>
        let y := nextStart .bar lane
        (s.setBrk r (some { b with due := .beat y })).markPassed r b.timing y
      | .none => (s.setBrk r (some { b with due := .absent })).markAll r
    else s

/-- A rising edge on cue line `c`: ignored within the debounce time, and otherwise taken, resolving the line's
break records and its entries. The break records are resolved first, on the state at the edge, which the entries do
not see: neither resolution depends on the other (R80, R81). -/
def State.cueEdge (s : State) (c : Fin 4) : State :=
  let line := s.cues[c]
  if edgeTaken cueDebounce s.clock line.lastEdge then
    let s := { s with cues := s.cues.set c.val { line with lastEdge := some s.clock } c.isLt }
    let s := allRecords.foldl (fun t r => t.resolveCueBreak c line.quantize r) s
    let ids := (s.queue.filter fun e => e.due == .cue c).map (·.id)
    let out := State.resolveCueEntries c line.quantize ids s
    if out.2 then out.1.bumpGeneration else out.1
  else s

end Sys2Proof.Machine
end

