-- ==== Sys2Proof/Machine/Trackers.lean ====
section
/-! DEFINITION. The trackers (sections 3.1 to 3.4): their lock state transitions, the tap tracker, the
reference tracker and the bus trackers. -/

namespace Sys2Proof.Machine

/-! ## Transitions and updates (R43, R63, R66, R79) -/

/-- `f` done for each lane whose source is `k`. -/
def State.forFollowers (s : State) (k : SourceKind) (f : LaneId → State → State) : State :=
  bothLanes.foldl (fun t x => if (t.lane x).source = k then f x t else t) s

/-- The estimate as a notice reports it: 0 where it is absent (R43). -/
def reported (estimate : Option Nat) : Nat :=
  match estimate with
  | some i => incrementToTempo i
  | none => 0

/-- The tracker of source `k` has become LOCKED: the notice, then the lanes that follow it (R43, R63, R66). -/
def State.becameLocked (s : State) (k : SourceKind) (subject : SourceSubject) (estimate : Option Nat)
    (station : Option (BitVec 10)) : State :=
  (s.post (.sourceLocked subject (reported estimate) station)).forFollowers k fun x t => t.followLocked x

/-- The lanes that follow source `k` find it no longer LOCKED; the joins that wait for it come due (R63, R79). Model's
choice (log 19): the notices of those joins stand behind the source's own, lane A's before lane B's. -/
def State.lostSource (s : State) (k : SourceKind) : State :=
  bothLanes.foldl (fun t x => t.joinsLeft x k) (s.forFollowers k fun x t => t.followLeft x)

/-- The tracker of source `k` has entered HOLDOVER (R43, R63). -/
def State.becameHoldover (s : State) (k : SourceKind) (subject : SourceSubject) (estimate : Option Nat)
    (station : Option (BitVec 10)) : State :=
  (s.post (.sourceHoldover subject (reported estimate) station)).lostSource k

/-- The tracker of source `k` has entered SEARCHING (R43, R63). -/
def State.becameSearching (s : State) (k : SourceKind) (subject : SourceSubject) (estimate : Option Nat)
    (station : Option (BitVec 10)) : State :=
  (s.post (.sourceSearching subject (reported estimate) station)).lostSource k

/-- A tracker update of source `k`: STOPPED lanes that follow it take the estimate (R66). -/
def State.trackerUpdate (s : State) (k : SourceKind) : State := s.forFollowers k fun x t => t.takeEstimate x

/-! ## The tap tracker (R46 to R48) -/

/-- The bounce limit of R46, 200 ms. -/
abbrev tapBounce : Nat := 19200

/-- The long gap limit of R46 and R51, 3 s. -/
abbrev longGap : Nat := 288000

/-- The outlier test of R46: the interval `t` differs from the mean by more than a quarter of it. -/
def isOutlier (intervals : List Nat) (t : Nat) : Bool :=
  !intervals.isEmpty && intervals.sum < 4 * ((t : Int) * intervals.length - intervals.sum).natAbs

/-- The cases of R46. -/
inductive TapCase where
  | first
  | bounce
  | restart
  | inSequence
  deriving DecidableEq, Repr

/-- A tap at step `now` sorted by the first test it meets (R46). -/
def TapTracker.sort (t : TapTracker) (now : Nat) : TapCase :=
  match t.last with
  | none => .first
  | some last =>
    let d := since now last
    if d < tapBounce then .bounce
    else if longGap < d then .restart
    else if isOutlier t.intervals d then .restart
    else .inSequence

/-- A tap taken as the first of a sequence: LOCKED keeps estimate and anchor, SEARCHING has none (R46, R48). -/
def TapTracker.begin (t : TapTracker) (now : Nat) : TapTracker :=
  if t.lock = .locked then { t with last := some now, intervals := [] }
  else { t with last := some now, intervals := [], estimate := none, anchor := none }

/-- The most recent `n` intervals. -/
def keepLast (n : Nat) (l : List Nat) : List Nat := l.drop (l.length - n)

/-- A tap taken in sequence (R47). -/
def TapTracker.append (t : TapTracker) (now : Nat) : TapTracker :=
  let d := match t.last with
    | some last => since now last
    | none => 0
  let list := keepLast 8 (t.intervals ++ [d])
  let t := { t with last := some now, intervals := list }
  if t.lock = .locked && list.length < 2 then t
  else { t with estimate := some (estimateOf list.length 1 list.sum), anchor := some now }

/-- A tap (R46 to R48). -/
def State.tapEdge (s : State) : State :=
  match s.tap.sort s.clock with
  | .bounce => s
  | .first | .restart => { s with tap := s.tap.begin s.clock }
  | .inSequence =>
    let t := s.tap.append s.clock
    if t.intervals.length < 2 then { s with tap := t }
    else if t.lock = .locked then { s with tap := t }.trackerUpdate .tap
    else { s with tap := { t with lock := .locked } }.becameLocked .tap .tap t.estimate none

/-! ## The reference tracker (R50 to R54) -/

/-- The pulse is marked (R50). -/
def RefTracker.marked (t : RefTracker) : Bool := t.downbeat && t.mark

/-- A pulse taken as the first after a restart of counting (R49, R50). -/
def RefTracker.firstPulse (t : RefTracker) (now : Nat) : RefTracker :=
  { t with
    lastPulse := some now
    count := 0
    beatInBar := 0
    mark := if t.marked then false else t.mark
    window := []
    anchor := if t.lock = .locked then some now else t.anchor
    restart := false }

/-- A pulse that is not a first pulse counted into beats (R50). -/
def RefTracker.countPulse (t : RefTracker) : RefTracker :=
  if t.marked then { t with count := 0, beatInBar := 0, mark := false }
  else if t.count + 1 < t.q then { t with count := t.count + 1 }
  else { t with count := 0, beatInBar := min 15 (t.beatInBar + 1) }

/-- The lock test of a full window (R51). -/
def steady (window : List Nat) : Bool :=
  window.all fun t => 50 * ((t : Int) * window.length - window.sum).natAbs ≤ 3 * window.sum

/-- The sum of the last `n` intervals. -/
def spanOfLast (n : Nat) (l : List Nat) : Nat := (keepLast n l).sum

/-- A pulse counted while the tracker is not LOCKED, with its interval (R51); true when the lock test
passes. -/
def RefTracker.acquire (t : RefTracker) (now d : Nat) : RefTracker × Bool :=
  let window := keepLast (2 * t.q) (t.window ++ [d])
  let t := { t.countPulse with lastPulse := some now, window := window }
  if window.length = 2 * t.q ∧ steady window then
    ({ t with
        lock := .locked
        estimate := some (estimateOf window.length t.q window.sum)
        anchor := some (now - spanOfLast t.count window)
        holdoverStart := none }, true)
  else (t, false)

/-- The pulse's interval is more than a quarter of the predicted interval off (R53). -/
def misaligned (t q i : Nat) : Bool := beatUnits < 4 * ((t * q * i : Nat) - (beatUnits : Int)).natAbs

/-- A misaligned pulse while LOCKED (R53). -/
def RefTracker.misalign (t : RefTracker) (now : Nat) : RefTracker :=
  if t.realign then t.firstPulse now
  else
    let t := { t.countPulse with lastPulse := some now, window := [] }
    if t.count = 0 then { t with anchor := some now } else t

/-- A pulse that passes the check of R53, with its interval (R52). -/
def RefTracker.update (t : RefTracker) (now d : Nat) : RefTracker :=
  let window := keepLast (4 * t.q) (t.window ++ [d])
  let t := { t.countPulse with lastPulse := some now, window := window }
  { t with
    estimate := some (estimateOf window.length t.q window.sum)
    anchor := if t.count = 0 then some now else t.anchor }

/-- A REFCLK pulse (R50 to R53). -/
def State.refPulse (s : State) : State :=
  let t := s.ref
  match t.restart, t.lastPulse with
  | true, _ | false, none => { s with ref := t.firstPulse s.clock }
  | false, some last =>
    let d := since s.clock last
    match t.lock, t.estimate with
    | .locked, some i =>
      if misaligned d t.q i then
        ({ s with ref := t.misalign s.clock }.modSticky fun f => { f with refMisaligned := true }).post .refMisaligned
      else { s with ref := t.update s.clock d }.trackerUpdate .reference
    | _, _ =>
      if longGap < d then { s with ref := t.firstPulse s.clock }
      else
        let out := t.acquire s.clock d
        let s := { s with ref := out.1 }
        if out.2 then s.becameLocked .reference .reference out.1.estimate none else s

/-- A DBEAT edge (R50). -/
def State.dbeatEdge (s : State) : State :=
  if s.ref.downbeat then { s with ref := { s.ref with mark := true } } else s

/-- The LOCKED reference tracker has had no pulse for two predicted beats (R54). -/
def State.refHoldoverDue (s : State) : Bool :=
  s.ref.lock == .locked && match s.ref.lastPulse, s.ref.estimate with
    | some p, some i => 2 * beatUnits < since s.clock p * i
    | _, _ => false

/-- The reference tracker in HOLDOVER from step `now`: its next pulse restarts counting, and its window keeps at most
the most recent 2Q intervals (R49, R54, R55). -/
def RefTracker.heldFrom (t : RefTracker) (now : Nat) : RefTracker :=
  { t with
    lock := .holdover
    holdoverStart := some now
    restart := true
    window := keepLast (2 * t.q) t.window }

/-- The reference tracker enters HOLDOVER (R54, R55). -/
def State.refEnterHoldover (s : State) : State :=
  { s with ref := s.ref.heldFrom s.clock }.becameHoldover .reference .reference s.ref.estimate none

/-- HOLDOVER has lasted 64 beats (R54). -/
def State.refSearchingDue (s : State) : Bool :=
  s.ref.lock == .holdover && match s.ref.holdoverStart, s.ref.estimate with
    | some h, some i => 64 * beatUnits ≤ since s.clock h * i
    | _, _ => false

/-- The reference tracker enters SEARCHING; the notice still reports the held estimate (R43, R54). -/
def State.refEnterSearching (s : State) : State :=
  { s with ref := { s.ref with lock := .searching, estimate := none, anchor := none, holdoverStart := none } }.becameSearching
    .reference .reference s.ref.estimate none

/-! ## Bus trackers (R57 to R60) -/

/-- A frame whose meter and counters pass the check of R57. -/
def BusFrame.valid (f : BusFrame) : Bool :=
  1 ≤ f.beatsPerBar && f.beatsPerBar ≤ 16 && 1 ≤ f.barsPerPhrase && f.barsPerPhrase ≤ 64
    && f.beatInBar < f.beatsPerBar && f.barInPhrase < f.barsPerPhrase

/-- The tracker's last frame has run flag 1 and is no older than two beats at step `ref` (R57, R59). -/
def BusTracker.recent (t : BusTracker) (ref : Nat) : Option BusFrame :=
  match t.last with
  | some (f, at_) => if f.run && since ref at_ * f.increment ≤ 2 * beatUnits then some f else none
  | none => none

/-- What an accepted frame does to a tracker besides changing its record. -/
inductive FrameEffect where
  | none
  | locked
  | update
  | holdover
  deriving DecidableEq, Repr

/-- An accepted frame `f` of reference step `ref` given to a bus tracker (R57 to R59). -/
def BusTracker.take (t : BusTracker) (f : BusFrame) (ref : Nat) : BusTracker × FrameEffect :=
  let kept := { t with last := some (f, ref) }
  let lockOn : BusTracker :=
    { kept with lock := .locked, station := some f.station, estimate := some f.increment, holdoverStart := .none }
  let rejected := { t with rejects := bump16 t.rejects }
  match t.lock with
  | .searching =>
    match f.run, t.recent ref with
    | false, _ | true, .none => (kept, .none)
    | true, some g => if g.station = f.station then (lockOn, .locked) else (t, .none)
  | .locked =>
    if t.station = some f.station then
      if f.run then ({ kept with estimate := some f.increment }, .update)
      else ({ kept with lock := .holdover, holdoverStart := some ref }, .holdover)
    else (rejected, .none)
  | .holdover =>
    if t.station = some f.station then
      if f.run && (t.recent ref).isSome then (lockOn, .locked) else (kept, .none)
    else (rejected, .none)

/-- The joins of lane `x` that wait for bus tracker `n` ask it again for their predicted step, whatever lane `x`'s
present source; each change counts in the generation (R78, R84). -/
def State.askJoins (s : State) (n : Fin 8) (x : LaneId) : State :=
  (s.queue.filter (·.joinsOn x (.bus n))).foldl (fun t e => t.setWait e x (t.waitOn (.bus n))) s

/-- An accepted frame delivered to bus tracker `n` (R57 to R59, R78). -/
def State.acceptFrame (s : State) (n : Fin 8) (f : BusFrame) (ref : Nat) : State :=
  let out := (s.busTracker n).take f ref
  let s := s.setBusTracker n out.1
  match out.2 with
  | .none => s
  | .locked => s.becameLocked (.bus n) (.bus n) out.1.estimate out.1.station
  | .update => bothLanes.foldl (fun t x => t.askJoins n x) (s.trackerUpdate (.bus n))
  | .holdover => s.becameHoldover (.bus n) (.bus n) out.1.estimate out.1.station

/-- A frame delivered to bus tracker `n`: discarded where the check of R57 fails, and otherwise accepted with
its increment clamped (R17, R57). -/
def State.deliverFrame (s : State) (n : Fin 8) (f : BusFrame) (ref : Nat) : State :=
  if f.valid then s.acceptFrame n { f with increment := clampInc f.increment } ref else s

/-- The LOCKED bus tracker has had no frame for four of its station's beats (R60). -/
def State.busHoldoverDue (s : State) (n : Fin 8) : Bool :=
  let t := s.busTracker n
  t.lock == .locked && match t.last with
    | some (f, ref) => 4 * beatUnits < since s.clock ref * f.increment
    | none => false

/-- Bus tracker `n` enters HOLDOVER (R60). -/
def State.busEnterHoldover (s : State) (n : Fin 8) : State :=
  let t := s.busTracker n
  (s.setBusTracker n { t with lock := .holdover, holdoverStart := some s.clock }).becameHoldover
    (.bus n) (.bus n) t.estimate t.station

/-- HOLDOVER has lasted 64 beats of the held estimate (R60). -/
def State.busSearchingDue (s : State) (n : Fin 8) : Bool :=
  let t := s.busTracker n
  t.lock == .holdover && match t.holdoverStart, t.estimate with
    | some h, some i => 64 * beatUnits ≤ since s.clock h * i
    | _, _ => false

/-- Bus tracker `n` enters SEARCHING: the notice reports no estimate and the station just unlocked (R43,
R60). -/
def State.busEnterSearching (s : State) (n : Fin 8) : State :=
  let t := s.busTracker n
  (s.setBusTracker n { t with lock := .searching, station := none, estimate := none, holdoverStart := none }).becameSearching
    (.bus n) (.bus n) none t.station

end Sys2Proof.Machine
end

