-- ==== Sys2Proof/Machine/Bytes.lean ====
section
/-! DEFINITION. Bytes: the byte order of the links, the CRC of R162 and the content of a beat bus frame (R161,
section 11.7). -/

namespace Sys2Proof.Machine

/-- `v` in `n` bytes, most significant byte first (section 11.1). -/
def bytesOf : Nat → Nat → List Byte
  | 0, _ => []
  | n + 1, v => bytesOf n (v / 256) ++ [BitVec.ofNat 8 v]

/-- The number that bytes spell, most significant byte first. -/
def natOf (l : List Byte) : Nat := l.foldl (fun v b => v * 256 + b.toNat) 0

/-- A signed quantity in `n` bytes, two's complement (section 11.1). -/
def bytesOfInt (n : Nat) (v : Int) : List Byte := bytesOf n (v % (256 ^ n : Nat)).toNat

/-! ## The CRC (R162) -/

/-- One data bit shifted into the register (R162). -/
def crcBit (reg : BitVec 16) (bit : Bool) : BitVec 16 :=
  if reg.msb != bit then (reg <<< 1) ^^^ 0x1021#16 else reg <<< 1

/-- The bits of a byte, most significant first. -/
def bitsOf (b : Byte) : List Bool := [7, 6, 5, 4, 3, 2, 1, 0].map fun i => b.getLsbD i

/-- The register after the characters, from H'FFFF (R162). -/
def crc (chars : List Byte) : BitVec 16 :=
  chars.foldl (fun reg b => (bitsOf b).foldl crcBit reg) 0xFFFF#16

/-- The CRC as two bytes, high byte first. -/
def crcBytes (chars : List Byte) : List Byte := bytesOf 2 (crc chars).toNat

/-! ## The beat bus frame (R161, section 11.7) -/

/-- The characters of a bus frame without its CRC. -/
abbrev busContentLength : Nat := 21

/-- All characters of a bus frame (R160). -/
abbrev busFrameLength : Nat := 23

/-- Characters 1 to 21 of a frame (R161, section 11.7). -/
def BusFrame.chars (f : BusFrame) : List Byte :=
  bytesOf 2 (f.station.toNat * 64 + f.run.toNat * 32 + f.holdover.toNat * 16 + f.tag.toNat * 4)
    ++ bytesOf 1 f.beatsPerBar ++ bytesOf 1 f.barsPerPhrase ++ bytesOf 1 f.beatInBar ++ bytesOf 1 f.barInPhrase
    ++ bytesOf 4 f.beat.toNat ++ bytesOf 6 f.phase.toNat ++ bytesOf 5 f.increment

/-- The `n` characters from offset `at_`, as a number. -/
def fieldAt (chars : List Byte) (at_ n : Nat) : Nat := natOf ((chars.drop at_).take n)

/-- The frame that 21 content characters carry; the two zero bits are ignored (R161). -/
def frameOf (chars : List Byte) : BusFrame :=
  let head := fieldAt chars 0 2
  { station := BitVec.ofNat 10 (head / 64)
    run := head.testBit 5
    holdover := head.testBit 4
    tag := BitVec.ofNat 2 (head / 4)
    beatsPerBar := fieldAt chars 2 1
    barsPerPhrase := fieldAt chars 3 1
    beatInBar := fieldAt chars 4 1
    barInPhrase := fieldAt chars 5 1
    beat := BitVec.ofNat 32 (fieldAt chars 6 4)
    phase := BitVec.ofNat 48 (fieldAt chars 10 6)
    increment := fieldAt chars 16 5 }

/-- A copy is whole and its CRC is right (R162, R163). -/
def copyValid (chars : List Byte) : Bool :=
  chars.length == busFrameLength && crcBytes (chars.take busContentLength) == chars.drop busContentLength

/-- The lane's record as a frame of station `id` carries it (R161, R173). -/
def Lane.busFrame (l : Lane) (x : LaneId) (id : BitVec 10) : BusFrame where
  station := id
  run := l.isRunning
  holdover := l.follow == .holdover
  tag := match x with
    | .a => 0
    | .b => 1
  beatsPerBar := l.beatsPerBar
  barsPerPhrase := l.barsPerPhrase
  beatInBar := l.beatInBar
  barInPhrase := l.barInPhrase
  beat := l.pos.beat
  phase := l.pos.phase
  increment := l.increment

/-- The level this part sends at bit time `bit` of a frame with the 23 characters `chars`: true is recessive.
Bits 0 to 11 are the break and 12 and 13 its recessive end; each character then has a start bit, eight data
bits and a stop bit (R160). -/
def sentRecessive (chars : List Byte) (bit : Nat) : Bool :=
  if bit < 12 then false
  else if bit < 14 then true
  else
    let k := (bit - 14) / 10
    let place := (bit - 14) % 10
    if place = 0 then false
    else if place = 9 then true
    else (chars.getD k 0).getLsbD (8 - place)

end Sys2Proof.Machine
end

