-- ==== Sys2Proof/Machine/Bus.lean ====
section
/-! DEFINITION. The beat bus controller (chapter 9): receivers, redundancy, filtering, and the lead role. -/

namespace Sys2Proof.Machine

/-! ## Lines -/

/-- The record of a line. -/
def Bus.lineOf (b : Bus) : BusLine → BusLineState
  | .one => b.line1
  | .two => b.line2

/-- A line's record set. -/
def Bus.setLine (b : Bus) (l : BusLine) (v : BusLineState) : Bus :=
  match l with
  | .one => { b with line1 := v }
  | .two => { b with line2 := v }

/-- A line's record changed by `f`. -/
def State.modLine (s : State) (l : BusLine) (f : BusLineState → BusLineState) : State :=
  s.modBus fun b => b.setLine l (f (b.lineOf l))

/-- The line mode in force uses the line (R166). -/
def Bus.uses (b : Bus) (l : BusLine) : Bool :=
  match b.mode, l with
  | .auto, _ => true
  | .forced1, .one => true
  | .forced2, .two => true
  | _, _ => false

/-- This part drives a frame on the line (R165). -/
def Bus.drives (b : Bus) (l : BusLine) : Bool :=
  match b.tx, l with
  | some t, .one => t.on1
  | some t, .two => t.on2
  | none, _ => false

/-- The line is received and is not driven by this part: its receiver's outcomes count (R165, R166). -/
def Bus.listens (b : Bus) (l : BusLine) : Bool := b.uses l && !b.drives l

/-! ## Bit times (R158, R160) -/

/-- One bit time in 1/125 of a phase step: 4, 2 or 1 µs of 10.41667 µs. -/
def BitRate.unit : BitRate → Nat
  | .k250 => 48
  | .k500 => 24
  | .k1000 => 12

/-- One phase step in the same units. -/
abbrev busStepUnits : Nat := 125

/-- The pairing time W in phase steps (R167). -/
def BitRate.pairingTime : BitRate → Nat
  | .k250 => 94
  | .k500 => 47
  | .k1000 => 24

/-! ## Receivers (R163) -/

/-- A receiver goes back to WAITING_IDLE. -/
def BusLineState.await (v : BusLineState) : BusLineState := { v with rx := .waitingIdle }

/-- The line has been recessive for 12 bit times: it is idle, whether or not the line mode uses it, and a receiver that
waits takes the next break (R158, R163). A line that this part drives, or whose dominant run has not ended, is not
recessive. -/
def State.lineIdle (s : State) (l : BusLine) : State :=
  if s.bus.drives l || (s.bus.lineOf l).rx == .inBreak then s
  else
    s.modLine l fun v =>
      { v with lineIdle := true, rx := if s.bus.uses l && v.rx == .waitingIdle then .idle else v.rx }

/-- A falling edge: the line is no longer idle, whether or not the line mode uses it, and a receiver that is IDLE times
the dominant run (R158, R163). -/
def State.dominantEdge (s : State) (l : BusLine) : State :=
  s.modLine l fun v =>
    { v with lineIdle := false, rx := if s.bus.listens l && v.rx == .idle then .inBreak else v.rx }

/-- A dominant run of `bits` whole bit times ends: a break of 11 to 14, or noise below 11 (R163). -/
def State.runEnd (s : State) (l : BusLine) (bits : Nat) : State :=
  if s.bus.listens l && (s.bus.lineOf l).rx == .inBreak then
    if bits < 11 then s.modLine l fun v => { v with rx := .idle }
    else if bits ≤ 14 then s.modLine l fun v => { v with rx := .afterBreak }
    else s
  else s

/-- The falling edge of the first start bit: the copy's reference step time is recorded (R163). -/
def State.firstStart (s : State) (l : BusLine) : State :=
  if s.bus.listens l && (s.bus.lineOf l).rx == .afterBreak then
    s.modLine l fun v => { v with rx := .characters s.clock }
  else s

/-! ## Judging the lines (R168, R169) -/

/-- Line `l` is judged good (R168, R169). -/
def State.judgeGood (s : State) (l : BusLine) : State :=
  let v := s.bus.lineOf l
  let good := min 16 (v.good + 1)
  if v.faulty && good == 16 then
    (s.modLine l fun v => { v with good := good, errors := 0, faulty := false }).post (.lineRestored l)
  else s.modLine l fun v => { v with good := good, errors := 0 }

/-- Line `l` is judged bad with outcome `o` (R168). -/
def State.judgeBad (s : State) (l : BusLine) (o : BadOutcome) : State :=
  let v := s.bus.lineOf l
  let errors := min 8 (v.errors + 1)
  if !v.faulty && errors == 8 then
    ((s.modLine l fun v => { v with errors := errors, good := 0, faulty := true }).modSticky
      (·.setLineFault l)).post (.lineFault l o)
  else s.modLine l fun v => { v with errors := errors, good := 0 }

/-- Both lines judged: `l` good and the other bad with `o`. Model's choice (log 19): line 1 is judged first, so that its
notice stands first, where R168 gives no order. -/
def State.judgePair (s : State) (l : BusLine) (o : BadOutcome) : State :=
  match l with
  | .one => (s.judgeGood .one).judgeBad .two o
  | .two => (s.judgeBad .one o).judgeGood .two

/-! ## ID conflict (R176) -/

/-- An ID conflict of station id `id` found on the given lines: flag, notice, lead role ended. -/
def State.conflict (s : State) (id : BitVec 10) (cause : ConflictCause) (on1 on2 : Bool) : State :=
  ((s.modSticky fun f => { f with idConflict := true }).post (.idConflict id cause on1 on2)).modBus fun b =>
    { b with settings := { b.settings with lead := none }, request := none }

/-! ## Filtering (R171) -/

/-- An entry matches a station id (R171). -/
def AcceptEntry.accepts (e : AcceptEntry) (id : BitVec 10) : Bool :=
  e.enabled && (id ^^^ e.code) &&& ~~~e.mask == 0

/-- The lowest-indexed matching entry. -/
def Bus.firstMatch (b : Bus) (id : BitVec 10) : Option (Fin 8) :=
  allEntries.find? fun n => (b.accept[n]).accepts id

/-- A frame passed on to filtering, found on line `l` (R171, R176). -/
def State.filterFrame (s : State) (l : BusLine) (f : BusFrame) (ref : Nat) : State :=
  if s.bus.settings.lead.isSome ∧ f.station = s.bus.settings.station then
    s.conflict f.station .received (l = .one) (l = .two)
  else
    match s.bus.firstMatch f.station with
    | some n => (s.modBus fun b => { b with accepted := bump16 b.accepted }).deliverFrame n f ref
    | none => s.modBus fun b => { b with unmatched := bump16 b.unmatched }

/-! ## Pairing (R167) -/

/-- The pairing a copy of `content` on line `l` closes as a duplicate (R167). -/
def State.duplicateOf (s : State) (l : BusLine) (content : List Byte) : Option Pairing :=
  s.bus.pairings.find? fun p =>
    p.line == otherLine l && p.content == content && since s.clock p.opened ≤ s.bus.rate.pairingTime

/-- A pairing closes. -/
def State.closePairing (s : State) (p : Pairing) : State :=
  s.modBus fun b => { b with pairings := b.pairings.erase p }

/-- The first copy of a frame in AUTO: filtered, then paired with a recent error of the other line or left
open (R167). -/
def State.firstCopy (s : State) (l : BusLine) (content : List Byte) (ref : Nat) : State :=
  let s := s.filterFrame l (frameOf content) ref
  match (s.bus.lineOf (otherLine l)).lastError with
  | some (t, e) =>
    if since s.clock t ≤ s.bus.rate.pairingTime then
      (s.modLine (otherLine l) fun v => { v with lastError := none }).judgePair l (.receive e)
    else s.modBus fun b => { b with pairings := b.pairings ++ [⟨content, l, s.clock⟩] }
  | none => s.modBus fun b => { b with pairings := b.pairings ++ [⟨content, l, s.clock⟩] }

/-- A valid copy on line `l` (R163, R166, R167). -/
def State.validCopy (s : State) (l : BusLine) (chars : List Byte) : State :=
  match (s.bus.lineOf l).rx with
  | .characters ref =>
    if s.bus.listens l && copyValid chars then
      let content := chars.take busContentLength
      let s := s.modLine l fun v => { v.await with valid := bump16 v.valid }
      match s.bus.mode with
      | .forced1 | .forced2 => s.filterFrame l (frameOf content) ref
      | .auto =>
        match s.duplicateOf l content with
        | some p =>
          ((((s.modBus fun b => { b with duplicates := bump16 b.duplicates }).closePairing p).judgeGood .one).judgeGood .two)
        | none => s.firstCopy l content ref
    else s
  | _ => s

/-- The receive errors possible in a receiver state (R164). -/
def BusRx.admits (rx : BusRx) (e : ReceiveErrorKind) : Bool :=
  match e, rx with
  | .violation, _ => true
  | .length, .afterBreak => true
  | _, .characters _ => true
  | _, _ => false

/-- The counter of a receive error (R164, R178). -/
def BusLineState.countError (v : BusLineState) (e : ReceiveErrorKind) : BusLineState :=
  match e with
  | .framing => { v with framing := bump16 v.framing }
  | .crc => { v with crc := bump16 v.crc }
  | .length => { v with length := bump16 v.length }
  | .violation => { v with violations := bump16 v.violations, lineIdle := false }

/-- The pairing that an error on line `l` closes: the oldest open for it, before W steps have passed
(R167). -/
def State.pairingFor (s : State) (l : BusLine) : Option Pairing :=
  s.bus.pairings.find? fun p => p.line == otherLine l && since s.clock p.opened < s.bus.rate.pairingTime

/-- A receive error on line `l` (R164, R167). Model's choice (log 15): an error is used once, so one that has closed a
pairing is no longer an error "within W steps before" a first copy, and of a line's errors not used only the last is
kept. -/
def State.receiveError (s : State) (l : BusLine) (e : ReceiveErrorKind) : State :=
  if s.bus.listens l && (s.bus.lineOf l).rx.admits e then
    let s := s.modLine l fun v => (v.countError e).await
    match s.bus.mode with
    | .forced1 | .forced2 => s
    | .auto =>
      match s.pairingFor l with
      | some p => (s.closePairing p).judgePair (otherLine l) (.receive e)
      | none => s.modLine l fun v => { v with lastError := some (s.clock, e) }
  else s

/-- The oldest pairing still open after W steps (R167). -/
def State.overduePairing (s : State) : Option Pairing :=
  s.bus.pairings.find? fun p => s.bus.rate.pairingTime < since s.clock p.opened

/-- A pairing closes with the other line missing (R167). -/
def State.timeOutPairing (s : State) (p : Pairing) : State := (s.closePairing p).judgePair p.line .missing

/-- Every overdue pairing closed; `n` bounds them. -/
def State.timeOutPairings : Nat → State → State
  | 0, s => s
  | n + 1, s =>
    match s.overduePairing with
    | none => s
    | some p => State.timeOutPairings n (s.timeOutPairing p)

/-! ## Settings (R179) -/

/-- A bit rate and a line mode take effect: receivers go back to WAITING_IDLE and pairings close without
judging (R179). A line that is idle stays idle (R158). -/
def Bus.takeSettings (b : Bus) : Bus :=
  let fresh (v : BusLineState) : BusLineState := { v.await with lastError := none }
  { b with
    rate := b.settings.rate
    mode := b.settings.mode
    deferred := false
    line1 := fresh b.line1
    line2 := fresh b.line2
    pairings := [] }

/-- The part's own frame has ended; settings that waited for it take effect (R179). -/
def Bus.endFrame (b : Bus) : Bus :=
  let b := { b with tx := none }
  if b.deferred then b.takeSettings else b

/-! ## The lead role (R172 to R177) -/

/-- The lines a frame begun now includes, where it may begin (R173). -/
def Bus.included (b : Bus) : Option (Bool × Bool) :=
  match b.mode with
  | .forced1 => if b.line1.lineIdle then some (true, false) else none
  | .forced2 => if b.line2.lineIdle then some (false, true) else none
  | .auto =>
    let waits (v w : BusLineState) : Bool := (v.faulty && !w.faulty) || v.lineIdle
    if waits b.line1 b.line2 && waits b.line2 b.line1 then some (b.line1.lineIdle, b.line2.lineIdle) else none

/-- A present request may begin to be sent at this step: its lead lane and the lines it takes (R173). -/
def State.frameBeginDue (s : State) : Option (TxRequest × LaneId × Bool × Bool) :=
  match s.bus.request, s.bus.tx, s.bus.settings.lead, s.bus.included with
  | some r, none, some x, some (on1, on2) => some (r, x, on1, on2)
  | _, _, _, _ => none

/-- The limit of freshness, 1/8 beat (R175). -/
abbrev freshLimit : Int := 2 ^ 45

/-- The request is fresh (R175). -/
def TxRequest.fresh (r : TxRequest) (l : Lane) : Bool :=
  match r.kind with
  | .stop => true
  | .boundary y => (Position.atBeat y).distance l.pos < freshLimit

/-- A line on which the part begins its break. -/
def BusLineState.beginBreak (v : BusLineState) (on : Bool) : BusLineState :=
  if on then { v with lineIdle := false, rx := .inBreak } else v

/-- A frame begins: a retry no longer fresh is dropped; otherwise the part drives the break on the included
lines (R173, R175). -/
def State.beginFrame (s : State) : State :=
  match s.frameBeginDue with
  | none => s
  | some (r, x, on1, on2) =>
    if r.lost && !r.fresh (s.lane x) then
      s.modBus fun b => { b with request := none, drops := bump16 b.drops }
    else
      s.modBus fun b => { b with
        request := some { r with begun := true, lost := false, retry := r.retry || r.lost }
        tx := some ⟨x, b.settings.station, on1, on2, 0, none⟩
        line1 := b.line1.beginBreak on1
        line2 := b.line2.beginBreak on2 }

/-- The age of a frame's reference instant and of its end (R160). -/
def referenceAge (r : BitRate) : Nat := 14 * r.unit

/-- The age at which a frame of this part has been sent, 244 bit times (R160). -/
def frameAge (r : BitRate) : Nat := 244 * r.unit

/-- The reference instant of the part's own frame has come (R173). -/
def State.instantDue (s : State) : Bool :=
  match s.bus.tx with
  | some t => t.captured.isNone && referenceAge s.bus.rate ≤ t.age
      && s.settledLane (s.bus.settings.lead.getD t.lane)
  | none => false

/-- A line of the part's own frame at its reference instant. -/
def BusLineState.atInstant (v : BusLineState) (on : Bool) (now : Nat) : BusLineState :=
  if on then { v with rx := .characters now } else v

/-- The part captures the lead lane's record at the reference instant (R173). -/
def State.captureInstant (s : State) : State :=
  match s.bus.tx with
  | none => s
  | some t =>
    let x := s.bus.settings.lead.getD t.lane
    s.modBus fun b => { b with
      tx := some { t with lane := x, captured := some ((s.lane x).busFrame x t.station) }
      line1 := b.line1.atInstant t.on1 s.clock
      line2 := b.line2.atInstant t.on2 s.clock }

/-- The part has driven the last stop bit of its frame (R177). -/
def State.frameSentDue (s : State) : Bool :=
  match s.bus.tx with
  | some t => t.captured.isSome && frameAge s.bus.rate ≤ t.age
  | none => false

/-- A line whose receiver drops the own frame. -/
def BusLineState.leaveFrame (v : BusLineState) (on : Bool) : BusLineState := if on then v.await else v

/-- The frame is sent; its request is removed unless a newer one has replaced it (R177). -/
def State.finishFrame (s : State) : State :=
  match s.bus.tx with
  | none => s
  | some t =>
    s.modBus fun b => Bus.endFrame { b with
      sent := bump16 b.sent
      request := match b.request with
        | some r => if r.begun then none else some r
        | none => none
      line1 := b.line1.leaveFrame t.on1
      line2 := b.line2.leaveFrame t.on2 }

/-- The last bit time of the arbitration field: the tenth data bit (R174). -/
abbrev lastArbitrationBit : Nat := 26

/-- The request after an arbitration loss, and whether it is dropped (R175). Model's choice (log 15): where a newer
request has replaced that of the frame, R175 not saying whether a replaced retry is dropped, no drop is counted, and the
newer request stands as it was made, neither lost nor a retry, so that no freshness test awaits it. -/
def lostRequest : Option TxRequest → Option TxRequest × Bool
  | some r =>
    if r.begun then
      if r.retry then (none, true) else (some { r with begun := false, lost := true }, false)
    else (some r, false)
  | none => (none, false)

/-- A loss can stand at bit time `bit` on the lines named: the part drives them, the bit's time has come in
this phase step, and it was sent recessive (R174). -/
def State.lossPossible (s : State) (bit : Nat) (on1 on2 : Bool) : Bool :=
  match s.bus.tx with
  | none => false
  | some t =>
    (on1 || on2) && (!on1 || t.on1) && (!on2 || t.on2) && bit < 244
      && bit * s.bus.rate.unit < t.age + busStepUnits
      && match t.captured with
        | some f => sentRecessive (f.chars ++ crcBytes f.chars) bit
        | none => bit < 14 && sentRecessive [] bit

/-- A loss at bit time `bit` (R165, R174 to R176). -/
def State.lose (s : State) (bit : Nat) (on1 on2 : Bool) : State :=
  match s.bus.tx with
  | none => s
  | some t =>
    let s := s.modBus fun b => { b with
      line1 := b.line1.leaveFrame (t.on1 && !on1)
      line2 := b.line2.leaveFrame (t.on2 && !on2) }
    let s :=
      if bit ≤ lastArbitrationBit then
        s.modBus fun b =>
          let out := lostRequest b.request
          { b with
            losses := bump16 b.losses
            request := out.1
            drops := if out.2 then bump16 b.drops else b.drops }
      else s.conflict t.station .arbitration on1 on2
    s.modBus (·.endFrame)

/-- The part's own frame ages by one phase step. -/
def Bus.age (b : Bus) : Bus := { b with tx := b.tx.map fun t => { t with age := t.age + busStepUnits } }

end Sys2Proof.Machine
end

