-- ==== Sys2Proof/Machine/Boundary.lean ====
section
/-! DEFINITION. The advance of a lane and its beat boundaries (section 2.2): the phase step's advance, the
counting of a boundary, the seven parts of an announced boundary, silent boundaries and jumps. -/

namespace Sys2Proof.Machine

/-! ## Counting (R22, R25) -/

/-- The counters advance by one boundary under the meter in force (R22). -/
def Lane.count (l : Lane) : Lane :=
  if l.beatInBar + 1 < l.beatsPerBar then { l with beatInBar := l.beatInBar + 1 }
  else if l.barInPhrase + 1 < l.barsPerPhrase then
    { l with beatInBar := 0, barCount := l.barCount + 1, barInPhrase := l.barInPhrase + 1 }
  else
    { l with beatInBar := 0, barCount := l.barCount + 1, barInPhrase := 0, phraseCount := l.phraseCount + 1 }

/-- The counters advance by `n` boundaries. -/
def Lane.countMany (l : Lane) : Nat → Lane
  | 0 => l
  | n + 1 => l.count.countMany n

/-- The counters step back by one beat (R25). -/
def Lane.uncount (l : Lane) : Lane :=
  if 0 < l.beatInBar then { l with beatInBar := l.beatInBar - 1 }
  else if 0 < l.barInPhrase then
    { l with beatInBar := l.beatsPerBar - 1, barCount := l.barCount - 1, barInPhrase := l.barInPhrase - 1 }
  else
    { l with
      beatInBar := l.beatsPerBar - 1
      barCount := l.barCount - 1
      barInPhrase := l.barsPerPhrase - 1
      phraseCount := l.phraseCount - 1 }

/-- The counters step back by `n` beats. -/
def Lane.uncountMany (l : Lane) : Nat → Lane
  | 0 => l
  | n + 1 => l.uncount.uncountMany n

/-! ## The step's advance (R11, R20) -/

/-- The advance I + a of one phase step (R11, R20); that of a lane copied into before the carry has the pull of the
advance it copied (R39; DEDUCED, log 3). -/
def Lane.stepAmount (l : Lane) : Nat :=
  ((l.increment : Int) + pullAmount l.residual l.pullRate + l.copiedPull).toNat

/-- The advance carries into the beat count (R2). -/
def Lane.carries (l : Lane) : Bool := beatUnits ≤ l.pos.phase.toNat + l.stepAmount

/-- The advance carries into a beat above H: an announced boundary (R20). -/
def Lane.announces (l : Lane) : Bool := l.carries && 0 < ahead (l.pos.advance l.stepAmount).beat l.high

/-- The lane takes the step's pull and advance; the residual's change evaluates the aligned flag (R11, R12,
R20). -/
def State.advanceLane (s : State) (x : LaneId) : State :=
  let l := s.lane x
  let a := pullAmount l.residual l.pullRate
  let s := s.setLane x { l with pos := l.pos.advance l.stepAmount, crossing := false, copiedPull := 0 }
  if a = 0 then s else s.setResidual x (l.residual - a) false

/-- The advance of lane `x` at a new phase step: made at once where it does not carry, and left to the
boundary's own command where it does (R20, log 3). -/
def State.beginAdvance (s : State) (x : LaneId) : State :=
  let l := s.lane x
  if l.isRunning then
    if l.carries then s.setLane x { l with crossing := true } else s.advanceLane x
  else s

/-! ## Notices and other blocks (part 7 of R23, R26) -/

/-- What part 7 of R23 says of a boundary: its index, the bar and phrase boundaries and counts as part 2 has
left them. -/
structure BoundaryFacts where
  index : U32
  bar : Bool
  phrase : Bool
  barCount : U32
  phraseCount : U32
  deriving DecidableEq, Repr

/-- The facts of lane `x`'s boundary `y` after part 2 (R26, R30). -/
def Lane.facts (l : Lane) (y : U32) : BoundaryFacts :=
  ⟨y, l.beatInBar == 0, l.beatInBar == 0 && l.barInPhrase == 0, l.barCount, l.phraseCount⟩

/-- BAR and PHRASE of a boundary (R26). -/
def State.postBarPhrase (s : State) (x : LaneId) (f : BoundaryFacts) : State :=
  let s := if f.bar then s.post (.bar x f.barCount) else s
  if f.phrase then s.post (.phrase x f.phraseCount) else s

/-- Part 7 of R23: the notices, the handover unit, the bus controller. The lane's counters stand at beat `at_`. -/
def State.partSeven (s : State) (x : LaneId) (f : BoundaryFacts) (at_ : U32) : State :=
  ((s.postBarPhrase x f).makeKnown x f.index at_ f.bar).leadRequest x (.boundary f.index)

/-! ## Parts 1 to 3 -/

/-- H takes the boundary's index, the glide present now owes a step, and part 1 counts (R21 to R23). -/
def Lane.openBoundary (l : Lane) (y : U32) : Lane :=
  Lane.count { l with high := y, glideDue := l.glide.isSome }

/-- Part 2 of R23 at lane `x`'s boundary `y`. -/
def State.partTwo (s : State) (x : LaneId) (y : U32) : State :=
  State.boundaryEntries x y s.queue.length s

/-- Part 3 of R23: a glide held before the boundary and still in place takes its step (R6). -/
def State.partThree (s : State) (x : LaneId) : State :=
  if (s.lane x).glideDue then (s.modLane x fun l => { l with glideDue := false }).glideStep x else s

/-- Parts 1 to 3 of R23 at lane `x`'s boundary `y`; part 3 is not worked where part 2 stops the lane. -/
def State.openAnnounced (s : State) (x : LaneId) (y : U32) : State :=
  let s := (s.modLane x (·.openBoundary y)).partTwo x y
  if (s.lane x).isRunning then s.partThree x else s

/-! ## Jumps (R3, R11, R24, R25) -/

/-- The boundaries `y`, `y` + 1, ... a forward jump has crossed, in order: those above H are announced with
parts 1, 2, 3 and 7, the others are counted. A stop by part 2 leaves the rest counted, with H at the lane's
beat (R24). -/
def State.workCrossed (x : LaneId) : Nat → U32 → State → State
  | 0, _, s => s
  | n + 1, y, s =>
    if 0 < ahead y (s.lane x).high then
      let s := s.openAnnounced x y
      if (s.lane x).isRunning then
        State.workCrossed x n (y + 1) (s.partSeven x ((s.lane x).facts y) y)
      else s.modLane x fun l => { l.countMany n with high := l.pos.beat }
    else State.workCrossed x n (y + 1) (s.modLane x (·.count))

/-- Part 6 of R23 with the boundary's part 7: the jump of a lane with pull limit 0, then the boundary made
known, then the boundaries a forward jump has crossed (R11, R24, R25; order DEDUCED from R172, log 7). The counters
stand at the boundary after a forward jump, whose crossed boundaries are still to be counted, and at the beat the
lane is in otherwise; the measurement of R146 takes them with the phase after the jump (log 7). -/
def State.jumpAndReport (s : State) (x : LaneId) (f : BoundaryFacts) : State :=
  let l := s.lane x
  if l.pullLimit = 0 ∧ l.residual ≠ 0 then
    let v := l.residual.natAbs
    if 0 < l.residual then
      let dest := l.pos.advance v
      let s := (s.setLane x { l with pos := dest }).setResidual x 0 false
      State.workCrossed x (dest.beat - l.pos.beat).toNat (l.pos.beat + 1) (s.partSeven x f f.index)
    else
      let dest := l.pos.retreat v
      let s := (s.setLane x ({ l with pos := dest }.uncountMany (l.pos.beat - dest.beat).toNat)).setResidual x 0 false
      s.partSeven x f dest.beat
  else s.partSeven x f f.index

/-! ## Boundaries of a lane -/

/-- Part 5 of R23: the reduction of a FOLLOWING lane whose source is LOCKED (R65). -/
def State.partFive (s : State) (x : LaneId) : State :=
  if (s.lane x).follow = .following ∧ s.sourceLock x = some .locked then s.reduce x else s

/-- Parts 4 to 7 of R23 at lane `x`'s boundary `y`, unless the lane has left that boundary, stopped. -/
def State.closeAnnounced (s : State) (x : LaneId) (y : U32) : State :=
  if (s.lane x).isRunning ∧ (s.lane x).high = y then
    ((s.followCompare x).partFive x).jumpAndReport x ((s.lane x).facts y)
  else s

/-- The outstanding advance of lane `x` is made: without a carry, as a silent boundary that is only counted,
or as an announced boundary, worked by `announce` (R20, R21). Whatever boundary is crossed makes the other lane's
waiting joins due (R78). -/
def State.workLaneBy (announce : State → LaneId → State) (s : State) (x : LaneId) : State :=
  let l := s.lane x
  if l.isRunning && l.crossing then
    if l.announces then announce ((s.advanceLane x).ripenJoins (otherLane x)) x
    else if l.carries then ((s.advanceLane x).ripenJoins (otherLane x)).modLane x (·.count)
    else s.advanceLane x
  else s

/-- The boundary lane `x` has just carried into is announced, the other lane having nothing outstanding that this one
waits for: the seven parts of R23. -/
def State.announceAlone (s : State) (x : LaneId) : State :=
  let y := (s.lane x).pos.beat
  (s.openAnnounced x y).closeAnnounced x y

/-- Where lane `x` follows the other lane, that lane makes its outstanding advance first, as R61 reads it after its
own work of the step. Lane `x`'s own work counts as outstanding meanwhile, so that a measurement waits for it (R146). -/
def State.leaderFirst (s : State) (x : LaneId) : State :=
  if (s.lane x).isRunning ∧ (s.lane x).source = .lane then
    ((s.modLane x fun l => { l with crossing := true }).workLaneBy State.announceAlone (otherLane x)).modLane x
      fun l => { l with crossing := false }
  else s

/-- The boundary lane `x` has just carried into is announced: the seven parts of R23. A lane made to follow the
other lane by its own part 2 reads it after that lane's work of the step (R61, R65). -/
def State.announce (s : State) (x : LaneId) : State :=
  let y := (s.lane x).pos.beat
  ((s.openAnnounced x y).leaderFirst x).closeAnnounced x y

/-- The outstanding advance of lane `x` is made, with its boundary (R20, R21, R23). -/
def State.workLane (s : State) (x : LaneId) : State := s.workLaneBy State.announce x

/-- Lane `x`'s outstanding advance, after that of the lane it follows (R61, R65). -/
def State.workFollowing (s : State) (x : LaneId) : State :=
  if (s.lane x).source = .lane then (s.workLane (otherLane x)).workLane x else s.workLane x

/-- The outstanding advances of both lanes, a lane after the one it follows; then the measurements that
waited (R61, R65, R146). -/
def State.workLanes (s : State) : State := (((s.workFollowing .a).workFollowing .b)).measureKnown

end Sys2Proof.Machine
end

