-- ==== Sys2Proof/Machine/Evaluate.lean ====
section
/-! DEFINITION. The evaluation of a channel (R108): the events of its part 2, its target count, what its
function does, and the events of its line, its slot and its transmitter. -/

namespace Sys2Proof.Machine

/-! ## Projection and target (parts 1, 3 and 4) -/

/-- Channel `n`'s lane has made its advance and its boundary work (R108). -/
def State.settled (s : State) (n : Fin 16) : Bool := s.settledLane (s.chan n).cfg.lane

/-- Channel `n` is held by a handover (R150). -/
def State.held (s : State) (n : Fin 16) : Bool :=
  match (s.chan n).ho with
  | some m => m.held
  | none => false

/-- The count of R15 for channel `n` at its projected position. -/
def State.countOf (s : State) (n : Fin 16) : U32 :=
  let c := s.chan n
  gridCount (s.projection n) c.origin c.delta c.cfg.n c.cfg.d c.cfg.swing

/-- The target count: the count of R15, or E where it lies behind E, or E while the channel is held or halted
(R108, R136, R150). -/
def State.targetCount (s : State) (n : Fin 16) : U32 :=
  let e := (s.chan n).emitted
  if s.held n || s.halted n then e
  else if 0 < ahead (s.countOf n) e then s.countOf n else e

/-! ## CHANNEL entries at their crossings (R76) -/

/-- A CHANNEL entry's projection on its timing lane, by the lead the channel has now, has reached its due beat; or it had
when another entry of the channel was applied in this step. A lead made longer or shorter thus moves the projection from the
step it is made, and takes back no crossing that has come due in the step (R76; DEDUCED, log 11). -/
def State.entryReached (s : State) (n : Fin 16) (e : Entry) : Bool :=
  match e.due with
  | .beat y => (s.chan n).reached.contains e.id || (leadPosition (s.lane e.timing) (s.chan n).cfg.lead).reached y
  | _ => false

/-- A CHANNEL entry is due at this step, or its timing lane has still its work of the step to do, so that this is not
yet known (R76). -/
def State.entryOpen (s : State) (n : Fin 16) (e : Entry) : Bool := !s.settledLane e.timing || s.entryReached n e

/-- The lanes whose positions a CHANNEL entry's application reads have made their work of the step: its timing lane, the
lane of an enabled channel, and the lane an enabling configuration names (R20, R76, R106, R108, R127). -/
def State.entrySettled (s : State) (n : Fin 16) (e : Entry) : Bool :=
  s.settledLane e.timing && (!(s.chan n).cfg.enabled || s.settled n) && match e.change with
    | .channel _ cfg => !cfg.enabled || s.settledLane cfg.lane
    | _ => true

/-- No CHANNEL entry of channel `n` is due at this step (R76, R108). -/
def State.entriesClear (s : State) (n : Fin 16) : Bool := !(s.channelEntries n).any (s.entryOpen n)

/-- The first CHANNEL entry of channel `n`, in queue order, whose crossing is due and may be carried out (R76). -/
def State.crossingDue (s : State) (n : Fin 16) : Option Entry :=
  match (s.channelEntries n).find? (s.entryOpen n) with
  | some e => if s.entrySettled n e then some e else none
  | none => none

/-- The ids of the CHANNEL entries of channel `n`, other than `e`, whose crossing is known to be due at this step: they are
applied at the step in which `e` is (R76). -/
def State.reachedBeside (s : State) (n : Fin 16) (e : Entry) : List Nat :=
  ((s.channelEntries n).filter fun k => k.id != e.id && s.settledLane k.timing && s.entryReached n k).map (·.id)

/-- The configuration `cfg` makes a lane change of channel `n` (R106). -/
def State.movesLane (s : State) (n : Fin 16) (cfg : ChannelConfig) : Bool :=
  (s.chan n).cfg.enabled && cfg.enabled && cfg.lane != (s.chan n).cfg.lane

/-- The beats that a RUNNING member's projection has crossed on its lane are counted, and its break ends where they use
it up (R134). -/
def State.countBeats (s : State) (n : Fin 16) : State :=
  if (s.chan n).running then
    match s.breakEndAt n with
    | some (y, complete) => s.endMember n y complete
    | none => s.countBreak n
  else s

/-- A CHANNEL entry applied at its crossing, with CHANGE_APPLIED; the X of part 1 is kept, and so are the crossings that are
due beside it (R75, R76, R105, R108). A member of a break that the entry moves to the other lane has the beats of its old lane
counted before (R134). -/
def State.applyCrossing (s : State) (n : Fin 16) (e : Entry) : State :=
  match e.change, e.due with
  | .channel _ cfg, .beat y =>
    let due := s.reachedBeside n e
    let s := if s.movesLane n cfg then s.countBeats n else s
    (((s.removeEntry e.id).modChan n fun c => { c.keepLead cfg.lead with reached := due }).applyConfig n cfg
      (.crossing y e.timing)).postApplied e true
  | _, _ => s

/-- Every due CHANNEL entry of channel `n` in queue order; `fuel` bounds them. -/
def State.applyCrossings (n : Fin 16) : Nat → State → State
  | 0, s => s
  | fuel + 1, s =>
    match s.crossingDue n with
    | none => s
    | some e => State.applyCrossings n fuel (s.applyCrossing n e)

/-! ## Holds and switches (R150 to R153) -/

/-- The switch beat and to-lane of channel `n`'s record where it is SWITCH_DUE. -/
def State.switchOf (s : State) (n : Fin 16) : Option (U32 × LaneId) :=
  match (s.chan n).ho with
  | none => none
  | some m =>
    match s.ho m.record with
    | none => none
    | some h => h.switchBeat.map fun y => (y, h.toLane)

/-- The to-lane of channel `n`'s SWITCH_DUE record has made its advance and its boundary work, so that a switch due at
this step is known (R151). -/
def State.switchSettled (s : State) (n : Fin 16) : Bool :=
  match s.switchOf n with
  | some (_, x) => s.settledLane x
  | none => true

/-- Channel `n` is RUNNING and its evaluation of the step is still to be completed: the events of part 2 belong to it, and
one that falls due later in the step waits for the next evaluation (R108; DEDUCED, log 6). -/
def State.unevaluated (s : State) (n : Fin 16) : Bool := (s.chan n).running && !(s.chan n).evaluated

/-- The member switches at this step's evaluation: its projection on the running to-lane has reached the switch beat
(R151). -/
def State.switchDue (s : State) (n : Fin 16) : Bool :=
  match s.switchOf n with
  | some (y, x) =>
    s.unevaluated n && (s.lane x).isRunning && s.settled n && s.settledLane x
      && ((s.chan n).projectedOn (s.lane x)).reached y
  | none => false

/-- The from-lane switch beat of channel `n`'s record where there is one. -/
def State.holdBeat (s : State) (n : Fin 16) : Option U32 :=
  match (s.chan n).ho with
  | none => none
  | some m => if m.held then none else (s.ho m.record).bind (·.fromSwitchBeat)

/-- The member becomes held at this step's evaluation (R150). -/
def State.holdDue (s : State) (n : Fin 16) : Bool :=
  match s.holdBeat n with
  | some y =>
    s.unevaluated n && s.settled n && s.switchSettled n && !s.switchDue n && (s.projection n).reached y
  | none => false

/-- The held flag is set (R150). -/
def State.setHeld (s : State) (n : Fin 16) : State :=
  s.modChan n fun c => { c with ho := c.ho.map fun m => { m with held := true } }

/-- CHANNEL entries applied at a handover switch, in queue order (R77). -/
def State.applyAtSwitch (s : State) (n : Fin 16) (entries : List Entry) : State :=
  entries.foldl (fun t e =>
    match e.change with
    | .channel _ cfg =>
      (((t.removeEntry e.id).modChan n (·.keepLead cfg.lead)).applyConfig n cfg .switch).postApplied e true
    | _ => t) s

/-- The entry leaves its channel enabled. -/
def Entry.keepsEnabled (e : Entry) : Bool :=
  match e.change with
  | .channel _ cfg => cfg.enabled
  | _ => true

/-- The function actions of a switch at `y` to lane record `l` (R152); a muted or halted member owes no
pulse. -/
def Channel.switchActions (c : Channel) (l : Lane) (y : U32) (quiet : Bool) : Channel :=
  match c.cfg.function with
  | .bar => { c with pulseOwed := isStart .bar l y && !quiet }
  | .phrase => { c with pulseOwed := isStart .phrase l y && !quiet }
  | .code =>
    if c.cfg.barCodes then
      { c with barDue := false, phraseDue := false }.putSlot (.position (barCountAt l y))
    else c
  | _ => c

/-- Steps 2 to 6 of a switch at `y` to lane `x` (R151, R152, R134). -/
def State.moveMember (s : State) (n : Fin 16) (x : LaneId) (y : U32) : State :=
  let old := s.projection n
  let quiet := s.muted n || s.halted n
  s.modChan n fun c =>
    let c := { c with cfg := { c.cfg with lane := x } }.reorigin (.atBeat y)
    let c := { c with pulseOwed := false, mark := y - 1 }
    (c.switchActions (s.lane x) y quiet).remark old y

/-- Step 7 of a switch: the member joins the switched set and leaves the members; a disabling later in this phase
step leaves it on the to-lane (R129, R151). -/
def State.recordSwitch (s : State) (n : Fin 16) : State :=
  match (s.chan n).ho with
  | none => s
  | some m =>
    (s.setHo m.record ((s.ho m.record).map fun h => { h with switched := addTo h.switched n })).modChan n
      fun c => { c with ho := none, switched := true }

/-- The switch of member `n` (R151): its beats on the old lane are counted (R134), and there follow the entries that keep
it enabled, the move, the switched set, and then an entry that disables it with those behind it. -/
def State.switchMember (s : State) (n : Fin 16) : State :=
  match s.switchOf n with
  | none => s
  | some (y, x) =>
    let entries := s.channelEntries n
    let before := entries.takeWhile (·.keepsEnabled)
    let after := entries.dropWhile (·.keepsEnabled)
    ((((s.countBeforeSwitch n).applyAtSwitch n before).moveMember n x y).recordSwitch n).applyAtSwitch n after

/-! ## Breaks at part 2 (R132, R134) -/

/-- Member `n`'s break entry is due at this step, its lane and the timing lane having made their work, and after a
switch due at this step (R132, R151). -/
def State.entryOfBreakDue (s : State) (n : Fin 16) : Bool :=
  s.settled n && s.switchSettled n && !s.switchDue n && s.breakEntryDue n

/-- Member `n`'s beats are judged at this step's evaluation: its lane and the to-lane of a switch have made their work,
and no switch is due before them (R134, R151). -/
def State.judged (s : State) (n : Fin 16) : Bool :=
  s.unevaluated n && s.settled n && s.switchSettled n && !s.switchDue n

/-- Member `n`'s break ends at this step (R134, R138). -/
def State.endOfBreakDue (s : State) (n : Fin 16) : Option (U32 × Bool) :=
  if s.judged n then s.breakEndAt n else none

/-- The break entry, the count and the end of member `n` at an evaluation (R132, R134). -/
def State.judgeBreak (s : State) (n : Fin 16) : State :=
  let s := if s.entryOfBreakDue n then s.enterBreak n else s
  match s.endOfBreakDue n with
  | some (y, complete) => s.endMember n y complete
  | none => if s.judged n then s.countBreak n else s

/-! ## Part 2 of R108 -/

/-- Member `n`'s switch where it is due, with the break events judged after it and the record's end (R151,
R153). -/
def State.workSwitch (s : State) (n : Fin 16) : State :=
  if s.switchDue n then
    match (s.chan n).ho with
    | some m => ((s.switchMember n).judgeBreak n).finishHandover m.record
    | none => s
  else s

/-- Part 2 of R108: entry crossings, a handover switch, a hold, and the break of channel `n`. -/
def State.partTwoChannel (s : State) (n : Fin 16) : State :=
  let s := State.applyCrossings n s.queue.length s
  let s := s.workSwitch n
  let s := if s.holdDue n then s.setHeld n else s
  s.judgeBreak n

/-- No event of part 2 is due for channel `n`, and none may fall due by the outstanding work of a lane. -/
def State.partTwoClear (s : State) (n : Fin 16) : Bool :=
  s.entriesClear n && !s.switchDue n && !s.holdDue n && !s.entryOfBreakDue n && !s.breakEntryUnknown n
    && (s.endOfBreakDue n).isNone

/-! ## Part 5: pulses and tick codes -/

/-- The line is inactive and the gap of R115 has been served. -/
def Channel.lineFree (c : Channel) (now : Nat) : Bool := !c.level && c.gapServed now

/-- The width of R18 for channel `c`'s function on lane record `l` (R18, R121). -/
def Channel.widthOn (c : Channel) (l : Lane) : Nat :=
  match c.cfg.function with
  | .bar => pulseWidth c.cfg.width c.cfg.fixedMs (beatUnits * l.beatsPerBar) l.increment
  | .phrase =>
    pulseWidth c.cfg.width c.cfg.fixedMs (beatUnits * l.beatsPerBar * l.barsPerPhrase) l.increment
  | _ => pulseWidth c.cfg.width c.cfg.fixedMs (beatUnits * c.cfg.d) (l.increment * c.cfg.n)

/-- The width of a tick pulse begun now at target count `t`: on time or catch-up (R116). -/
def Channel.tickWidth (c : Channel) (l : Lane) (t : U32) : Nat :=
  if !c.owing && ahead t c.emitted == 1 then c.widthOn l else 48

/-- A TICK pulse is begun at part 5 (R115). -/
def State.tickPulseDue (s : State) (n : Fin 16) : Bool :=
  let c := s.chan n
  c.cfg.function == .tick && !s.muted n && 0 < ahead (s.targetCount n) c.emitted && c.lineFree s.clock

/-- Channel `n`'s crossings move its projected beat mark without setting a mark or owing a pulse
(R133, R136, R150). -/
def State.quiet (s : State) (n : Fin 16) : Bool := s.muted n || s.halted n || s.held n

/-- Channel `c` on lane record `l`, at projected beat `x`: the projected beat mark, the pulse it owes and the
bar code marks it sets (R120, R125). -/
def Channel.crossings (c : Channel) (l : Lane) (x : U32) (quiet : Bool) : Channel :=
  if 0 < ahead x c.mark then
    let bar := startCrossed .bar l c.mark x && !quiet
    let phrase := startCrossed .phrase l c.mark x && !quiet
    let c := { c with mark := x }
    match c.cfg.function with
    | .bar => { c with pulseOwed := c.pulseOwed || bar }
    | .phrase => { c with pulseOwed := c.pulseOwed || phrase }
    | .code =>
      if c.cfg.barCodes then { c with barDue := c.barDue || bar, phraseDue := c.phraseDue || phrase } else c
    | _ => c
  else c

/-- Channel `n` with the crossings of this evaluation taken. Model's choice (log 12): at a step at which a forward jump
carries the projection over boundaries inside a break and over the break's end, the break is over at part 5, so that a start
crossed within it owes a pulse, and ticks within it are owed like any others (R121, R135). -/
def State.crossed (s : State) (n : Fin 16) : Channel :=
  (s.chan n).crossings (s.laneOf n) (s.projection n).beat (s.quiet n)

/-- A BAR or PHRASE pulse is begun at part 5 (R120, R121). -/
def State.barPulseDue (s : State) (n : Fin 16) : Bool :=
  let c := s.crossed n
  (c.cfg.function == .bar || c.cfg.function == .phrase) && c.pulseOwed && !s.quiet n && c.lineFree s.clock

/-- The codes queued with the next tick: PHRASE and BAR where marked, then TICK (R125). -/
def Channel.tickCodes (c : Channel) : List Byte :=
  (if c.phraseDue then [0xD6#8] else []) ++ (if c.barDue then [0xD5#8] else []) ++ [0xD1#8]

/-- The places of the code FIFO (R123). -/
abbrev fifoPlaces : Nat := 8

/-- A TICK code is queued at part 5 (R125). -/
def State.tickCodeDue (s : State) (n : Fin 16) : Bool :=
  let c := s.crossed n
  c.cfg.function == .code && !s.muted n && 0 < ahead (s.targetCount n) c.emitted && c.slot.isNone
    && c.fifo.length + c.tickCodes.length ≤ fifoPlaces

/-- Part 5 of R108 on channel `c`, whose crossings are taken, at target count `t` on lane record `l`. -/
def Channel.act (c : Channel) (l : Lane) (t : U32) (now : Nat) (tick bar code muted : Bool) : Channel :=
  if tick then { c.beginPulse now (c.tickWidth l t) with emitted := c.emitted + 1 }
  else if bar then { c.beginPulse now (c.widthOn l) with pulseOwed := false }
  else if code then
    { c with
      fifo := c.fifo ++ c.tickCodes
      barDue := false
      phraseDue := false
      emitted := c.emitted + 1 }
  else if muted && (c.cfg.function == .tick || c.cfg.function == .code) && 0 < ahead t c.emitted then
    { c with emitted := c.emitted + 1 }
  else c

/-- Parts 3 to 6 of R108: the crossings, the function's action and the owing flag; the evaluation is
complete, and no lead is kept for it any longer. -/
def State.completeEvaluation (s : State) (n : Fin 16) : State :=
  let t := s.targetCount n
  let c := (s.crossed n).act (s.laneOf n) t s.clock (s.tickPulseDue n) (s.barPulseDue n) (s.tickCodeDue n)
    (s.muted n)
  s.setChan n { c with owing := 0 < ahead t c.emitted, evaluated := true, evalLead := none }

/-- Channel `n` is to be evaluated at this step (R108), a switch that may fall due in part 2 being known (R151). -/
def State.evaluable (s : State) (n : Fin 16) : Bool :=
  s.unevaluated n && s.settled n && s.switchSettled n

/-- The whole evaluation of channel `n` (R108). Part 2 may disable the channel, which ends it. -/
def State.evaluate (s : State) (n : Fin 16) : State :=
  let s := s.partTwoChannel n
  if s.evaluable n then s.completeEvaluation n else s

/-! ## Line, slot and transmitter -/

/-- The pulse in flight has reached its end step (R116). -/
def State.pulseEndDue (s : State) (n : Fin 16) : Bool :=
  let c := s.chan n
  c.level && c.cfg.function.isPulse && match c.lastPulse with
    | some p => p.2 ≤ s.clock
    | none => false

/-- The line goes inactive (R116). -/
def State.endPulse (s : State) (n : Fin 16) : State := s.modChan n fun c => { c with level := false }

/-- The level a GATE line moves to: its wanted level, or inactive under a MUTE break (R117, R133). -/
def State.gateWanted (s : State) (n : Fin 16) : Bool :=
  (s.chan n).running && !s.halted n && !s.muted n

/-- The minimum time of a GATE level, 10 ms (R118). -/
abbrev gateMinimum : Nat := 960

/-- A GATE line moves to its wanted level at this step (R118). -/
def State.gateDue (s : State) (n : Fin 16) : Bool :=
  let c := s.chan n
  c.cfg.function == .gate && s.gateWanted n != c.level && match c.lastChange with
    | none => true
    | some t => gateMinimum ≤ since s.clock t

/-- The GATE line takes its wanted level, and the change is recorded (R118). -/
def State.moveGate (s : State) (n : Fin 16) : State :=
  s.modChan n fun c => { c with level := s.gateWanted n, lastChange := some s.clock }

/-- The transport item moves into the FIFO at this step; not while a MUTE lasts (R124, R133). -/
def State.slotDue (s : State) (n : Fin 16) : Bool :=
  let c := s.chan n
  match c.slot with
  | some item => !s.muted n && c.fifo.length + item.codes.length ≤ fifoPlaces
  | none => false

/-- The item moves into the FIFO as a whole and the slot is empty (R124). -/
def Channel.moveSlot (c : Channel) : Channel :=
  match c.slot with
  | some item => { c with fifo := c.fifo ++ item.codes, slot := none }
  | none => c

/-- The transmitter takes the oldest character, `age` thirds of a step of which have already gone; idle where
none waits (R123). -/
def Channel.takeChar (c : Channel) (age : Nat) : Channel :=
  match c.fifo with
  | ch :: rest => { c with fifo := rest, tx := .sending ch age c.cfg.codeRate.thirds }
  | [] => { c with tx := .idle }

/-- The character in transmission has ended (R123). -/
def Channel.charEnded (c : Channel) : Bool :=
  match c.tx with
  | .sending _ age len => len ≤ age
  | .idle => false

/-- A character ends, and the next oldest is taken at once (R123). -/
def Channel.endChar (c : Channel) : Channel :=
  match c.tx with
  | .sending _ age len => c.takeChar (age - len)
  | .idle => c

/-- The idle transmitter takes a character (R123). -/
def Channel.charDue (c : Channel) : Bool := c.tx == .idle && !c.fifo.isEmpty

/-- A character in transmission ages by one phase step (R122). -/
def Channel.ageChar (c : Channel) : Channel :=
  match c.tx with
  | .sending ch age len => { c with tx := .sending ch (age + 3) len }
  | .idle => c

/-! ## One channel's whole step -/

/-- All that is due for channel `n` at the present step, in the model's canonical order (log 6). -/
def State.closeChannel (s : State) (n : Fin 16) : State :=
  let s := if s.pulseEndDue n then s.endPulse n else s
  let s := s.modChan n fun c => if c.charEnded then c.endChar else c
  let s := s.partTwoChannel n
  let s := if s.slotDue n then s.modChan n (·.moveSlot) else s
  let s := if s.evaluable n then s.completeEvaluation n else s
  let s := if s.gateDue n then s.moveGate n else s
  s.modChan n fun c => if c.charDue then c.takeChar 0 else c

end Sys2Proof.Machine
end

