-- ==== Sys2Proof/Machine/Layouts.lean ====
section
/-! DEFINITION. Frame and record layouts (chapter 11): the encodings of fields, records, replies and
notices. -/

namespace Sys2Proof.Machine

/-! ## Common fields (section 11.1) -/

/-- One byte of a number. -/
def byte (v : Nat) : List Byte := [BitVec.ofNat 8 v]

/-- A flag or presence byte. -/
def flagByte (b : Bool) : List Byte := byte b.toNat

/-- `n` zero bytes. -/
def zeros (n : Nat) : List Byte := List.replicate n 0

/-- A lane: 0 = A, 1 = B. -/
def laneNum : LaneId → Nat
  | .a => 0
  | .b => 1

/-- An index, or H'FF for none. -/
def indexByte (i : Option Nat) : List Byte := byte (i.getD 255)

/-- A channel set, two bytes. -/
def setBytes (m : ChannelSet) : List Byte := bytesOf 2 m.toNat

/-- A raw increment, five bytes. -/
def incBytes (i : Nat) : List Byte := bytesOf 5 i

/-- A tempo reported in mBPM, three bytes (R5). -/
def tempoBytes (i : Nat) : List Byte := bytesOf 3 (incrementToTempo i)

/-- A position: beat count, then phase. -/
def posBytes (p : Position) : List Byte := bytesOf 4 p.beat.toNat ++ bytesOf 6 p.phase.toNat

/-- A recorded step time, as the 32-bit step time of R1. -/
def stepBytes (t : Nat) : List Byte := bytesOf 4 t

/-- A presence byte, then the field or as many zero bytes as it has. -/
def optBytes {α : Type} (n : Nat) (f : α → List Byte) (o : Option α) : List Byte :=
  match o with
  | some v => byte 1 ++ f v
  | none => byte 0 ++ zeros n

/-- The entry field of R197: presence and id. -/
def entryField (id : Option Nat) : List Byte := optBytes 1 byte id

/-! ## Enumerations (section 11.1) -/

/-- Source kind. -/
def SourceKind.num : SourceKind → Nat
  | .free => 0
  | .tap => 1
  | .reference => 2
  | .bus _ => 3
  | .lane => 4

/-- The bus entry of a source kind, where it has one. -/
def SourceKind.entry : SourceKind → Option Nat
  | .bus n => some n.val
  | _ => none

/-- Alignment length. -/
def AlignLength.num : AlignLength → Nat
  | .beat => 0
  | .bar => 1
  | .phrase => 2

/-- Alignment mode. -/
def AlignMode.num : AlignMode → Nat
  | .nearest => 0
  | .forward => 1

/-- Follow state. -/
def FollowState.num : FollowState → Nat
  | .free => 0
  | .following => 1
  | .holdover => 2

/-- Lock state. -/
def LockState.num : LockState → Nat
  | .searching => 0
  | .locked => 1
  | .holdover => 2

/-- Channel function. -/
def ChannelFunction.num : ChannelFunction → Nat
  | .tick => 0
  | .gate => 1
  | .bar => 2
  | .phrase => 3
  | .code => 4

/-- Width mode. -/
def WidthMode.num : WidthMode → Nat
  | .ratio25 => 0
  | .ratio33 => 1
  | .ratio50 => 2
  | .fixed => 3

/-- Polarity. -/
def Polarity.num : Polarity → Nat
  | .normal => 0
  | .inverted => 1

/-- Code rate. -/
def CodeRate.num : CodeRate → Nat
  | .r38400 => 0
  | .r57600 => 1
  | .r115200 => 2

/-- The take mode of a preset. -/
def PresetTake.num : PresetTake → Nat
  | .immediate => 0
  | .nextBeat => 1
  | .nextBar => 2
  | .nextPhrase => 3

/-- Strobe mode. -/
def StrobeMode.num : StrobeMode → Nat
  | .hostOnly => 0
  | .laneA => 1
  | .laneB => 2
  | .byLine => 3
  | .both => 4

/-- Break mode. -/
def BreakMode.num : BreakMode → Nat
  | .mute => 0
  | .halt => 1

/-- Handover mode. -/
def HandoverMode.num : HandoverMode → Nat
  | .aligned => 0
  | .cut => 1

/-- Handover window. -/
def Window.num : Window → Nat
  | .w64 => 0
  | .w32 => 1
  | .w16 => 2
  | .w8 => 3

/-- Handover outcome. -/
def DoneOutcome.num : DoneOutcome → Nat
  | .aligned => 0
  | .forced => 1
  | .cut => 2
  | .cancelled => 3

/-- The outcome of a record in SWITCH_DUE. -/
def SwitchOutcome.num : SwitchOutcome → Nat
  | .aligned => 0
  | .forced => 1
  | .cut => 2

/-- Bit rate. -/
def BitRate.num : BitRate → Nat
  | .k250 => 0
  | .k500 => 1
  | .k1000 => 2

/-- Line mode. -/
def LineMode.num : LineMode → Nat
  | .forced1 => 0
  | .forced2 => 1
  | .auto => 2

/-- Lead lane: NONE, A, B. -/
def leadCode : Option LaneId → Nat
  | none => 0
  | some .a => 1
  | some .b => 2

/-- Host line rate. -/
def HostRate.num : HostRate → Nat
  | .baud1000000 => 0
  | .baud115200 => 1

/-- The transport action of an entry. -/
def EntryAction.num : EntryAction → Nat
  | .start => 0
  | .join => 1
  | .stop => 2
  | .resume => 3
  | .copy => 4

/-- Entry kind. -/
def EntryKind.num : EntryKind → Nat
  | .tempo => 0
  | .meter => 1
  | .source => 2
  | .transport => 3
  | .channel => 4

/-- Maker and preset index of an entry; H'FF for a HOST entry. -/
def Maker.bytes : Maker → List Byte
  | .host => byte 0 ++ indexByte none
  | .preset p => byte 1 ++ indexByte (some p.val)

/-- The target of an entry. -/
def Target.num : Target → Nat
  | .lane x => laneNum x
  | .channel n => n.val

/-- The lines of a bus. -/
def lineNum : BusLine → Nat
  | .one => 1
  | .two => 2

/-- The lock state byte of a lane's source; H'FF for a FREE lane. -/
def State.lockByte (s : State) (x : LaneId) : List Byte := indexByte ((s.sourceLock x).map (·.num))

/-! ## Lane records (R41, section 11.4) -/

/-- The lane byte of READ_LANE: the lane in bit 0 and RUNNING in bit 1. -/
def State.laneByte (s : State) (x : LaneId) : List Byte := byte ((laneNum x) + 2 * (s.lane x).isRunning.toNat)

/-- READ_LANE page 0. -/
def State.lanePage0 (s : State) (x : LaneId) : List Byte :=
  let l := s.lane x
  incBytes l.increment ++ tempoBytes l.increment ++ posBytes l.pos ++ byte l.beatInBar ++ byte l.barInPhrase
    ++ bytesOf 4 l.barCount.toNat ++ bytesOf 4 l.phraseCount.toNat ++ bytesOf 4 l.high.toNat

/-- A glide: I0, It, each raw and reported, G and j. -/
def Glide.bytes (g : Glide) : List Byte :=
  incBytes g.start ++ tempoBytes g.start ++ incBytes g.target ++ tempoBytes g.target ++ byte g.length
    ++ byte g.index

/-- READ_LANE page 1. -/
def State.lanePage1 (s : State) (x : LaneId) : List Byte :=
  let l := s.lane x
  optBytes 18 Glide.bytes l.glide ++ byte l.beatsPerBar ++ byte l.barsPerPhrase ++ stepBytes s.clock

/-- READ_LANE page 2. -/
def State.lanePage2 (s : State) (x : LaneId) : List Byte :=
  let l := s.lane x
  byte l.source.num ++ indexByte l.source.entry ++ byte l.alignLength.num ++ byte l.alignMode.num
    ++ bytesOf 2 l.pullLimit ++ byte l.followGlide ++ byte l.follow.num ++ s.lockByte x ++ flagByte l.aligned
    ++ bytesOfInt 8 l.residual ++ bytesOfInt 5 l.pullRate ++ bytesOfInt 2 l.barOffset ++ stepBytes s.clock

/-- The summary of a lane in STATUS (section 11.6). -/
def State.laneSummary (s : State) (x : LaneId) : List Byte :=
  let l := s.lane x
  [laneStateByte l] ++ tempoBytes l.increment ++ bytesOf 4 l.pos.beat.toNat ++ byte l.beatInBar
    ++ byte l.barInPhrase ++ byte l.source.num ++ byte l.follow.num ++ s.lockByte x

/-! ## Channel records (R107, sections 11.3 and 11.4) -/

/-- The channel configuration block of 14 bytes. -/
def ChannelConfig.bytes (c : ChannelConfig) : List Byte :=
  flagByte c.enabled ++ byte (laneNum c.lane) ++ byte c.function.num ++ byte c.n ++ byte c.d ++ byte c.swing
    ++ bytesOf 3 c.lead ++ byte c.width.num ++ byte c.fixedMs ++ byte c.polarity.num ++ byte c.codeRate.num
    ++ flagByte c.barCodes

/-- The beats remaining of a membership; 0 for a waiting member (log 17). -/
def MemberState.beats : MemberState → Nat
  | .waiting _ => 0
  | .inBreak n _ => n

/-- READ_CHANNEL page 0. Model's choice (log 17): the running state byte is 0 for IDLE and 1 for RUNNING, for which the
layouts list no values. -/
def State.channelPage0 (s : State) (n : Fin 16) : List Byte :=
  let c := s.chan n
  c.cfg.bytes ++ bytesOf 2 (leadSteps c.cfg.lead) ++ flagByte c.running
    ++ indexByte (c.brk.map (·.record.val)) ++ bytesOf 2 ((c.brk.map (·.state.beats)).getD 0)
    ++ indexByte (c.ho.map (·.record.val))

/-- The count READ_CHANNEL gives: the target count, or the emitted count of an IDLE channel (R107). -/
def State.reportedTarget (s : State) (n : Fin 16) : U32 :=
  if (s.chan n).running then s.targetCount n else (s.chan n).emitted

/-- READ_CHANNEL page 1. -/
def State.channelPage1 (s : State) (n : Fin 16) : List Byte :=
  let c := s.chan n
  posBytes c.origin ++ bytesOf 4 c.delta.toNat ++ bytesOf 4 c.emitted.toNat ++ posBytes (s.projection n)
    ++ bytesOf 4 (s.reportedTarget n).toNat ++ flagByte c.owing ++ bytesOf 4 c.mark.toNat ++ stepBytes s.clock

/-- The slot: its item and its position. -/
def slotBytes : Option SlotItem → List Byte
  | none => byte 0 ++ bytesOf 2 0
  | some .start => byte 1 ++ bytesOf 2 0
  | some .stop => byte 2 ++ bytesOf 2 0
  | some (.resume p) => byte 3 ++ bytesOf 2 p
  | some (.position p) => byte 4 ++ bytesOf 2 p

/-- The code transmitter and the character in transmission. -/
def CodeTx.bytes : CodeTx → List Byte
  | .idle => byte 0 ++ byte 0
  | .sending ch _ _ => byte 1 ++ [ch]

/-- READ_CHANNEL page 2. Model's choice (log 17): the line level byte is 0 for inactive and 1 for active, for which the
layouts list no values. -/
def State.channelPage2 (s : State) (n : Fin 16) : List Byte :=
  let c := s.chan n
  flagByte c.level ++ optBytes 4 stepBytes c.lastChange
    ++ optBytes 8 (fun p => stepBytes p.1 ++ stepBytes p.2) c.lastPulse
    ++ byte (c.barDue.toNat + 2 * c.phraseDue.toNat) ++ slotBytes c.slot ++ c.tx.bytes ++ byte c.fifo.length
    ++ (c.fifo ++ zeros (8 - c.fifo.length))

/-! ## Entries (R84, section 11.3) -/

/-- The parameters of an entry, filled with zeros to 14 bytes. -/
def Change.params (c : Change) : List Byte :=
  let raw := match c with
    | .tempo _ i g => incBytes i ++ byte g
    | .meter _ b p => byte b ++ byte p
    | .source _ g =>
      byte g.kind.num ++ indexByte g.kind.entry ++ byte g.alignLength.num ++ byte g.alignMode.num
        ++ bytesOf 2 g.pullLimit ++ byte g.followGlide
    | .transport _ a => byte a.num
    | .channel _ cfg => cfg.bytes
  raw ++ zeros (14 - raw.length)

/-- The due kind and due value of an entry. -/
def Due.bytes : Due → List Byte
  | .beat y => byte 0 ++ bytesOf 4 y.toNat
  | .cue c => byte 1 ++ bytesOf 4 (c.val + 1)
  | .join (.bus _ (some p)) => byte 2 ++ stepBytes p
  | .join _ => byte 3 ++ bytesOf 4 0

/-- An entry as LIST_CHANGES lists it, 25 bytes. -/
def Entry.bytes (e : Entry) : List Byte :=
  byte e.id ++ e.maker.bytes ++ byte e.change.kind.num ++ byte e.change.target.num ++ byte (laneNum e.timing)
    ++ e.due.bytes ++ e.change.params

/-! ## Breaks and handovers (section 11.5) -/

/-- The due of a break. -/
def BreakDue.bytes : BreakDue → List Byte
  | .absent => byte 0 ++ bytesOf 4 0
  | .beat y => byte 1 ++ bytesOf 4 y.toNat
  | .cue c => byte 2 ++ bytesOf 4 (c.val + 1)

/-- The channels IN_BREAK in record `r`. -/
def State.inBreakSet (s : State) (r : Fin 4) : ChannelSet :=
  setOf fun n => match (s.chan n).brk with
    | some m => m.record == r && m.entered
    | none => false

/-- Channel `n`'s beats remaining and mark in record `r`, where it is IN_BREAK there. -/
def State.breakCount (s : State) (r : Fin 4) (n : Fin 16) : Option (Nat × U32) :=
  match (s.chan n).brk with
  | some ⟨r', .inBreak beats mark⟩ => if r' = r then some (beats, mark) else none
  | _ => none

/-- The break beat marks of eight channels in record `r`. -/
def State.breakMarks (s : State) (r : Fin 4) (channels : List (Fin 16)) : List Byte :=
  channels.flatMap fun n => match s.breakCount r n with
    | some p => bytesOf 4 p.2.toNat
    | none => zeros 4

/-- READ_BREAKS, first page of record `r`. -/
def State.breakPage0 (s : State) (r : Fin 4) : List Byte :=
  match s.brk r with
  | none => zeros 35
  | some b =>
    byte (if b.active then 2 else 1) ++ byte b.mode.num ++ bytesOf 2 b.length ++ byte (laneNum b.timing)
      ++ b.due.bytes ++ flagByte b.cancelPending ++ setBytes b.set ++ setBytes b.completed
      ++ setBytes (s.breakMembers r) ++ setBytes (s.inBreakSet r)
      ++ allChannels.flatMap fun n => match s.breakCount r n with
        | some p => byte (p.1 - 1)
        | none => byte 0

/-- READ_BREAKS, page `p` of 0 to 11. -/
def State.breakPage (s : State) (p : Fin 12) : List Byte :=
  let r : Fin 4 := ⟨p.val / 3, by omega⟩
  match p.val % 3 with
  | 0 => s.breakPage0 r
  | 1 => s.breakMarks r (allChannels.take 8)
  | _ => s.breakMarks r (allChannels.drop 8)

/-- The held members of handover record `r`. -/
def State.heldSet (s : State) (r : Fin 4) : ChannelSet := setOf fun n => s.inHandoverRecord r n && s.held n

/-- READ_HANDOVERS of record `r`; a FREE record gives zeros and no outcome (log 17). -/
def State.handoverBytes (s : State) (r : Fin 4) : List Byte :=
  match s.ho r with
  | none => zeros 34 ++ indexByte none
  | some h =>
    let state := match h.stage with
      | .waitingAlign => 1
      | .switchDue _ _ _ => 2
    let outcome := match h.stage with
      | .waitingAlign => none
      | .switchDue o _ _ => some o.num
    byte state ++ byte (laneNum h.fromLane) ++ byte (laneNum h.toLane) ++ byte h.mode.num ++ byte h.alignLength.num
      ++ byte h.window.num ++ byte h.deadline ++ setBytes h.set ++ setBytes (s.handoverMembers r)
      ++ setBytes (s.heldSet r) ++ setBytes h.switched ++ optBytes 8 (bytesOfInt 8) h.residual
      ++ optBytes 4 (fun y : U32 => bytesOf 4 y.toNat) h.switchBeat
      ++ optBytes 4 (fun y : U32 => bytesOf 4 y.toNat) h.fromSwitchBeat ++ indexByte outcome

/-! ## The bus (R180, section 11.5) -/

/-- The transmit request: kind, beat and retry flag. -/
def requestBytes : Option TxRequest → List Byte
  | none => byte 0 ++ bytesOf 4 0 ++ flagByte false
  | some r =>
    match r.kind with
    | .boundary y => byte 1 ++ bytesOf 4 y.toNat ++ flagByte r.retry
    | .stop => byte 2 ++ bytesOf 4 0 ++ flagByte r.retry

/-- A line's state and consecutive counts. Model's choice (log 17): the state byte is 0 for OK and 1 for FAULTY, for
which the layouts list no values. -/
def BusLineState.faultBytes (v : BusLineState) : List Byte := flagByte v.faulty ++ byte v.errors ++ byte v.good

/-- A line's counters. -/
def BusLineState.counterBytes (v : BusLineState) : List Byte :=
  bytesOf 2 v.valid ++ bytesOf 2 v.framing ++ bytesOf 2 v.crc ++ bytesOf 2 v.length ++ bytesOf 2 v.violations

/-- READ_BUS, section BUS (R180). Model's choice (log 17): the four settings are those last accepted, also the bit rate
and the line mode of a SET_BUS accepted while an own frame is being sent, which take effect at that frame's end (R179). -/
def Bus.bytes (b : Bus) : List Byte :=
  byte b.settings.rate.num ++ byte b.settings.mode.num ++ byte (leadCode b.settings.lead)
    ++ bytesOf 2 b.settings.station.toNat ++ flagByte b.tx.isSome ++ requestBytes b.request
    ++ b.line1.faultBytes ++ b.line2.faultBytes ++ b.line1.counterBytes ++ b.line2.counterBytes
    ++ bytesOf 2 b.duplicates ++ bytesOf 2 b.accepted ++ bytesOf 2 b.unmatched ++ bytesOf 2 b.sent
    ++ bytesOf 2 b.losses ++ bytesOf 2 b.drops

/-- READ_BUS, section FILTER. -/
def Bus.filterBytes (b : Bus) : List Byte :=
  allEntries.flatMap fun n =>
    flagByte (b.accept[n]).enabled ++ bytesOf 2 (b.accept[n]).code.toNat ++ bytesOf 2 (b.accept[n]).mask.toNat

/-- The last frame of a bus tracker with its reference step time. -/
def lastFrameBytes (p : BusFrame × Nat) : List Byte :=
  let f := p.1
  bytesOf 2 f.station.toNat ++ flagByte f.run ++ flagByte f.holdover ++ byte f.tag.toNat ++ byte f.beatsPerBar
    ++ byte f.barsPerPhrase ++ byte f.beatInBar ++ byte f.barInPhrase ++ bytesOf 4 f.beat.toNat
    ++ bytesOf 6 f.phase.toNat ++ incBytes f.increment ++ stepBytes p.2

/-- READ_BUS, section TRACKER, without the index. -/
def BusTracker.bytes (t : BusTracker) : List Byte :=
  byte t.lock.num ++ optBytes 2 (fun i : BitVec 10 => bytesOf 2 i.toNat) t.station
    ++ optBytes 28 lastFrameBytes t.last ++ optBytes 8 (fun i => incBytes i ++ tempoBytes i) t.estimate
    ++ optBytes 4 stepBytes t.holdoverStart ++ bytesOf 2 t.rejects

/-! ## STATUS (R192, section 11.6) -/

/-- The link error counts in the order of R183. -/
def LinkCounts.bytes (c : LinkCounts) : List Byte :=
  bytesOf 2 c.sync ++ bytesOf 2 c.length ++ bytesOf 2 c.crc ++ bytesOf 2 c.character ++ bytesOf 2 c.gap
    ++ bytesOf 2 c.overrun

/-- The STATUS data. -/
def State.statusBytes (s : State) : List Byte :=
  s.laneSummary .a ++ s.laneSummary .b ++ [s.link.sticky.toByte] ++ s.link.counts.bytes ++ byte s.queue.length
    ++ byte (allRecords.filter fun r => (s.brk r).isNone).length
    ++ byte (allRecords.filter fun r => (s.ho r).isNone).length ++ byte s.link.notices.length

/-! ## Notices (section 11.6) -/

/-- The subject class and index of a source notice. -/
def SourceSubject.bytes : SourceSubject → List Byte
  | .tap => byte 3 ++ byte 0
  | .reference => byte 3 ++ byte 1
  | .bus n => byte 3 ++ byte (n.val + 2)
  | .lane x => byte 1 ++ byte (laneNum x)

/-- The subject class and index of a lane. -/
def laneSubject (x : LaneId) : List Byte := byte 1 ++ byte (laneNum x)

/-- The subject class and index of a notice. -/
def NoticeBody.subject : NoticeBody → List Byte
  | .ready _ _ => byte 0 ++ byte 0
  | .sourceLocked t _ _ => t.bytes
  | .sourceHoldover t _ _ => t.bytes
  | .sourceSearching t _ _ => t.bytes
  | .aligned x => laneSubject x
  | .glideDone x => laneSubject x
  | .changeApplied (.lane x) _ _ _ _ => laneSubject x
  | .changeApplied (.channel n) _ _ _ _ => byte 2 ++ byte n.val
  | .changesDiscarded x _ => laneSubject x
  | .transportStarted x _ => laneSubject x
  | .transportStopped x => laneSubject x
  | .bar x _ => laneSubject x
  | .phrase x _ => laneSubject x
  | .breakDone r _ _ _ _ => byte 4 ++ byte r.val
  | .handoverDone r _ _ _ _ _ _ => byte 5 ++ byte r.val
  | .presetTaken x _ _ _ _ => laneSubject x
  | .presetIgnored x _ _ _ => laneSubject x
  | .refMisaligned => byte 3 ++ byte 1
  | .lineFault l _ => byte 6 ++ byte (lineNum l)
  | .lineRestored l => byte 6 ++ byte (lineNum l)
  | .idConflict _ _ _ _ => byte 7 ++ byte 0

/-- Estimate reported and station of a source notice. -/
def sourceDetail (tempo : Nat) (station : Option (BitVec 10)) : List Byte :=
  bytesOf 3 tempo ++ optBytes 2 (fun i : BitVec 10 => bytesOf 2 i.toNat) station

/-- The causes of TRANSPORT_STARTED. -/
def StartCause.num : StartCause → Nat
  | .start => 0
  | .join => 1
  | .copy => 2
  | .resume => 3

/-- The causes of READY. -/
def ResetCause.num : ResetCause → Nat
  | .power => 0
  | .request => 1

/-- The reasons of BREAK_DONE. -/
def BreakReason.num : BreakReason → Nat
  | .complete => 0
  | .cancelled => 1
  | .stopped => 2

/-- The causes of a recall. -/
def RecallCause.num : RecallCause → Nat
  | .strobe => 0
  | .host => 1

/-- The reasons of PRESET_IGNORED. -/
def IgnoreReason.num : IgnoreReason → Nat
  | .sourceNotFree => 0
  | .laneStopped => 1

/-- The bad outcomes of LINE_FAULT. -/
def BadOutcome.num : BadOutcome → Nat
  | .missing => 0
  | .receive .framing => 1
  | .receive .crc => 2
  | .receive .length => 3
  | .receive .violation => 4

/-- The causes of ID_CONFLICT. -/
def ConflictCause.num : ConflictCause → Nat
  | .arbitration => 0
  | .received => 1

/-- The detail of a notice. -/
def NoticeBody.detail : NoticeBody → List Byte
  | .ready cause rate => byte cause.num ++ byte rate.num
  | .sourceLocked _ tempo station => sourceDetail tempo station
  | .sourceHoldover _ tempo station => sourceDetail tempo station
  | .sourceSearching _ tempo station => sourceDetail tempo station
  | .changeApplied _ id kind maker applied =>
    byte id ++ byte kind.num ++ maker.bytes ++ byte (if applied then 0 else 1)
  | .changesDiscarded _ count => byte count
  | .transportStarted _ cause => byte cause.num
  | .bar _ count => bytesOf 4 count.toNat
  | .phrase _ count => bytesOf 4 count.toNat
  | .breakDone _ reason mode set completed =>
    byte reason.num ++ byte mode.num ++ setBytes set ++ setBytes completed
  | .handoverDone _ outcome fromLane toLane set switched y =>
    byte outcome.num ++ byte (laneNum fromLane) ++ byte (laneNum toLane) ++ setBytes set ++ setBytes switched
      ++ optBytes 4 (fun y : U32 => bytesOf 4 y.toNat) y
  | .presetTaken _ index cause entry tempo =>
    byte index.val ++ byte cause.num ++ entryField entry ++ bytesOf 3 tempo
  | .presetIgnored _ index cause reason => byte index.val ++ byte cause.num ++ byte reason.num
  | .lineFault _ outcome => byte outcome.num
  | .idConflict station cause on1 on2 =>
    bytesOf 2 station.toNat ++ byte cause.num ++ byte (on1.toNat + 2 * on2.toNat)
  | .aligned _ => []
  | .glideDone _ => []
  | .transportStopped _ => []
  | .refMisaligned => []
  | .lineRestored _ => []

/-- A notice's payload: kind, subject, step time, detail (R197). -/
def Notice.payload (n : Notice) : List Byte :=
  byte n.body.kindNumber ++ n.body.subject ++ bytesOf 4 n.time.toNat ++ n.body.detail

/-! ## The host frame (R187, R188, section 11.2) -/

/-- The sync byte. -/
def syncByte : Byte := 0xC5

/-- A whole host frame. -/
def hostFrameBytes (type tag : Byte) (payload : List Byte) : List Byte :=
  let body := byte payload.length ++ [type, tag] ++ payload
  syncByte :: body ++ crcBytes body

/-- The frame of a reply: the request's TYPE with its most significant bit set, its TAG and the payload (R187). -/
def Reply.frame (r : Reply) : List Byte := hostFrameBytes (r.type ||| 0x80#8) r.tag r.payload

/-- The frame of a notice: TYPE H'7F and TAG H'00 (R188). -/
def Notice.frame (n : Notice) : List Byte := hostFrameBytes 0x7F#8 0x00#8 n.payload

end Sys2Proof.Machine
end

