-- ==== Sys2Proof/Machine/Operands.lean ====
section
/-! DEFINITION. Operands: the fields of a request's payload (R196, sections 11.1 and 11.3). A field that is out
of range or unknown decodes to none. -/

namespace Sys2Proof.Machine

/-! ## Common fields -/

/-- The byte at offset `i` of a payload, as a number. -/
def byteAt (p : List Byte) (i : Nat) : Nat := (p.getD i 0).toNat

/-- A lane: 0 = A, 1 = B. -/
def laneOfByte : Nat → Option LaneId
  | 0 => some .a
  | 1 => some .b
  | _ => none

/-- A flag byte: 0 or 1. -/
def flagOfByte : Nat → Option Bool
  | 0 => some false
  | 1 => some true
  | _ => none

/-- An index below `n`. -/
def indexOfByte (n : Nat) (v : Nat) : Option (Fin n) := if h : v < n then some ⟨v, h⟩ else none

/-- A value in `lo..hi`. -/
def inRange (lo hi v : Nat) : Option Nat := if lo ≤ v && v ≤ hi then some v else none

/-- A signed two-byte field. -/
def int16At (p : List Byte) (i : Nat) : Int := (BitVec.ofNat 16 (fieldAt p i 2)).toInt

/-! ## Take points (R69, section 11.1) -/

/-- A take point: mode and argument. The argument is read for AFTER_BARS and CUE alone (R69, R196). -/
def takeOf (mode arg : Nat) : Option TakeMode :=
  match mode with
  | 0 => some .immediate
  | 1 => some .nextBeat
  | 2 => some .nextBar
  | 3 => some .nextPhrase
  | 4 => (inRange 1 64 arg).map .afterBars
  | 5 => if arg = 0 then none else (indexOfByte 4 (arg - 1)).map .cue
  | 6 => some .join
  | _ => none

/-- The take point at offset `i`. -/
def takeAt (p : List Byte) (i : Nat) : Option TakeMode := takeOf (byteAt p i) (byteAt p (i + 1))

/-- The take point at offset `i` of a request that refuses JOIN. -/
def takeNoJoin (p : List Byte) (i : Nat) : Option TakeMode :=
  match takeAt p i with
  | some .join => none
  | t => t

/-! ## Enumerations (section 11.1) -/

/-- Source kind; the bus entry is read for BUS alone (R196). -/
def sourceKindOf (kind entry : Nat) : Option SourceKind :=
  match kind with
  | 0 => some .free
  | 1 => some .tap
  | 2 => some .reference
  | 3 => (indexOfByte 8 entry).map .bus
  | 4 => some .lane
  | _ => none

/-- Alignment length. -/
def alignLengthOf : Nat → Option AlignLength
  | 0 => some .beat
  | 1 => some .bar
  | 2 => some .phrase
  | _ => none

/-- Alignment mode. -/
def alignModeOf : Nat → Option AlignMode
  | 0 => some .nearest
  | 1 => some .forward
  | _ => none

/-- Channel function. -/
def functionOf : Nat → Option ChannelFunction
  | 0 => some .tick
  | 1 => some .gate
  | 2 => some .bar
  | 3 => some .phrase
  | 4 => some .code
  | _ => none

/-- Width mode. -/
def widthOf : Nat → Option WidthMode
  | 0 => some .ratio25
  | 1 => some .ratio33
  | 2 => some .ratio50
  | 3 => some .fixed
  | _ => none

/-- Polarity. -/
def polarityOf : Nat → Option Polarity
  | 0 => some .normal
  | 1 => some .inverted
  | _ => none

/-- Code rate. -/
def codeRateOf : Nat → Option CodeRate
  | 0 => some .r38400
  | 1 => some .r57600
  | 2 => some .r115200
  | _ => none

/-- The take modes a preset holds; the others are refused (R87). -/
def presetTakeOf : Nat → Option PresetTake
  | 0 => some .immediate
  | 1 => some .nextBeat
  | 2 => some .nextBar
  | 3 => some .nextPhrase
  | _ => none

/-- Strobe mode. -/
def strobeModeOf : Nat → Option StrobeMode
  | 0 => some .hostOnly
  | 1 => some .laneA
  | 2 => some .laneB
  | 3 => some .byLine
  | 4 => some .both
  | _ => none

/-- Quantize setting. -/
def quantizeOf : Nat → Option Quantize
  | 0 => some .none
  | 1 => some .beat
  | 2 => some .bar
  | _ => none

/-- Break mode. -/
def breakModeOfByte : Nat → Option BreakMode
  | 0 => some .mute
  | 1 => some .halt
  | _ => none

/-- Handover mode. -/
def handoverModeOf : Nat → Option HandoverMode
  | 0 => some .aligned
  | 1 => some .cut
  | _ => none

/-- Handover window. -/
def windowOf : Nat → Option Window
  | 0 => some .w64
  | 1 => some .w32
  | 2 => some .w16
  | 3 => some .w8
  | _ => none

/-- Bit rate. -/
def bitRateOf : Nat → Option BitRate
  | 0 => some .k250
  | 1 => some .k500
  | 2 => some .k1000
  | _ => none

/-- Line mode. -/
def lineModeOf : Nat → Option LineMode
  | 0 => some .forced1
  | 1 => some .forced2
  | 2 => some .auto
  | _ => none

/-- Lead lane: NONE, A, B. -/
def leadOf : Nat → Option (Option LaneId)
  | 0 => some none
  | 1 => some (some .a)
  | 2 => some (some .b)
  | _ => none

/-- A ten-bit station id, code or mask. -/
def tenBits (v : Nat) : Option (BitVec 10) := if v < 1024 then some (BitVec.ofNat 10 v) else none

/-! ## The channel configuration block (R103, section 11.3) -/

/-- The configuration at offset `i`, before its clamps (R103). -/
def configAt (p : List Byte) (i : Nat) : Option ChannelConfig := do
  let enabled ← flagOfByte (byteAt p i)
  let lane ← laneOfByte (byteAt p (i + 1))
  let function ← functionOf (byteAt p (i + 2))
  let n ← inRange 1 96 (byteAt p (i + 3))
  let d ← inRange 1 16 (byteAt p (i + 4))
  let width ← widthOf (byteAt p (i + 9))
  let polarity ← polarityOf (byteAt p (i + 11))
  let codeRate ← codeRateOf (byteAt p (i + 12))
  let barCodes ← flagOfByte (byteAt p (i + 13))
  some {
    enabled := enabled
    lane := lane
    function := function
    n := n
    d := d
    swing := byteAt p (i + 5)
    lead := fieldAt p (i + 6) 3
    width := width
    fixedMs := byteAt p (i + 10)
    polarity := polarity
    codeRate := codeRate
    barCodes := barCodes }

/-- The clamps of swing, lead and w (R14, R15, R18). -/
def ChannelConfig.clamped (c : ChannelConfig) : ChannelConfig :=
  { c with
    swing := clampNat 50 75 c.swing
    lead := min c.lead 250000
    fixedMs := clampNat 1 50 c.fixedMs }

end Sys2Proof.Machine
end

