-- ==== Sys2Proof/Machine/Link.lean ====
section
/-! DEFINITION. The host link (chapter 10): framing, the request queue, replies, the transmitter and resets. -/

namespace Sys2Proof.Machine

/-! ## Link counts (R183) -/

/-- Change the link error counts. -/
def State.modCounts (s : State) (f : LinkCounts → LinkCounts) : State :=
  s.modLink fun k => { k with counts := f k.counts }

/-! ## Verified frames (R183, R185) -/

/-- The requests held (R185). -/
def requestsHeld (q : List QueueItem) : Nat :=
  (q.filter fun i => match i with
    | .request _ => true
    | .refusal _ _ => false).length

/-- The refusals held (R185). -/
def refusalsHeld (q : List QueueItem) : Nat :=
  (q.filter fun i => match i with
    | .request _ => false
    | .refusal _ _ => true).length

/-- The most requests and refusals held (R185). -/
abbrev requestCapacity : Nat := 4

/-- The most refusals held (R185). -/
abbrev refusalCapacity : Nat := 8

/-- A verified frame is placed as a request or a refusal, or discarded with the overrun count (R185). -/
def State.placeFrame (s : State) (f : HostFrame) : State :=
  let q := s.link.requests
  if requestsHeld q < requestCapacity then s.modLink fun k => { k with requests := q ++ [.request f] }
  else if refusalsHeld q < refusalCapacity then
    s.modLink fun k => { k with requests := q ++ [.refusal f.type f.tag] }
  else s.modCounts fun c => { c with overrun := bump16 c.overrun }

/-- The check of a frame received whole: placed, or discarded with the CRC error count (R183). -/
def State.verifyFrame (s : State) : State :=
  match s.link.complete with
  | none => s
  | some (f, hi, lo) =>
    let s := s.modLink fun k => { k with complete := none }
    if crcBytes (byte f.payload.length ++ [f.type, f.tag] ++ f.payload) == [hi, lo] then s.placeFrame f
    else s.modCounts fun c => { c with crc := bump16 c.crc }

/-! ## Characters (R182, R184) -/

/-- The framing state. -/
def State.setRx (s : State) (rx : HostRx) : State := s.modLink fun k => { k with rx := rx }

/-- A character whose stop bit is high, taken by the framing state (R182). -/
def State.takeChar (s : State) (v : Byte) : State :=
  let s := s.modLink fun k => { k with lastChar := s.clock }
  match s.link.rx with
  | .hunt =>
    if v = syncByte then s.setRx .length else s.modCounts fun c => { c with sync := bump16 c.sync }
  | .length =>
    if v.toNat ≤ 56 then s.setRx (.header v.toNat)
    else (s.setRx .hunt).modCounts fun c => { c with length := bump16 c.length }
  | .header n => s.setRx (.headerTag n v)
  | .headerTag n t => s.setRx (if n = 0 then .check ⟨t, v, []⟩ else .payload n t v [])
  | .payload n t g got =>
    let got := got ++ [v]
    s.setRx (if got.length < n then .payload n t g got else .check ⟨t, g, got⟩)
  | .check f => s.setRx (.checkLow f v)
  | .checkLow f hi => (s.setRx .hunt).modLink fun k => { k with complete := some (f, hi, v) }

/-- A character whose stop bit is low: counted, and a partial frame is discarded; the receiver then waits for
ten bit times of high level (R184). -/
def State.charError (s : State) : State :=
  (s.modCounts fun c => { c with character := bump16 c.character }).modLink fun k =>
    { k with rx := .hunt, waitIdle := true }

/-- A character completes on HRX. A frame received whole before it is checked first; a receiver that waits for
idle takes no start bit (R182, R184). -/
def State.hostCharacter (s : State) (v : Byte) (stopHigh : Bool) : State :=
  if s.link.waitIdle then s
  else
    let s := s.verifyFrame
    if stopHigh then s.takeChar v else s.charError

/-- The longest silence within a frame, 2 ms (R184). -/
abbrev gapLimit : Nat := 192

/-- A partial frame has waited too long for its next character (R184). -/
def State.gapDue (s : State) : Bool := s.link.rx != .hunt && gapLimit < since s.clock s.link.lastChar

/-- The partial frame is discarded (R184). -/
def State.gapTimeout (s : State) : State :=
  (s.setRx .hunt).modCounts fun c => { c with gap := bump16 c.gap }

/-! ## The head of the request queue (R186, R187) -/

/-- The result codes of R187. -/
inductive ResultCode where
  | ok
  | clamped
  | badType
  | badLength
  | badValue
  | wrongState
  | busy
  | queueFull
  | tableFull
  | linkBusy
  deriving DecidableEq, Repr

/-- The code's byte (R187). -/
def ResultCode.value : ResultCode → Nat
  | .ok => 0x00
  | .clamped => 0x01
  | .badType => 0x10
  | .badLength => 0x11
  | .badValue => 0x12
  | .wrongState => 0x20
  | .busy => 0x21
  | .queueFull => 0x22
  | .tableFull => 0x23
  | .linkBusy => 0x30

/-- A reply payload: the result byte and its data (R187). -/
structure Answer where
  result : ResultCode
  data : List Byte
  deriving DecidableEq, Repr

/-- The payload of an answer. -/
def Answer.payload (a : Answer) : List Byte := byte a.result.value ++ a.data

/-- A refusal carries the result byte alone (R187). -/
def Answer.refuse (r : ResultCode) : Answer := ⟨r, []⟩

/-- CLAMPED where a clamp changed a value, OK otherwise. -/
def Answer.okOr (clamped : Bool) (data : List Byte) : Answer := ⟨if clamped then .clamped else .ok, data⟩

/-- The most replies held (R187). -/
abbrev replyCapacity : Nat := 4

/-- The head of the request queue may be handled at this step: the reply queue has a free place, no RESET is
pending, and no entry has been handled at this step (R186). -/
def State.mayHandle (s : State) : Bool :=
  s.live && s.link.replies.length < replyCapacity && !s.link.resetPending && !s.link.handled

/-- The head entry where it may be handled. -/
def State.head (s : State) : Option QueueItem := if s.mayHandle then s.link.requests.head? else none

/-- The head entry leaves the queue; the step has handled one (R186). -/
def State.takeHead (s : State) : State :=
  s.modLink fun k => { k with requests := k.requests.tail, handled := true }

/-- One reply is appended (R187). -/
def State.reply (s : State) (type tag : Byte) (payload : List Byte) (resets : Bool) : State :=
  s.modLink fun k => { k with replies := k.replies ++ [⟨type, tag, payload, resets⟩] }

/-- The TYPE bytes of the request catalogue (section 11.3). -/
def catalogueTypes : List Byte :=
  [0x01, 0x02, 0x03, 0x04, 0x10, 0x11, 0x12, 0x13, 0x14, 0x15, 0x16, 0x17, 0x20, 0x21, 0x28, 0x29, 0x2A, 0x2B,
   0x30, 0x31, 0x38, 0x39, 0x3A, 0x48, 0x49, 0x4A, 0x50, 0x51, 0x52]

/-- The head request, where its TYPE is `type` and it belongs to the row that `mine` picks by its payload
(log 2). -/
def State.headOf (s : State) (type : Byte) (mine : List Byte → Bool) : Option HostFrame :=
  match s.head with
  | some (.request f) => if f.type = type && mine f.payload then some f else none
  | _ => none

/-- The handling of the head request of a row: BAD_LENGTH, or the request's own rule, whose answer is the
reply (R186, R187). -/
def State.handle (s : State) (type : Byte) (mine : List Byte → Bool) (len : Nat)
    (rule : List Byte → State → State × Answer) : State :=
  match s.headOf type mine with
  | none => s
  | some f =>
    let s := s.takeHead
    if f.payload.length = len then
      let out := rule f.payload s
      out.1.reply f.type f.tag out.2.payload false
    else s.reply f.type f.tag (Answer.refuse .badLength).payload false

/-- Every payload of the TYPE belongs to the row. -/
def anyPayload (_ : List Byte) : Bool := true

/-- A request that is refused changes no state (R187). -/
def refuse (r : ResultCode) (s : State) : State × Answer := (s, .refuse r)

/-! ## The transmitter (R181, R188) -/

/-- One character on HTX, in 1/75 of a phase step: 72 at 1,000,000 baud, 625 at 115,200 (R181). -/
def HostRate.charUnits : HostRate → Nat
  | .baud1000000 => 72
  | .baud115200 => 625

/-- One phase step in the same units. -/
abbrev hostStepUnits : Nat := 75

/-- The level of HTX: the characters of a frame back to back, and high when no frame is sent (R181). True is high. -/
def Link.htx (k : Link) : Bool :=
  match k.tx with
  | .idle => true
  | .sending bytes age _ _ =>
    match bytes[age / k.rate.charUnits]? with
    | some v => charLevel v (age % k.rate.charUnits * 10 / k.rate.charUnits)
    | none => true

/-- The level of HTX, which is high throughout a reset (R181, R195). -/
def State.htx (s : State) : Bool :=
  match s.mode with
  | .inReset _ _ => true
  | _ => s.link.htx

/-- The last stop bit of the frame being sent has ended. -/
def Link.txEnded (k : Link) : Bool :=
  match k.tx with
  | .sending bytes age _ _ => bytes.length * k.rate.charUnits ≤ age
  | .idle => false

/-- The frame being sent is the OK reply of a RESET. -/
def Link.txResets (k : Link) : Bool :=
  match k.tx with
  | .sending _ _ _ resets => resets
  | .idle => false

/-- The transmitter chooses its next frame at this step: it is idle, or its frame has ended (R188). Model's choice
(log 16): a frame whose last stop bit ends between two phase steps is taken as ended at the later one. -/
def Link.chooses (k : Link) : Bool := k.tx == .idle || (k.txEnded && !k.txResets)

/-- The oldest reply is taken (R188). Model's choice (log 16): its first bit begins at the phase step of the choice, at
age 0, the fraction of a step by which the frame before it ended earlier being dropped. -/
def Link.beginReply (k : Link) : Link :=
  match k.replies with
  | r :: rest => { k with replies := rest, tx := .sending r.frame 0 true r.resets }
  | [] => k

/-- A notice is taken: no reply waits and no RESET is pending (R188). -/
def Link.noticeNext (k : Link) : Bool := k.replies.isEmpty && !k.resetPending && !k.notices.isEmpty

/-- The oldest notice is taken (R188), beginning at age 0 like a reply (log 16). -/
def Link.beginNotice (k : Link) : Link :=
  match k.notices with
  | n :: rest => { k with notices := rest, tx := .sending n.frame 0 false false }
  | [] => k

/-- The frame ends with nothing to take (R188). -/
def Link.endsIdle (k : Link) : Bool :=
  k.txEnded && !k.txResets && k.replies.isEmpty && (k.resetPending || k.notices.isEmpty)

/-- The choice of R188. -/
def Link.choose (k : Link) : Link :=
  if k.chooses then
    if !k.replies.isEmpty then k.beginReply
    else if k.noticeNext then k.beginNotice
    else { k with tx := .idle }
  else k

/-- The frame being sent ages by one phase step. -/
def Link.age (k : Link) : Link :=
  match k.tx with
  | .sending bytes age r z => { k with tx := .sending bytes (age + hostStepUnits) r z }
  | .idle => k

/-! ## Resets (R194, R195) -/

/-- The OK reply of a RESET has been sent: its reset begins (R194). -/
def State.resetDue (s : State) : Bool := s.live && s.link.txEnded && s.link.txResets

/-- A reset begins: every block stands at its reset values until the release (R194, R195). -/
def State.beginReset (s : State) (cause : ResetCause) : State :=
  State.resetValues (.inReset cause 0) s.link.rate s.pins s.pending

/-- The phase steps a reset of a RESET request lasts, 1 ms (R195). -/
abbrev resetSteps : Nat := 96

/-- The reset may be released: RST has gone high, or 96 steps have passed (R195). -/
def State.releasable (s : State) : Option ResetCause :=
  match s.mode with
  | .inReset .power _ => some .power
  | .inReset .request age => if resetSteps ≤ age then some .request else none
  | _ => none

/-- The level of the RATE strap as a host line rate (R181). -/
def strapRate (high : Bool) : HostRate := if high then .baud115200 else .baud1000000

/-- The release of a reset: every block takes its reset values, and the strap is sampled (R181, R195). -/
def State.releaseReset (s : State) (strapHigh : Bool) : State :=
  match s.releasable with
  | some cause => State.resetValues (.released cause) (strapRate strapHigh) s.pins s.pending
  | none => s

end Sys2Proof.Machine
end

