-- ==== Sys2Proof/Machine/LaneRequests.lean ====
section
/-! DEFINITION. The requests of lanes and sources (chapters 2 and 3): each request's rule and the meaning of its
command. -/

namespace Sys2Proof.Machine

/-! ## The scheduler's checks and entries (R69 to R73) -/

/-- The scheduler's checks of R70. -/
def State.schedulerBar (s : State) (take : TakeMode) (timing : LaneId) : Option ResultCode :=
  if take.isBoundary && !(s.lane timing).isRunning then some .wrongState
  else if take ≠ .immediate ∧ s.queueFull then some .queueFull
  else none

/-- The due point of a take mode resolved at acceptance on timing lane `timing` (R70, R71, R78). -/
def State.dueOf (s : State) (take : TakeMode) (timing : LaneId) : Due :=
  match take with
  | .cue c => .cue c
  | .join => .join (s.waitOn (s.lane timing).source)
  | m => .beat (m.dueBeat (s.lane timing))

/-- A change of the host's request: carried out now by `now` for IMMEDIATE, and otherwise made an entry, whose
id the reply carries (R70). -/
def State.schedule (s : State) (take : TakeMode) (timing : LaneId) (change : Change) (now : State → State) :
    State × Option Nat :=
  if take = .immediate then (now s, none)
  else (s.addEntry .host timing (s.dueOf take timing) change, some s.nextId)

/-! ## SET_TEMPO (R27) -/

/-- The rule of SET_TEMPO (R27, R28). -/
def setTempo (p : List Byte) (s : State) : State × Answer :=
  match laneOfByte (byteAt p 0), takeNoJoin p 5, laneOfByte (byteAt p 7) with
  | some x, some take, some timing =>
    if (s.lane x).source ≠ .free then refuse .wrongState s
    else match s.schedulerBar take timing with
      | some r => refuse r s
      | none =>
        let tempo := fieldAt p 1 3
        let inc := tempoToIncrement tempo
        let glide := clampGlide (byteAt p 4)
        let out := s.schedule take timing (.tempo x inc glide) fun t => (t.applyTempo x inc glide).1
        (out.1, .okOr (tempoClamped tempo || byteAt p 4 != glide)
          (entryField out.2 ++ incBytes inc ++ tempoBytes inc ++ byte glide))
  | _, _, _ => refuse .badValue s

/-- SET_TEMPO. -/
def execSetTempo (s : State) : Host.Outcome State Fault Refusal := .next (s.handle 0x10 anyPayload 8 setTempo)

/-! ## SET_METER (R29) -/

/-- IMMEDIATE on a RUNNING target lane is NEXT_BAR of that lane (R29). -/
def meterTake (take : TakeMode) (timing x : LaneId) (running : Bool) : TakeMode × LaneId :=
  if take = .immediate ∧ running then (.nextBar, x) else (take, timing)

/-- The rule of SET_METER (R29, R30). -/
def setMeter (p : List Byte) (s : State) : State × Answer :=
  match laneOfByte (byteAt p 0), inRange 1 16 (byteAt p 1), inRange 1 64 (byteAt p 2), takeNoJoin p 3,
      laneOfByte (byteAt p 5) with
  | some x, some beats, some bars, some given, some named =>
    let t := meterTake given named x (s.lane x).isRunning
    match s.schedulerBar t.1 t.2 with
    | some r => refuse r s
    | none =>
      let out := s.schedule t.1 t.2 (.meter x beats bars) fun t => t.applyMeter x beats bars
      (out.1, .okOr false (entryField out.2))
  | _, _, _, _, _ => refuse .badValue s

/-- SET_METER. -/
def execSetMeter (s : State) : Host.Outcome State Fault Refusal := .next (s.handle 0x11 anyPayload 6 setMeter)

/-! ## SET_SOURCE (R67) -/

/-- The settings of SET_SOURCE, clamped (R67). -/
def sourceSettingsOf (p : List Byte) : Option SourceSettings := do
  let kind ← sourceKindOf (byteAt p 1) (byteAt p 2)
  let alignLength ← alignLengthOf (byteAt p 3)
  let alignMode ← alignModeOf (byteAt p 4)
  some ⟨kind, alignLength, alignMode, min 256 (fieldAt p 5 2), min 16 (byteAt p 7)⟩

/-- The rule of SET_SOURCE (R67, R68). -/
def setSource (p : List Byte) (s : State) : State × Answer :=
  match laneOfByte (byteAt p 0), sourceSettingsOf p, takeNoJoin p 8, laneOfByte (byteAt p 10) with
  | some x, some g, some take, some timing =>
    if g.kind = .lane ∧ (s.lane (otherLane x)).source = .lane then refuse .badValue s
    else match s.schedulerBar take timing with
      | some r => refuse r s
      | none =>
        let out := s.schedule take timing (.source x g) fun t => (t.applySource x g).1
        (out.1, .okOr (fieldAt p 5 2 != g.pullLimit || byteAt p 7 != g.followGlide)
          (entryField out.2 ++ bytesOf 2 g.pullLimit ++ byte g.followGlide))
  | _, _, _, _ => refuse .badValue s

/-- SET_SOURCE. -/
def execSetSource (s : State) : Host.Outcome State Fault Refusal := .next (s.handle 0x12 anyPayload 11 setSource)

/-! ## TRANSPORT (R31) -/

/-- The entry action of a TRANSPORT action byte under a take mode; JOIN goes with START alone (R31). -/
def actionOf (b : Nat) (take : TakeMode) : Option EntryAction :=
  match b with
  | 0 => some (if take = .join then .join else .start)
  | 1 => if take = .join then none else some .stop
  | 2 => if take = .join then none else some .resume
  | _ => none

/-- What R31 refuses for the source of a START with JOIN. -/
def State.joinBar (s : State) (x : LaneId) : Option ResultCode :=
  match (s.lane x).source with
  | .bus _ | .lane => if s.sourceLock x = some .locked then none else some .wrongState
  | _ => some .badValue

/-- What R31 refuses for an action on lane `x`. -/
def State.transportBar (s : State) (x : LaneId) (a : EntryAction) : Option ResultCode :=
  let running := (s.lane x).isRunning
  match a with
  | .join =>
    match s.joinBar x with
    | some r => some r
    | none => if running then some .wrongState else none
  | .stop => if running then none else some .wrongState
  | _ => if running then some .wrongState else none

/-- The rule of TRANSPORT (R31 to R37). A START with JOIN is timed by its target lane (R69). -/
def transportRule (p : List Byte) (s : State) : State × Answer :=
  match laneOfByte (byteAt p 0), takeAt p 2, laneOfByte (byteAt p 4) with
  | some x, some take, some named =>
    match actionOf (byteAt p 1) take with
    | none => refuse .badValue s
    | some a =>
      let timing := if a = .join then x else named
      match s.transportBar x a, s.schedulerBar take timing with
      | some r, _ => refuse r s
      | none, some r => refuse r s
      | none, none =>
        let out := s.schedule take timing (.transport x a) fun t => (t.applyTransport x a).1
        (out.1, .okOr false (entryField out.2))
  | _, _, _ => refuse .badValue s

/-- The TRANSPORT requests that the row TRANSPORT_STOP takes: action STOP in a payload of the right length
(log 2). -/
def stopPayload (p : List Byte) : Bool := p.length == 5 && byteAt p 1 == 1

/-- The TRANSPORT requests that the row TRANSPORT_RESUME takes: action RESUME in a payload of the right length
(log 2). -/
def resumePayload (p : List Byte) : Bool := p.length == 5 && byteAt p 1 == 2

/-- Every other TRANSPORT request is the row TRANSPORT_START's (log 2). -/
def startPayload (p : List Byte) : Bool := !stopPayload p && !resumePayload p

/-- TRANSPORT with action START. -/
def execTransportStart (s : State) : Host.Outcome State Fault Refusal := .next (s.handle 0x13 startPayload 5 transportRule)

/-- TRANSPORT with action STOP. -/
def execTransportStop (s : State) : Host.Outcome State Fault Refusal := .next (s.handle 0x13 stopPayload 5 transportRule)

/-- TRANSPORT with action RESUME. -/
def execTransportResume (s : State) : Host.Outcome State Fault Refusal := .next (s.handle 0x13 resumePayload 5 transportRule)

/-! ## NUDGE (R40) -/

/-- The rule of NUDGE (R13, R40). -/
def nudge (p : List Byte) (s : State) : State × Answer :=
  match laneOfByte (byteAt p 0) with
  | none => refuse .badValue s
  | some x =>
    let l := s.lane x
    if l.isRunning && l.follow == .following then
      let n := int16At p 1
      let out := s.nudgeLane x n
      (out.1, .okOr out.2 (bytesOfInt 2 (clampInt (-512) 511 n) ++ bytesOfInt 8 (out.1.lane x).residual))
    else refuse .wrongState s

/-- NUDGE. -/
def execNudge (s : State) : Host.Outcome State Fault Refusal := .next (s.handle 0x14 anyPayload 3 nudge)

/-! ## COPY_LANE (R38) -/

/-- The rule of COPY_LANE (R38, R39). -/
def copyRule (p : List Byte) (s : State) : State × Answer :=
  match laneOfByte (byteAt p 0), takeNoJoin p 1 with
  | some f, some take =>
    if (s.lane (otherLane f)).isRunning || !(s.lane f).isRunning then refuse .wrongState s
    else match s.schedulerBar take f with
      | some r => refuse r s
      | none =>
        let out := s.schedule take f (.transport (otherLane f) .copy) fun t => t.copyLane f
        (out.1, .okOr false (entryField out.2))
  | _, _ => refuse .badValue s

/-- COPY_LANE. -/
def execCopyLane (s : State) : Host.Outcome State Fault Refusal := .next (s.handle 0x15 anyPayload 3 copyRule)

/-! ## READ_LANE (R41, R198) -/

/-- The rule of READ_LANE (R41, R198). -/
def readLane (p : List Byte) (s : State) : State × Answer :=
  match laneOfByte (byteAt p 0), byteAt p 1 with
  | some x, 0 => (s, .okOr false (s.laneByte x ++ s.lanePage0 x))
  | some x, 1 => (s, .okOr false (s.laneByte x ++ s.lanePage1 x))
  | some x, 2 => (s, .okOr false (s.laneByte x ++ s.lanePage2 x))
  | _, _ => refuse .badValue s

/-- READ_LANE. -/
def execReadLane (s : State) : Host.Outcome State Fault Refusal := .next (s.handle 0x16 anyPayload 2 readLane)

/-! ## SET_REFERENCE (R55) -/

/-- The reference tracker with new settings: a new Q restarts counting, and disabling the downbeat line clears
the mark (R49, R55). The pulse count is brought into the range of a smaller Q (R49; DEDUCED, log 10). -/
def RefTracker.withSettings (t : RefTracker) (q : Nat) (downbeat realign : Bool) : RefTracker :=
  let t := { t with downbeat := downbeat, realign := realign, mark := t.mark && downbeat }
  if q = t.q then t else { t with q := q, count := min t.count (q - 1), window := [], restart := true }

/-- The settings take effect: a LOCKED tracker with a new Q enters HOLDOVER, and a change of downbeat enable
brings the residuals of its lanes into range (R9, R55). -/
def State.applyReference (s : State) (q : Nat) (downbeat realign : Bool) : State :=
  let leaves := q ≠ s.ref.q ∧ s.ref.lock = .locked
  let moves := downbeat ≠ s.ref.downbeat
  let s := { s with ref := s.ref.withSettings q downbeat realign }
  let s := if leaves then s.refEnterHoldover else s
  if moves then s.forFollowers .reference fun x t => t.rangeResidual x else s

/-- The rule of SET_REFERENCE (R55). -/
def setReference (p : List Byte) (s : State) : State × Answer :=
  match inRange 1 96 (byteAt p 0), flagOfByte (byteAt p 1), flagOfByte (byteAt p 2) with
  | some q, some downbeat, some realign => (s.applyReference q downbeat realign, .okOr false [])
  | _, _, _ => refuse .badValue s

/-- SET_REFERENCE. -/
def execSetReference (s : State) : Host.Outcome State Fault Refusal :=
  .next (s.handle 0x17 anyPayload 3 setReference)

end Sys2Proof.Machine
end

