-- ==== Sys2Proof/Machine/BusRequests.lean ====
section
/-! DEFINITION. The requests of the beat bus (chapter 9) and the meanings of its commands: receptions, pairings
and the part's own frames. -/

namespace Sys2Proof.Machine

/-! ## SET_BUS (R179) -/

/-- The settings take effect: another lead lane removes the request, and the bit rate and line mode act now or
at the end of the part's own frame (R179). -/
def Bus.withSettings (b : Bus) (g : BusSettings) : Bus :=
  let b := { b with
    settings := g
    request := if g.lead = b.settings.lead then b.request else none }
  if b.tx.isSome then { b with deferred := true } else b.takeSettings

/-- The rule of SET_BUS (R179). -/
def setBus (p : List Byte) (s : State) : State × Answer :=
  match bitRateOf (byteAt p 0), lineModeOf (byteAt p 1), leadOf (byteAt p 2), tenBits (fieldAt p 3 2) with
  | some rate, some mode, some lead, some station =>
    (s.modBus (·.withSettings ⟨rate, mode, lead, station⟩), .okOr false [])
  | _, _, _, _ => refuse .badValue s

/-- SET_BUS. -/
def execSetBus (s : State) : Host.Outcome State Fault Refusal := .next (s.handle 0x50 anyPayload 5 setBus)

/-! ## WRITE_FILTER (R170) -/

/-- Bus tracker `n` takes its reset values, with the notice and lane reactions of R56. -/
def State.resetBusTracker (s : State) (n : Fin 8) : State :=
  let t := s.busTracker n
  let s := s.setBusTracker n .reset
  if t.lock = .searching then s else s.becameSearching (.bus n) (.bus n) none t.station

/-- The rule of WRITE_FILTER (R56, R170). -/
def writeFilter (p : List Byte) (s : State) : State × Answer :=
  match indexOfByte 8 (byteAt p 0), flagOfByte (byteAt p 1), tenBits (fieldAt p 2 2), tenBits (fieldAt p 4 2) with
  | some n, some enabled, some code, some mask =>
    ((s.modBus fun b => { b with accept := b.accept.set n.val ⟨enabled, code, mask⟩ n.isLt }).resetBusTracker n,
      .okOr false [])
  | _, _, _, _ => refuse .badValue s

/-- WRITE_FILTER. -/
def execWriteFilter (s : State) : Host.Outcome State Fault Refusal :=
  .next (s.handle 0x51 anyPayload 6 writeFilter)

/-! ## READ_BUS (R180) -/

/-- The rule of READ_BUS (R180); the index is read for the section TRACKER alone (R196). -/
def readBus (p : List Byte) (s : State) : State × Answer :=
  match byteAt p 0 with
  | 0 => (s, .okOr false s.bus.bytes)
  | 1 => (s, .okOr false s.bus.filterBytes)
  | 2 =>
    match indexOfByte 8 (byteAt p 1) with
    | some n => (s, .okOr false (byte n.val ++ (s.busTracker n).bytes))
    | none => refuse .badValue s
  | _ => refuse .badValue s

/-- READ_BUS. -/
def execReadBus (s : State) : Host.Outcome State Fault Refusal := .next (s.handle 0x52 anyPayload 2 readBus)

/-! ## Receptions (R163, R164, R167) -/

/-- VALID_COPY: a copy on line `l` completes with a correct CRC (R163). -/
def execValidCopy (l : BusLine) (chars : List Byte) (s : State) : Host.Outcome State Fault Refusal :=
  .next (if s.live then s.validCopy l chars else s)

/-- RECEIVE_ERROR: a reception on line `l` ends in an error (R164). -/
def execReceiveError (l : BusLine) (e : ReceiveErrorKind) (s : State) : Host.Outcome State Fault Refusal :=
  .next (if s.live then s.receiveError l e else s)

/-- PAIRING_TIMEOUT: the oldest pairing still open after W steps closes (R167). -/
def execPairingTimeout (s : State) : Host.Outcome State Fault Refusal :=
  .next (match s.live, s.overduePairing with
    | true, some p => s.timeOutPairing p
    | _, _ => s)

/-- BUS_LINE_IDLE: line `l` has been recessive for 12 bit times (R163). -/
def execBusLineIdle (l : BusLine) (s : State) : Host.Outcome State Fault Refusal :=
  .next (if s.live then s.lineIdle l else s)

/-- BUS_DOMINANT_EDGE: a falling edge on line `l` (R163). -/
def execBusDominantEdge (l : BusLine) (s : State) : Host.Outcome State Fault Refusal :=
  .next (if s.live then s.dominantEdge l else s)

/-- BUS_DOMINANT_RUN_END: a dominant run of `bits` bit times on line `l` ends (R163). -/
def execBusDominantRunEnd (l : BusLine) (bits : Nat) (s : State) : Host.Outcome State Fault Refusal :=
  .next (if s.live then s.runEnd l bits else s)

/-- BUS_FIRST_START_BIT: the reference instant of a copy on line `l` (R163). -/
def execBusFirstStartBit (l : BusLine) (s : State) : Host.Outcome State Fault Refusal :=
  .next (if s.live then s.firstStart l else s)

/-! ## The part's own frames (R173 to R177) -/

/-- FRAME_BEGIN: a present request begins to be sent, or is dropped as no longer fresh (R173, R175). -/
def execFrameBegin (s : State) : Host.Outcome State Fault Refusal := .next (if s.live then s.beginFrame else s)

/-- REFERENCE_INSTANT: the part captures the lead lane's record (R173). -/
def execReferenceInstant (s : State) : Host.Outcome State Fault Refusal :=
  .next (if s.live && s.instantDue then s.captureInstant else s)

/-- ARBITRATION_LOSS: the bit time `bit` was sent recessive and read dominant (R174). -/
def execArbitrationLoss (bit : Nat) (on1 on2 : Bool) (s : State) : Host.Outcome State Fault Refusal :=
  .next (if s.live && s.lossPossible bit on1 on2 then s.lose bit on1 on2 else s)

/-- FRAME_SENT: the last stop bit of the part's own frame has been driven (R177). -/
def execFrameSent (s : State) : Host.Outcome State Fault Refusal :=
  .next (if s.live && s.frameSentDue then s.finishFrame else s)

end Sys2Proof.Machine
end

