-- ==== Sys2Proof/Machine/ChannelRequests.lean ====
section
/-! DEFINITION. The requests of channels (chapter 6) and the meanings of their commands and of the events of
channels, breaks and handovers within a phase step. -/

namespace Sys2Proof.Machine

/-! ## SET_CHANNEL (R103, R104) -/

/-- An IMMEDIATE configuration that is taken as NEXT_BEAT: a grid change of a RUNNING channel that stays
enabled (R104). -/
def Channel.becomesEntry (c : Channel) (cfg : ChannelConfig) : Bool :=
  c.running && cfg.enabled && gridChange c.cfg cfg

/-- The take mode of a SET_CHANNEL as R104 takes it. -/
def Channel.takeFor (c : Channel) (take : TakeMode) (cfg : ChannelConfig) : TakeMode :=
  if take = .immediate ∧ c.becomesEntry cfg then .nextBeat else take

/-- The data of a SET_CHANNEL reply: entry, swing, lead and w used. -/
def channelReply (id : Option Nat) (cfg : ChannelConfig) : List Byte :=
  entryField id ++ byte cfg.swing ++ bytesOf 3 cfg.lead ++ byte cfg.fixedMs

/-- The rule of SET_CHANNEL (R103, R104). The timing lane is the channel's lane (R69). -/
def setChannel (p : List Byte) (s : State) : State × Answer :=
  match indexOfByte 16 (byteAt p 0), configAt p 1, takeNoJoin p 15, laneOfByte (byteAt p 17) with
  | some n, some raw, some given, some _ =>
    let c := s.chan n
    let cfg := raw.clamped
    let take := c.takeFor given cfg
    if cfg.lane ≠ c.cfg.lane ∧ c.ho.isSome then refuse .busy s
    else match s.schedulerBar take c.cfg.lane with
      | some r => refuse r s
      | none =>
        let out := s.schedule take c.cfg.lane (.channel n cfg) fun t => t.applyConfig n cfg .acceptance
        (out.1, .okOr (raw != cfg) (channelReply out.2 cfg))
  | _, _, _, _ => refuse .badValue s

/-- SET_CHANNEL. -/
def execSetChannel (s : State) : Host.Outcome State Fault Refusal := .next (s.handle 0x30 anyPayload 18 setChannel)

/-! ## READ_CHANNEL (R107, R198) -/

/-- The rule of READ_CHANNEL (R107, R198). -/
def readChannel (p : List Byte) (s : State) : State × Answer :=
  match indexOfByte 16 (byteAt p 0), byteAt p 1 with
  | some n, 0 => (s, .okOr false (byte n.val ++ s.channelPage0 n))
  | some n, 1 => (s, .okOr false (byte n.val ++ s.channelPage1 n))
  | some n, 2 => (s, .okOr false (byte n.val ++ s.channelPage2 n))
  | _, _ => refuse .badValue s

/-- READ_CHANNEL. -/
def execReadChannel (s : State) : Host.Outcome State Fault Refusal :=
  .next (s.handle 0x31 anyPayload 2 readChannel)

/-! ## Events of part 2 of R108 -/

/-- The present step's event of channel `n` where the part is live, the state as it is otherwise (log 4). -/
def State.whenLive (s : State) (due : Bool) (f : State → State) : State := if s.live && due then f s else s

/-- CHANNEL_ENTRY_CROSSING: the first CHANNEL entry of channel `n` whose crossing is due (R76). -/
def execChannelEntryCrossing (n : Fin 16) (s : State) : Host.Outcome State Fault Refusal :=
  .next (s.whenLive true fun s => match s.crossingDue n with
    | some e => s.applyCrossing n e
    | none => s)

/-- BREAK_ENTRY: the waiting member `n` enters its break (R132). -/
def execBreakEntry (n : Fin 16) (s : State) : Host.Outcome State Fault Refusal :=
  .next (s.whenLive (s.entryOfBreakDue n) (·.enterBreak n))

/-- BREAK_END: member `n` ends its break (R134, R138). -/
def execBreakEnd (n : Fin 16) (s : State) : Host.Outcome State Fault Refusal :=
  .next (s.whenLive true fun s => match s.endOfBreakDue n with
    | some (y, complete) => s.endMember n y complete
    | none => s)

/-- MEMBER_HOLD: member `n` is held (R150). -/
def execMemberHold (n : Fin 16) (s : State) : Host.Outcome State Fault Refusal :=
  .next (s.whenLive (s.holdDue n) (·.setHeld n))

/-- MEMBER_SWITCH: member `n` switches to the to-lane (R151 to R153). -/
def execMemberSwitch (n : Fin 16) (s : State) : Host.Outcome State Fault Refusal :=
  .next (s.whenLive (s.switchDue n) (·.workSwitch n))

/-! ## Pulses, gates and codes -/

/-- Part 2 of the evaluation of a RUNNING channel `n` lies behind, the lanes that it reads having made their work of the
step (R108); an IDLE channel is not evaluated. -/
def State.partTwoDone (s : State) (n : Fin 16) : Bool :=
  !(s.chan n).running || (s.settled n && s.switchSettled n && s.partTwoClear n)

/-- Part 5 of the evaluation of channel `n` may be worked now: it is to be evaluated, and nothing of part 2 is
outstanding (R108). -/
def State.atPartFive (s : State) (n : Fin 16) : Bool := s.evaluable n && s.partTwoClear n

/-- PULSE_BEGIN: a TICK channel begins a pulse, which completes its evaluation (R115, R116). -/
def execPulseBegin (n : Fin 16) (s : State) : Host.Outcome State Fault Refusal :=
  .next (s.whenLive (s.atPartFive n && s.tickPulseDue n) (·.completeEvaluation n))

/-- PULSE_END: a pulse reaches its end step (R116). -/
def execPulseEnd (n : Fin 16) (s : State) : Host.Outcome State Fault Refusal :=
  .next (s.whenLive (s.pulseEndDue n) (·.endPulse n))

/-- BAR_PULSE_BEGIN: a BAR or PHRASE channel begins its owed pulse, which completes its evaluation (R120). -/
def execBarPulseBegin (n : Fin 16) (s : State) : Host.Outcome State Fault Refusal :=
  .next (s.whenLive (s.atPartFive n && s.barPulseDue n) (·.completeEvaluation n))

/-- GATE_LEVEL_CHANGE: a GATE line takes its wanted level, that of a RUNNING channel at part 5 of its evaluation
(R108, R118). -/
def execGateLevelChange (n : Fin 16) (s : State) : Host.Outcome State Fault Refusal :=
  .next (s.whenLive (s.partTwoDone n && s.gateDue n) (·.moveGate n))

/-- TICK_CODE_QUEUED: a CODE channel queues a tick, which completes its evaluation (R125). -/
def execTickCodeQueued (n : Fin 16) (s : State) : Host.Outcome State Fault Refusal :=
  .next (s.whenLive (s.atPartFive n && s.tickCodeDue n) (·.completeEvaluation n))

/-- SLOT_MOVE: the transport item moves into the FIFO (R124). -/
def execSlotMove (n : Fin 16) (s : State) : Host.Outcome State Fault Refusal :=
  .next (s.whenLive (s.slotDue n) fun s => s.modChan n (·.moveSlot))

/-- CHARACTER_END: a character ends and the next is taken (R123). -/
def execCharacterEnd (n : Fin 16) (s : State) : Host.Outcome State Fault Refusal :=
  .next (s.whenLive (s.chan n).charEnded fun s => s.modChan n (·.endChar))

/-- CHARACTER_BEGIN: the idle transmitter takes the oldest character (R123). -/
def execCharacterBegin (n : Fin 16) (s : State) : Host.Outcome State Fault Refusal :=
  .next (s.whenLive (s.chan n).charDue fun s => s.modChan n (·.takeChar 0))

end Sys2Proof.Machine
end

