-- ==== Sys2Proof/Machine/LinkRequests.lean ====
section
/-! DEFINITION. The requests of the host link (chapter 10) and the meanings of its commands: the head of the
request queue, received characters, transmitted frames and resets. -/

namespace Sys2Proof.Machine

/-! ## IDENTIFY (R193) -/

/-- The rule of IDENTIFY (R193). -/
def identify (_ : List Byte) (s : State) : State × Answer :=
  (s, .okOr false (bytesOf 2 0x2160 ++ byte 0x01 ++ byte 2 ++ byte 16 ++ byte s.link.rate.num ++ byte 56))

/-- IDENTIFY. -/
def execIdentify (s : State) : Host.Outcome State Fault Refusal := .next (s.handle 0x01 anyPayload 0 identify)

/-! ## RESET (R194) -/

/-- The RESET request at the head of the queue: the OK reply is appended and a RESET becomes pending (R194). -/
def State.handleReset (s : State) : State :=
  match s.headOf 0x02 anyPayload with
  | none => s
  | some f =>
    let t := s.takeHead
    if f.payload.length = 0 then
      (t.modLink fun k => { k with resetPending := true }).reply f.type f.tag (Answer.okOr false []).payload true
    else t.reply f.type f.tag (Answer.refuse .badLength).payload false

/-- RESET. -/
def execReset (s : State) : Host.Outcome State Fault Refusal := .next s.handleReset

/-! ## STATUS (R192) -/

/-- The rule of STATUS: the flags returned set are cleared (R192). -/
def status (_ : List Byte) (s : State) : State × Answer :=
  (s.modSticky fun _ => .clear, .okOr false s.statusBytes)

/-- STATUS. -/
def execStatus (s : State) : Host.Outcome State Fault Refusal := .next (s.handle 0x03 anyPayload 0 status)

/-! ## SET_NOTICE_MASK (R190) -/

/-- The rule of SET_NOTICE_MASK (R190). -/
def setNoticeMask (p : List Byte) (s : State) : State × Answer :=
  let mask : BitVec 32 := BitVec.ofNat 32 (fieldAt p 0 4)
  if maskValid mask then
    (s.modLink fun k => { k with mask := mask }, .okOr false (bytesOf 4 mask.toNat))
  else refuse .badValue s

/-- SET_NOTICE_MASK. -/
def execSetNoticeMask (s : State) : Host.Outcome State Fault Refusal :=
  .next (s.handle 0x04 anyPayload 4 setNoticeMask)

/-! ## Heads that no request rule takes (R186) -/

/-- UNKNOWN_TYPE_REQUEST: the head request's TYPE is not in the catalogue (R186). -/
def State.unknownType (s : State) : State :=
  match s.head with
  | some (.request f) =>
    if catalogueTypes.contains f.type then s
    else s.takeHead.reply f.type f.tag (Answer.refuse .badType).payload false
  | _ => s

/-- UNKNOWN_TYPE_REQUEST. -/
def execUnknownTypeRequest (s : State) : Host.Outcome State Fault Refusal := .next s.unknownType

/-- The head entry is a refusal, answered LINK_BUSY (R186). -/
def State.answerBusy (s : State) : State :=
  match s.head with
  | some (.refusal type tag) => s.takeHead.reply type tag (Answer.refuse .linkBusy).payload false
  | _ => s

/-- LINK_BUSY. -/
def execLinkBusy (s : State) : Host.Outcome State Fault Refusal := .next s.answerBusy

/-! ## Receiving (R182 to R185) -/

/-- VERIFIED_FRAME: the check of a frame received whole (R183). -/
def execVerifiedFrame (s : State) : Host.Outcome State Fault Refusal :=
  .next (if s.live then s.verifyFrame else s)

/-- GAP_TIMEOUT: the partial frame has waited more than 192 steps (R184). -/
def execGapTimeout (s : State) : Host.Outcome State Fault Refusal :=
  .next (if s.live && s.gapDue then s.gapTimeout else s)

/-- HOST_CHARACTER: a character completes on HRX (R182, R184). -/
def execHostCharacter (v : Byte) (stopHigh : Bool) (s : State) : Host.Outcome State Fault Refusal :=
  .next (if s.live then s.hostCharacter v stopHigh else s)

/-- HOST_LINE_IDLE: HRX has been high for ten bit times (R184). -/
def execHostLineIdle (s : State) : Host.Outcome State Fault Refusal :=
  .next (if s.live then s.modLink fun k => { k with waitIdle := false } else s)

/-! ## Sending (R188) -/

/-- REPLY_BEGIN: the oldest reply is taken (R188). -/
def execReplyBegin (s : State) : Host.Outcome State Fault Refusal :=
  .next (if s.live && s.link.chooses && !s.link.replies.isEmpty then s.modLink (·.beginReply) else s)

/-- NOTICE_BEGIN: the oldest notice is taken (R188). -/
def execNoticeBegin (s : State) : Host.Outcome State Fault Refusal :=
  .next (if s.live && s.link.chooses && s.link.noticeNext then s.modLink (·.beginNotice) else s)

/-- HOST_FRAME_END: a frame ends with no reply or notice to take (R188). -/
def execHostFrameEnd (s : State) : Host.Outcome State Fault Refusal :=
  .next (if s.live && s.link.endsIdle then s.modLink fun k => { k with tx := .idle } else s)

/-! ## Resets (R194, R195) -/

/-- RESET_BEGIN: the OK reply of a RESET has been sent (R194). -/
def execResetBegin (s : State) : Host.Outcome State Fault Refusal :=
  .next (if s.resetDue then s.beginReset .request else s)

/-- POWER_ON_RESET: RST goes low (R195). -/
def execPowerOnReset (s : State) : Host.Outcome State Fault Refusal := .next (s.beginReset .power)

/-- RESET_RELEASE: RST goes high, or a RESET has lasted 96 steps; the strap is sampled (R181, R195). -/
def execResetRelease (strapHigh : Bool) (s : State) : Host.Outcome State Fault Refusal :=
  .next (s.releaseReset strapHigh)

end Sys2Proof.Machine
end

