-- ==== Sys2Proof/Machine/RecordRequests.lean ====
section
/-! DEFINITION. The requests of the break unit (chapter 7) and the handover unit (chapter 8), and the meanings of
their commands. -/

namespace Sys2Proof.Machine

/-! ## START_BREAK (R131, R132) -/

/-- Channel `n` of a set holds `p`, for some channel of the set. -/
def anyIn (set : ChannelSet) (p : Fin 16 → Bool) : Bool := allChannels.any fun n => inSet set n && p n

/-- What R131 refuses after the value checks. -/
def State.breakBar (s : State) (set : ChannelSet) (take : TakeMode) (timing : LaneId) : Option ResultCode :=
  if anyIn set fun n => (s.chan n).brk.isSome then some .busy
  else if anyIn set fun n => !(s.laneOf n).isRunning then some .wrongState
  else if take.isBoundary && !(s.lane timing).isRunning then some .wrongState
  else none

/-- The due of a break (R132). -/
def State.breakDue (s : State) (take : TakeMode) (timing : LaneId) : BreakDue :=
  match take with
  | .immediate => .absent
  | .cue c => .cue c
  | m => .beat (m.dueBeat (s.lane timing))

/-- The break placed in record `r`: its members wait, at once for IMMEDIATE or where their projection already
stands at or past the due beat (R131, R132). -/
def State.openBreak (s : State) (r : Fin 4) (set : ChannelSet) (mode : BreakMode) (length : Nat)
    (take : TakeMode) (timing : LaneId) : State :=
  let due := s.breakDue take timing
  let s := s.setBrk r (some ⟨false, set, mode, length, timing, due, false, 0, false, false⟩)
  let s := s.forChannels fun n t =>
    if inSet set n then t.modChan n fun c => { c with brk := some ⟨r, .waiting (take = .immediate)⟩ } else t
  match due with
  | .beat y => s.markPassed r timing y
  | _ => s

/-- The rule of START_BREAK (R131, R132). -/
def startBreak (p : List Byte) (s : State) : State × Answer :=
  let set : ChannelSet := BitVec.ofNat 16 (fieldAt p 0 2)
  match breakModeOfByte (byteAt p 2), inRange 1 256 (fieldAt p 3 2), takeNoJoin p 5, laneOfByte (byteAt p 7) with
  | some mode, some length, some take, some timing =>
    if set == 0 || anyIn set fun n => !(s.chan n).cfg.enabled then refuse .badValue s
    else match s.breakBar set take timing, s.freeBreak with
      | some r, _ => refuse r s
      | none, none => refuse .tableFull s
      | none, some r => (s.openBreak r set mode length take timing, .okOr false (byte r.val))
  | _, _, _, _ => refuse .badValue s

/-- START_BREAK. -/
def execStartBreak (s : State) : Host.Outcome State Fault Refusal := .next (s.handle 0x38 anyPayload 8 startBreak)

/-! ## CANCEL_BREAK (R138) -/

/-- The member of record `r` leaves at the cancel: a WAITING member, or any member of a MUTE (R138). -/
def State.leavesAtCancel (s : State) (r : Fin 4) (mode : BreakMode) (n : Fin 16) : Bool :=
  match (s.chan n).brk with
  | some m => m.record == r && (!m.entered || mode == .mute)
  | none => false

/-- A break cancelled (R138). -/
def State.cancelBreak (s : State) (r : Fin 4) (b : BreakRecord) : State :=
  if b.cancelPending then s
  else
    let s := s.setBrk r (some { b with cancelSeen := true, cancelPending := b.mode == .halt })
    (s.forChannels fun n t =>
      if t.leavesAtCancel r b.mode n then t.modChan n fun c => { c with brk := none } else t).finishBreak r

/-- The rule of CANCEL_BREAK (R138). -/
def cancelBreakRule (p : List Byte) (s : State) : State × Answer :=
  match indexOfByte 4 (byteAt p 0) with
  | none => refuse .badValue s
  | some r =>
    match s.brk r with
    | none => refuse .wrongState s
    | some b => (s.cancelBreak r b, .okOr false [])

/-- CANCEL_BREAK. -/
def execCancelBreak (s : State) : Host.Outcome State Fault Refusal :=
  .next (s.handle 0x39 anyPayload 1 cancelBreakRule)

/-! ## READ_BREAKS (R141, R198) -/

/-- The rule of READ_BREAKS (R141, R198). -/
def readBreaks (p : List Byte) (s : State) : State × Answer :=
  match indexOfByte 12 (byteAt p 0) with
  | some page => (s, .okOr false (byte page.val ++ s.breakPage page))
  | none => refuse .badValue s

/-- READ_BREAKS. -/
def execReadBreaks (s : State) : Host.Outcome State Fault Refusal :=
  .next (s.handle 0x3A anyPayload 1 readBreaks)

/-! ## START_HANDOVER (R143, R145) -/

/-- The channels of the set are enabled and attached to the lane other than the to-lane (R143). -/
def State.handoverSetValid (s : State) (set : ChannelSet) (toLane : LaneId) : Bool :=
  set != 0 && !anyIn set fun n => !(s.chan n).cfg.enabled || (s.chan n).cfg.lane == toLane

/-- What R143 refuses after the value checks. -/
def State.handoverBar (s : State) (set : ChannelSet) : Option ResultCode :=
  if anyIn set fun n => (s.chan n).ho.isSome then some .busy
  else if !s.laneA.isRunning || !s.laneB.isRunning then some .wrongState
  else none

/-- A handover placed in record `r`; a CUT is SWITCH_DUE at once (R143, R145). A boundary already made known does not
measure it (R146). -/
def State.openHandover (s : State) (r : Fin 4) (set : ChannelSet) (toLane : LaneId) (mode : HandoverMode)
    (align : AlignLength) (window : Window) (deadline : Nat) : State :=
  let h : HandoverRecord := ⟨.waitingAlign, set, 0, toLane, mode, align, window, deadline, none⟩
  let s := s.setHo r (some h)
  let s := { s with known := s.known.map fun k => KnownBoundary.without r k }
  let s := s.forChannels fun n t => if inSet set n then t.modChan n fun c => { c with ho := some ⟨r, false⟩ } else t
  match mode with
  | .aligned => s
  | .cut => s.setHo r (some { h with stage := .switchDue .cut (s.switchBeatFor r toLane (s.lane toLane).pos.beat align) none })

/-- The rule of START_HANDOVER (R143, R145). -/
def startHandover (p : List Byte) (s : State) : State × Answer :=
  let set : ChannelSet := BitVec.ofNat 16 (fieldAt p 0 2)
  match laneOfByte (byteAt p 2), handoverModeOf (byteAt p 3), alignLengthOf (byteAt p 4), windowOf (byteAt p 5),
      inRange 1 64 (byteAt p 6) with
  | some x, some mode, some align, some window, some deadline =>
    if !s.handoverSetValid set x then refuse .badValue s
    else match s.handoverBar set, s.freeHandover with
      | some r, _ => refuse r s
      | none, none => refuse .tableFull s
      | none, some r => (s.openHandover r set x mode align window deadline, .okOr false (byte r.val))
  | _, _, _, _, _ => refuse .badValue s

/-- START_HANDOVER. -/
def execStartHandover (s : State) : Host.Outcome State Fault Refusal :=
  .next (s.handle 0x48 anyPayload 7 startHandover)

/-! ## CANCEL_HANDOVER (R156) and READ_HANDOVERS (R157) -/

/-- The rule of CANCEL_HANDOVER (R156). -/
def cancelHandoverRule (p : List Byte) (s : State) : State × Answer :=
  match indexOfByte 4 (byteAt p 0) with
  | none => refuse .badValue s
  | some r => if (s.ho r).isNone then refuse .wrongState s else (s.cancelHandover r, .okOr false [])

/-- CANCEL_HANDOVER. -/
def execCancelHandover (s : State) : Host.Outcome State Fault Refusal :=
  .next (s.handle 0x49 anyPayload 1 cancelHandoverRule)

/-- The rule of READ_HANDOVERS (R157). -/
def readHandovers (p : List Byte) (s : State) : State × Answer :=
  match indexOfByte 4 (byteAt p 0) with
  | some r => (s, .okOr false (byte r.val ++ s.handoverBytes r))
  | none => refuse .badValue s

/-- READ_HANDOVERS. -/
def execReadHandovers (s : State) : Host.Outcome State Fault Refusal :=
  .next (s.handle 0x4A anyPayload 1 readHandovers)

end Sys2Proof.Machine
end

