-- ==== Sys2Proof/Machine/Presets.lean ====
section
/-! DEFINITION. The preset unit (chapter 5): recalls by strobe and by request, and the strobe and select
lines. -/

namespace Sys2Proof.Machine

/-- Preset record `p` (R86). -/
def State.preset (s : State) (p : Fin 16) : Preset := s.presets[p]

/-- What stands in the way of a recall for a lane (R93, R98). -/
inductive RecallBar where
  | sourceNotFree
  | laneStopped
  | queueFull
  deriving DecidableEq, Repr

/-- The first test of R93 that a recall of preset `p` for lane `x` fails. -/
def State.recallBar (s : State) (p : Fin 16) (x : LaneId) : Option RecallBar :=
  let take := (s.preset p).take.takeMode
  if (s.lane x).source ≠ .free then some .sourceNotFree
  else if take.isBoundary && !(s.lane x).isRunning then some .laneStopped
  else if take ≠ .immediate ∧ s.queueFull then some .queueFull
  else none

/-- The recall itself: applied at once (R94) or made an entry (R95), with PRESET_TAKEN (R96). The id of the
entry, if any. -/
def State.recall (s : State) (p : Fin 16) (x : LaneId) (cause : RecallCause) : State × Option Nat :=
  let r := s.preset p
  let taken (id : Option Nat) : NoticeBody := .presetTaken x p cause id (incrementToTempo r.increment)
  match r.take with
  | .immediate => ((s.applyTempo x r.increment r.glide).1.post (taken none), none)
  | _ =>
    let id := s.nextId
    ((s.addEntry (.preset p) x (.beat (r.take.takeMode.dueBeat (s.lane x))) (.tempo x r.increment r.glide)).post
      (taken (some id)), some id)

/-- A strobe recall of preset `p` for lane `x` (R93, R97). -/
def State.strobeRecall (s : State) (p : Fin 16) (x : LaneId) : State :=
  match s.recallBar p x with
  | some .sourceNotFree => s.post (.presetIgnored x p .strobe .sourceNotFree)
  | some .laneStopped => s.post (.presetIgnored x p .strobe .laneStopped)
  | some .queueFull => s.modSticky fun f => { f with strobeDropped := true }
  | none => (s.recall p x .strobe).1

/-- The lanes a strobe recall is applied to (R92). -/
def StrobeMode.lanes (m : StrobeMode) (lsel : Bool) : List LaneId :=
  match m with
  | .hostOnly => []
  | .laneA => [.a]
  | .laneB => [.b]
  | .byLine => [if lsel then .b else .a]
  | .both => [.a, .b]

/-- The debounce time of the strobe line, 20 ms (R90). -/
abbrev strobeDebounce : Nat := 1920

/-- A rising edge on STRB (R90 to R92). -/
def State.strobeEdge (s : State) : State :=
  if edgeTaken strobeDebounce s.clock s.strobe.lastEdge then
    let p := s.pins.sel.toFin
    let s' := { s with strobe := { s.strobe with
      lastEdge := some s.clock
      selection := some (p, s.pins.lsel) } }
    (s.strobe.mode.lanes s.pins.lsel).foldl (fun t x => t.strobeRecall p x) s'
  else s

/-- The level of a select line changes (R91, section 5.3). -/
def SelectPins.setLine (p : SelectPins) (l : SelectLine) (high : Bool) : SelectPins :=
  let bit (i : Nat) : SelectPins :=
    let m := BitVec.ofNat 4 (2 ^ i)
    { p with sel := if high then p.sel ||| m else p.sel &&& ~~~m }
  match l with
  | .sel0 => bit 0
  | .sel1 => bit 1
  | .sel2 => bit 2
  | .sel3 => bit 3
  | .lsel => { p with lsel := high }

end Sys2Proof.Machine
end

