-- ==== Sys2Proof/Machine/ScheduleRequests.lean ====
section
/-! DEFINITION. The requests of the change scheduler and the preset unit (chapters 4 and 5), and the meanings of
their commands and of the cue and strobe edges. -/

namespace Sys2Proof.Machine

/-! ## LIST_CHANGES (R84) -/

/-- The entry waits for a cue line. -/
def Entry.isCue (e : Entry) : Bool :=
  match e.due with
  | .cue _ => true
  | _ => false

/-- The entry waits for a source boundary. -/
def Entry.isJoinDue (e : Entry) : Bool :=
  match e.due with
  | .join _ => true
  | _ => false

/-- The queue in the order LIST_CHANGES gives it (R84). -/
def State.listed (s : State) : List Entry :=
  s.beatDue .a ++ s.beatDue .b ++ s.queue.filter (·.isCue) ++ s.queue.filter (·.isJoinDue)

/-- The entries one LIST_CHANGES reply holds (section 11.3). -/
abbrev listCapacity : Nat := 2

/-- The rule of LIST_CHANGES (R84). -/
def listChanges (p : List Byte) (s : State) : State × Answer :=
  if byteAt p 0 ≤ 23 then
    let page := (s.listed.drop (byteAt p 0)).take listCapacity
    (s, .okOr false (byte s.queue.length ++ bytesOf 2 s.generation.toNat ++ byte page.length
      ++ page.flatMap (·.bytes)))
  else refuse .badValue s

/-- LIST_CHANGES. -/
def execListChanges (s : State) : Host.Outcome State Fault Refusal :=
  .next (s.handle 0x20 anyPayload 1 listChanges)

/-! ## CANCEL_CHANGE (R85) -/

/-- The entries that meet `p` leave the queue without a notice; the generation count rises when there is one
(R85). -/
def State.cancelEntries (s : State) (p : Entry → Bool) : State :=
  if (s.queue.filter p).isEmpty then s
  else State.bumpGeneration { s with queue := s.queue.filter fun e => !p e }

/-- The reply of a cancel: the number removed. -/
def State.cancelAnswer (s : State) (p : Entry → Bool) : State × Answer :=
  (s.cancelEntries p, .okOr false (byte (s.queue.filter p).length))

/-- The rule of CANCEL_CHANGE (R85). -/
def cancelChange (p : List Byte) (s : State) : State × Answer :=
  match byteAt p 0 with
  | 0 =>
    if s.queue.any fun e => e.id == byteAt p 1 then s.cancelAnswer fun e => e.id == byteAt p 1
    else refuse .badValue s
  | 1 =>
    match laneOfByte (byteAt p 1) with
    | some x => s.cancelAnswer fun e => e.timing == x
    | none => refuse .badValue s
  | 2 => s.cancelAnswer fun _ => true
  | _ => refuse .badValue s

/-- CANCEL_CHANGE. -/
def execCancelChange (s : State) : Host.Outcome State Fault Refusal :=
  .next (s.handle 0x21 anyPayload 2 cancelChange)

/-! ## SET_CUE (R82) and the cue edge (R80) -/

/-- The rule of SET_CUE (R82). -/
def setCue (p : List Byte) (s : State) : State × Answer :=
  match (if byteAt p 0 = 0 then none else indexOfByte 4 (byteAt p 0 - 1)), quantizeOf (byteAt p 1) with
  | some c, some q =>
    ({ s with cues := s.cues.set c.val { s.cues[c] with quantize := q } c.isLt }, .okOr false [])
  | _, _ => refuse .badValue s

/-- SET_CUE. -/
def execSetCue (s : State) : Host.Outcome State Fault Refusal := .next (s.handle 0x2B anyPayload 2 setCue)

/-- CUE_EDGE: a rising edge on cue line `c` + 1 (R80). -/
def execCueEdge (c : Fin 4) (s : State) : Host.Outcome State Fault Refusal :=
  .next (if s.live then s.cueEdge c else s)

/-! ## WRITE_PRESET (R87, R88) -/

/-- The target byte STROBE (R196). -/
abbrev strobeTarget : Nat := 0x80

/-- The WRITE_PRESET requests that the row WRITE_PRESET_STROBE takes (log 2). -/
def isStrobeWrite (p : List Byte) : Bool := p.length == 6 && byteAt p 0 == strobeTarget

/-- Every other WRITE_PRESET request is the row WRITE_PRESET's (log 2). -/
def isPresetWrite (p : List Byte) : Bool := !isStrobeWrite p

/-- The rule of WRITE_PRESET for a preset record (R87). -/
def writePreset (p : List Byte) (s : State) : State × Answer :=
  match indexOfByte 16 (byteAt p 0), presetTakeOf (byteAt p 5) with
  | some i, some take =>
    let tempo := fieldAt p 1 3
    let inc := tempoToIncrement tempo
    let glide := clampGlide (byteAt p 4)
    ({ s with presets := s.presets.set i.val ⟨inc, glide, take⟩ i.isLt },
      .okOr (tempoClamped tempo || byteAt p 4 != glide) (incBytes inc ++ tempoBytes inc ++ byte glide))
  | _, _ => refuse .badValue s

/-- The rule of WRITE_PRESET with the target STROBE (R88). -/
def writeStrobe (p : List Byte) (s : State) : State × Answer :=
  match strobeModeOf (byteAt p 5) with
  | some m => ({ s with strobe := { s.strobe with mode := m } }, .okOr false (zeros 9))
  | none => refuse .badValue s

/-- WRITE_PRESET. -/
def execWritePreset (s : State) : Host.Outcome State Fault Refusal :=
  .next (s.handle 0x28 isPresetWrite 6 writePreset)

/-- WRITE_PRESET with the target STROBE. -/
def execWritePresetStrobe (s : State) : Host.Outcome State Fault Refusal :=
  .next (s.handle 0x28 isStrobeWrite 6 writeStrobe)

/-! ## READ_PRESET (R89) -/

/-- The data of READ_PRESET (R89, section 11.3). Model's choice (log 17): the LSEL level byte is 0 for low and 1 for high,
for which section 11.1 gives no encoding. -/
def State.presetBytes (s : State) (i : Fin 16) : List Byte :=
  let r := s.preset i
  incBytes r.increment ++ tempoBytes r.increment ++ byte r.glide ++ byte r.take.num ++ byte s.strobe.mode.num
    ++ optBytes 4 stepBytes s.strobe.lastEdge
    ++ optBytes 2 (fun q : Fin 16 × Bool => byte q.1.val ++ flagByte q.2) s.strobe.selection

/-- The rule of READ_PRESET (R89). -/
def readPreset (p : List Byte) (s : State) : State × Answer :=
  match indexOfByte 16 (byteAt p 0) with
  | some i => (s, .okOr false (s.presetBytes i))
  | none => refuse .badValue s

/-- READ_PRESET. -/
def execReadPreset (s : State) : Host.Outcome State Fault Refusal :=
  .next (s.handle 0x29 anyPayload 1 readPreset)

/-! ## APPLY_PRESET (R98) -/

/-- The reply of a recall that is refused (R98). -/
def RecallBar.code : RecallBar → ResultCode
  | .sourceNotFree => .wrongState
  | .laneStopped => .wrongState
  | .queueFull => .queueFull

/-- The rule of APPLY_PRESET (R98). -/
def applyPreset (p : List Byte) (s : State) : State × Answer :=
  match indexOfByte 16 (byteAt p 0), laneOfByte (byteAt p 1) with
  | some i, some x =>
    match s.recallBar i x with
    | some b => refuse b.code s
    | none =>
      let out := s.recall i x .host
      (out.1, .okOr false (entryField out.2))
  | _, _ => refuse .badValue s

/-- APPLY_PRESET. -/
def execApplyPreset (s : State) : Host.Outcome State Fault Refusal :=
  .next (s.handle 0x2A anyPayload 2 applyPreset)

/-! ## The strobe and select lines (R90, R91) -/

/-- STROBE_EDGE: a rising edge on STRB (R90). -/
def execStrobeEdge (s : State) : Host.Outcome State Fault Refusal := .next (if s.live then s.strobeEdge else s)

/-- SELECT_LINE_CHANGE: the level of a select line changes (R91). The lines are pins of the venue and change in
a reset as well. -/
def execSelectLineChange (l : SelectLine) (high : Bool) (s : State) : Host.Outcome State Fault Refusal :=
  .next { s with pins := s.pins.setLine l high }

end Sys2Proof.Machine
end

