-- ==== Sys2Proof/Machine/PhaseStep.lean ====
section
/-! DEFINITION. The phase step (R1, section 95): what is still due at the present step is completed, the step time
advances, and the blocks make their advance of the new step. Beside it stand the meanings of the events of lanes,
joins and trackers within a step. -/

namespace Sys2Proof.Machine

/-! ## The head of the request queue -/

/-- The rule of a catalogue TYPE, with its LEN; RESET and the unknown TYPEs have none here (section 11.3). -/
def ruleOf (type : Byte) (p : List Byte) : Option (Nat × (List Byte → State → State × Answer)) :=
  if type = 0x01 then some (0, identify)
  else if type = 0x03 then some (0, status)
  else if type = 0x04 then some (4, setNoticeMask)
  else if type = 0x10 then some (8, setTempo)
  else if type = 0x11 then some (6, setMeter)
  else if type = 0x12 then some (11, setSource)
  else if type = 0x13 then some (5, transportRule)
  else if type = 0x14 then some (3, nudge)
  else if type = 0x15 then some (3, copyRule)
  else if type = 0x16 then some (2, readLane)
  else if type = 0x17 then some (3, setReference)
  else if type = 0x20 then some (1, listChanges)
  else if type = 0x21 then some (2, cancelChange)
  else if type = 0x28 then some (6, if isStrobeWrite p then writeStrobe else writePreset)
  else if type = 0x29 then some (1, readPreset)
  else if type = 0x2A then some (2, applyPreset)
  else if type = 0x2B then some (2, setCue)
  else if type = 0x30 then some (18, setChannel)
  else if type = 0x31 then some (2, readChannel)
  else if type = 0x38 then some (8, startBreak)
  else if type = 0x39 then some (1, cancelBreakRule)
  else if type = 0x3A then some (1, readBreaks)
  else if type = 0x48 then some (7, startHandover)
  else if type = 0x49 then some (1, cancelHandoverRule)
  else if type = 0x4A then some (1, readHandovers)
  else if type = 0x50 then some (5, setBus)
  else if type = 0x51 then some (6, writeFilter)
  else if type = 0x52 then some (2, readBus)
  else none

/-- The entry at the head of the request queue handled, whatever it is (R186). -/
def State.handleHead (s : State) : State :=
  match s.head with
  | none => s
  | some (.refusal _ _) => s.answerBusy
  | some (.request f) =>
    match ruleOf f.type f.payload with
    | some (len, rule) => s.handle f.type anyPayload len rule
    | none => if f.type = 0x02 then s.handleReset else s.unknownType

/-! ## What is still due at the present step -/

/-- The tracker expiries due at this step (R54, R60). -/
def State.workExpiries (s : State) : State :=
  let s := if s.refHoldoverDue then s.refEnterHoldover else s
  let s := if s.refSearchingDue then s.refEnterSearching else s
  allEntries.foldl (fun t n =>
    let t := if t.busHoldoverDue n then t.busEnterHoldover n else t
    if t.busSearchingDue n then t.busEnterSearching n else t) s

/-- The due joins of lane `x`, oldest first; `fuel` bounds them (R78). -/
def State.workJoins (x : LaneId) : Nat → State → State
  | 0, s => s
  | fuel + 1, s =>
    match s.dueJoin x with
    | none => s
    | some e => State.workJoins x fuel (s.carryOutJoin e x)

/-- What is due on the beat bus at this step (R167, R173, R177). -/
def State.workBus (s : State) : State :=
  let s := State.timeOutPairings s.bus.pairings.length s
  let s := if s.instantDue then s.captureInstant else s
  let s := if s.frameSentDue then s.finishFrame else s
  s.beginFrame

/-- The work of the present step after the host link's: lanes, trackers, joins, channels, bus, and the choice of
the transmitter (log 6). -/
def State.closeBlocks (s : State) : State :=
  let s := s.workLanes.workExpiries
  let s := bothLanes.foldl (fun t x => State.workJoins x t.queue.length t) s
  let s := s.forChannels fun n t => t.closeChannel n
  s.workBus.modLink (·.choose)

/-- All that is still due at the present step, in the model's canonical order (log 6). The OK reply of a RESET
that has ended begins the reset, and nothing else is left to do (R194). -/
def State.closeStep (s : State) : State :=
  let s := s.verifyFrame
  let s := if s.gapDue then s.gapTimeout else s
  if s.resetDue then s.beginReset .request
  else (s.modLink (·.choose)).handleHead.closeBlocks

/-! ## The new step -/

/-- The counters of the step: the head of the request queue may be handled again, every channel is to be
evaluated by its own lead, and what is being sent ages by one step. -/
def State.tickClock (s : State) : State :=
  { s with
    clock := s.clock + 1
    channels := s.channels.map fun c => { c.ageChar with
      evaluated := false
      evalLead := none
      reached := []
      switched := false }
    bus := s.bus.age
    link := { s.link.age with handled := false } }

/-- Channel `n` evaluated where no event of the table is due for it: its break count, its crossings, its target
count and its owing flag (R108, R134). -/
def State.quietEvaluate (s : State) (n : Fin 16) : State :=
  if s.atPartFive n && !s.tickPulseDue n && !s.barPulseDue n && !s.tickCodeDue n then
    (s.countBreak n).completeEvaluation n
  else s

/-- The channels evaluated once both lanes have made their advance of the step (R108). -/
def State.settle (s : State) : State :=
  if s.settledLane .a && s.settledLane .b then s.forChannels fun n t => t.quietEvaluate n else s

/-- Both lanes' advance of a new step, and the channels' evaluations that follow it. -/
def State.advanceStep (s : State) : State := ((s.beginAdvance .a).beginAdvance .b).settle

/-- A new phase step of the running part. -/
def State.newStep (s : State) : State := s.tickClock.advanceStep

/-- The first phase step after a release: the step time becomes 1 and READY is posted (R195). -/
def State.firstStep (s : State) (cause : ResetCause) : State :=
  (State.post (State.tickClock { s with mode := .running }) (.ready cause s.link.rate)).advanceStep

/-- A phase step of a reset passes: the step time stands at 0 (R195). -/
def State.resetStep (s : State) : State :=
  match s.mode with
  | .inReset cause age => { s with mode := .inReset cause (age + 1) }
  | _ => s

/-- The reset of a RESET request that has lasted its 96 steps is released where no RESET_RELEASE has brought the strap's
level: the strap stands as it was last sampled (R195; DESIGN CHOICE, log 6). -/
def State.releaseServed (s : State) : State :=
  match s.releasable with
  | some .request => s.releaseReset (s.link.rate == .baud115200)
  | _ => s

/-- PHASE_STEP (R1, R195): what is due at the present step is completed, a reset that has been served is released, and
the next step begins. -/
def State.phaseStep (s : State) : State :=
  match s.releaseServed.mode with
  | .inReset _ _ => s.resetStep
  | .released cause => s.releaseServed.firstStep cause
  | .running =>
    let t := s.closeStep
    if t.live then t.newStep else t.resetStep

/-- PHASE_STEP. -/
def execPhaseStep (s : State) : Host.Outcome State Fault Refusal := .next s.phaseStep

/-! ## Boundaries (R21, R23) -/

/-- ANNOUNCED_BOUNDARY: lane `x` carries into a beat above H, after the lane it follows has made its own advance
of the step (R23, R61). -/
def State.announcedBoundary (s : State) (x : LaneId) : State :=
  let t := if (s.lane x).source = .lane then s.workLane (otherLane x) else s
  if (t.lane x).isRunning && (t.lane x).crossing && (t.lane x).announces then (t.workLane x).measureKnown else s

/-- ANNOUNCED_BOUNDARY. -/
def execAnnouncedBoundary (x : LaneId) (s : State) : Host.Outcome State Fault Refusal :=
  .next (if s.live then s.announcedBoundary x else s)

/-- SILENT_BOUNDARY: lane `x` carries into a beat at or below H and is only counted (R21). -/
def State.silentBoundary (s : State) (x : LaneId) : State :=
  let l := s.lane x
  if l.isRunning && l.crossing && l.carries && !l.announces then (s.workLane x).measureKnown else s

/-- SILENT_BOUNDARY. -/
def execSilentBoundary (x : LaneId) (s : State) : Host.Outcome State Fault Refusal :=
  .next (if s.live then s.silentBoundary x else s)

/-- JOIN_DUE: the oldest due START with JOIN of lane `x` (R78). -/
def execJoinDue (x : LaneId) (s : State) : Host.Outcome State Fault Refusal :=
  .next (match s.live, s.dueJoin x with
    | true, some e => s.carryOutJoin e x
    | _, _ => s)

/-! ## Tracker events (R46, R50, R54, R60) -/

/-- TAP: a rising edge on TAP (R46). -/
def execTap (s : State) : Host.Outcome State Fault Refusal := .next (if s.live then s.tapEdge else s)

/-- REFCLK_PULSE: a rising edge on REFCLK (R50). -/
def execRefclkPulse (s : State) : Host.Outcome State Fault Refusal := .next (if s.live then s.refPulse else s)

/-- DBEAT_EDGE: a rising edge on DBEAT (R50). -/
def execDbeatEdge (s : State) : Host.Outcome State Fault Refusal := .next (if s.live then s.dbeatEdge else s)

/-- REFERENCE_HOLDOVER_EXPIRY: no pulse for two predicted beats (R54). -/
def execReferenceHoldoverExpiry (s : State) : Host.Outcome State Fault Refusal :=
  .next (s.whenLive s.refHoldoverDue (·.refEnterHoldover))

/-- REFERENCE_SEARCHING_EXPIRY: 64 beats of HOLDOVER (R54). -/
def execReferenceSearchingExpiry (s : State) : Host.Outcome State Fault Refusal :=
  .next (s.whenLive s.refSearchingDue (·.refEnterSearching))

/-- BUS_HOLDOVER_EXPIRY: no frame for four beats (R60). -/
def execBusHoldoverExpiry (n : Fin 8) (s : State) : Host.Outcome State Fault Refusal :=
  .next (s.whenLive (s.busHoldoverDue n) (·.busEnterHoldover n))

/-- BUS_SEARCHING_EXPIRY: 64 beats of HOLDOVER (R60). -/
def execBusSearchingExpiry (n : Fin 8) (s : State) : Host.Outcome State Fault Refusal :=
  .next (s.whenLive (s.busSearchingDue n) (·.busEnterSearching n))

end Sys2Proof.Machine
end

