-- ==== Sys2Proof/Machine/Dispatch.lean ====
section
/-! DEFINITION. The effect of every command, one arm per row of spec/opcode_table.json. -/

namespace Sys2Proof.Machine

/-- The effect of command `i` on everything but the queue of waiting commands. -/
def exec (i : Instr) (s : State) : Host.Outcome State Fault Refusal :=
  match i with
  | .phaseStep => Sys2Proof.Machine.execPhaseStep s
  | .announcedBoundary x => Sys2Proof.Machine.execAnnouncedBoundary x s
  | .silentBoundary x => Sys2Proof.Machine.execSilentBoundary x s
  | .identify => Sys2Proof.Machine.execIdentify s
  | .reset => Sys2Proof.Machine.execReset s
  | .status => Sys2Proof.Machine.execStatus s
  | .setNoticeMask => Sys2Proof.Machine.execSetNoticeMask s
  | .setTempo => Sys2Proof.Machine.execSetTempo s
  | .setMeter => Sys2Proof.Machine.execSetMeter s
  | .setSource => Sys2Proof.Machine.execSetSource s
  | .transportStart => Sys2Proof.Machine.execTransportStart s
  | .transportStop => Sys2Proof.Machine.execTransportStop s
  | .transportResume => Sys2Proof.Machine.execTransportResume s
  | .nudge => Sys2Proof.Machine.execNudge s
  | .copyLane => Sys2Proof.Machine.execCopyLane s
  | .readLane => Sys2Proof.Machine.execReadLane s
  | .setReference => Sys2Proof.Machine.execSetReference s
  | .listChanges => Sys2Proof.Machine.execListChanges s
  | .cancelChange => Sys2Proof.Machine.execCancelChange s
  | .writePreset => Sys2Proof.Machine.execWritePreset s
  | .writePresetStrobe => Sys2Proof.Machine.execWritePresetStrobe s
  | .readPreset => Sys2Proof.Machine.execReadPreset s
  | .applyPreset => Sys2Proof.Machine.execApplyPreset s
  | .setCue => Sys2Proof.Machine.execSetCue s
  | .setChannel => Sys2Proof.Machine.execSetChannel s
  | .readChannel => Sys2Proof.Machine.execReadChannel s
  | .startBreak => Sys2Proof.Machine.execStartBreak s
  | .cancelBreak => Sys2Proof.Machine.execCancelBreak s
  | .readBreaks => Sys2Proof.Machine.execReadBreaks s
  | .startHandover => Sys2Proof.Machine.execStartHandover s
  | .cancelHandover => Sys2Proof.Machine.execCancelHandover s
  | .readHandovers => Sys2Proof.Machine.execReadHandovers s
  | .setBus => Sys2Proof.Machine.execSetBus s
  | .writeFilter => Sys2Proof.Machine.execWriteFilter s
  | .readBus => Sys2Proof.Machine.execReadBus s
  | .unknownTypeRequest => Sys2Proof.Machine.execUnknownTypeRequest s
  | .linkBusy => Sys2Proof.Machine.execLinkBusy s
  | .verifiedFrame => Sys2Proof.Machine.execVerifiedFrame s
  | .gapTimeout => Sys2Proof.Machine.execGapTimeout s
  | .replyBegin => Sys2Proof.Machine.execReplyBegin s
  | .noticeBegin => Sys2Proof.Machine.execNoticeBegin s
  | .resetBegin => Sys2Proof.Machine.execResetBegin s
  | .powerOnReset => Sys2Proof.Machine.execPowerOnReset s
  | .resetRelease strapHigh => Sys2Proof.Machine.execResetRelease strapHigh s
  | .tap => Sys2Proof.Machine.execTap s
  | .refclkPulse => Sys2Proof.Machine.execRefclkPulse s
  | .dbeatEdge => Sys2Proof.Machine.execDbeatEdge s
  | .referenceHoldoverExpiry => Sys2Proof.Machine.execReferenceHoldoverExpiry s
  | .referenceSearchingExpiry => Sys2Proof.Machine.execReferenceSearchingExpiry s
  | .busHoldoverExpiry n => Sys2Proof.Machine.execBusHoldoverExpiry n s
  | .busSearchingExpiry n => Sys2Proof.Machine.execBusSearchingExpiry n s
  | .joinDue x => Sys2Proof.Machine.execJoinDue x s
  | .cueEdge c => Sys2Proof.Machine.execCueEdge c s
  | .strobeEdge => Sys2Proof.Machine.execStrobeEdge s
  | .channelEntryCrossing n => Sys2Proof.Machine.execChannelEntryCrossing n s
  | .breakEntry n => Sys2Proof.Machine.execBreakEntry n s
  | .breakEnd n => Sys2Proof.Machine.execBreakEnd n s
  | .memberHold n => Sys2Proof.Machine.execMemberHold n s
  | .memberSwitch n => Sys2Proof.Machine.execMemberSwitch n s
  | .pulseBegin n => Sys2Proof.Machine.execPulseBegin n s
  | .pulseEnd n => Sys2Proof.Machine.execPulseEnd n s
  | .barPulseBegin n => Sys2Proof.Machine.execBarPulseBegin n s
  | .gateLevelChange n => Sys2Proof.Machine.execGateLevelChange n s
  | .tickCodeQueued n => Sys2Proof.Machine.execTickCodeQueued n s
  | .slotMove n => Sys2Proof.Machine.execSlotMove n s
  | .characterEnd n => Sys2Proof.Machine.execCharacterEnd n s
  | .characterBegin n => Sys2Proof.Machine.execCharacterBegin n s
  | .validCopy l chars => Sys2Proof.Machine.execValidCopy l chars s
  | .receiveError l e => Sys2Proof.Machine.execReceiveError l e s
  | .pairingTimeout => Sys2Proof.Machine.execPairingTimeout s
  | .frameBegin => Sys2Proof.Machine.execFrameBegin s
  | .referenceInstant => Sys2Proof.Machine.execReferenceInstant s
  | .arbitrationLoss bit on1 on2 => Sys2Proof.Machine.execArbitrationLoss bit on1 on2 s
  | .frameSent => Sys2Proof.Machine.execFrameSent s
  | .hostCharacter v stopHigh => Sys2Proof.Machine.execHostCharacter v stopHigh s
  | .hostLineIdle => Sys2Proof.Machine.execHostLineIdle s
  | .hostFrameEnd => Sys2Proof.Machine.execHostFrameEnd s
  | .busLineIdle l => Sys2Proof.Machine.execBusLineIdle l s
  | .busDominantEdge l => Sys2Proof.Machine.execBusDominantEdge l s
  | .busDominantRunEnd l bits => Sys2Proof.Machine.execBusDominantRunEnd l bits s
  | .busFirstStartBit l => Sys2Proof.Machine.execBusFirstStartBit l s
  | .selectLineChange l high => Sys2Proof.Machine.execSelectLineChange l high s

end Sys2Proof.Machine
end

