-- ==== Sys2Proof/WellFormed.lean ====
section
/-! DEFINITION. Well-formed commands: the operands that an event of the manual can carry. -/

namespace Sys2Proof

/-- The operands stand in the ranges of the event they describe: a valid copy has 23 characters (R160); a
dominant run that ends as a break or as noise lasts 1 to 14 bit times, a longer one being a line violation
(R163); a loss falls at a bit time of the frame at which a recessive bit can be sent, on at least one line
(R160, R174). -/
def Instr.wellFormed : Instr → Bool
  | .validCopy _ chars => chars.length == 23
  | .busDominantRunEnd _ bits => 1 ≤ bits && bits ≤ 14
  | .arbitrationLoss bit on1 on2 => 12 ≤ bit && bit < 244 && (on1 || on2)
  | _ => true

end Sys2Proof
end

