-- ==== Sys2Proof/Safety.lean ====
section
/-! DEFINITION. What counts as a safe run, in the terms the claims use: the bounds of the queues and buffers, the
ranges of tempos and meters, and the running states; and the vocabulary of a request at the head of its queue. -/

namespace Sys2Proof.Machine

/-! ## A request at the head of the queue (R186) -/

/-- The request with TYPE `type`, TAG `tag` and payload `p` stands at the head of the request queue of the
running part, and may be handled at this step (R186). -/
def RequestAtHead (s : State) (type tag : Byte) (p : List Byte) : Prop :=
  s.mode = .running ∧ s.link.replies.length < 4 ∧ s.link.resetPending = false ∧ s.link.handled = false ∧
    s.link.requests.head? = some (.request ⟨type, tag, p⟩)

/-- The state in which a request has been taken from the head of the queue and has had the effect that leads to
`t`; its reply with the payload `payload` is appended (R187). -/
def answered (t : State) (type tag : Byte) (payload : List Byte) : State := t.reply type tag payload false

/-- A row of the request catalogue (section 11.3): its command, TYPE and LEN, and the payloads of the TYPE that
belong to the row. -/
structure RequestRow where
  command : Instr
  type : Byte
  mine : List Byte → Bool
  len : Nat

/-- The rows of the request catalogue. -/
def requestRows : List RequestRow :=
  [⟨.identify, 0x01, anyPayload, 0⟩, ⟨.reset, 0x02, anyPayload, 0⟩, ⟨.status, 0x03, anyPayload, 0⟩,
   ⟨.setNoticeMask, 0x04, anyPayload, 4⟩, ⟨.setTempo, 0x10, anyPayload, 8⟩, ⟨.setMeter, 0x11, anyPayload, 6⟩,
   ⟨.setSource, 0x12, anyPayload, 11⟩, ⟨.transportStart, 0x13, startPayload, 5⟩,
   ⟨.transportStop, 0x13, stopPayload, 5⟩, ⟨.transportResume, 0x13, resumePayload, 5⟩,
   ⟨.nudge, 0x14, anyPayload, 3⟩, ⟨.copyLane, 0x15, anyPayload, 3⟩, ⟨.readLane, 0x16, anyPayload, 2⟩,
   ⟨.setReference, 0x17, anyPayload, 3⟩, ⟨.listChanges, 0x20, anyPayload, 1⟩,
   ⟨.cancelChange, 0x21, anyPayload, 2⟩] ++
  [⟨.writePreset, 0x28, isPresetWrite, 6⟩, ⟨.writePresetStrobe, 0x28, isStrobeWrite, 6⟩,
   ⟨.readPreset, 0x29, anyPayload, 1⟩, ⟨.applyPreset, 0x2A, anyPayload, 2⟩, ⟨.setCue, 0x2B, anyPayload, 2⟩,
   ⟨.setChannel, 0x30, anyPayload, 18⟩, ⟨.readChannel, 0x31, anyPayload, 2⟩,
   ⟨.startBreak, 0x38, anyPayload, 8⟩, ⟨.cancelBreak, 0x39, anyPayload, 1⟩, ⟨.readBreaks, 0x3A, anyPayload, 1⟩,
   ⟨.startHandover, 0x48, anyPayload, 7⟩, ⟨.cancelHandover, 0x49, anyPayload, 1⟩,
   ⟨.readHandovers, 0x4A, anyPayload, 1⟩, ⟨.setBus, 0x50, anyPayload, 5⟩, ⟨.writeFilter, 0x51, anyPayload, 6⟩,
   ⟨.readBus, 0x52, anyPayload, 2⟩]

/-- R70's two checks in their order, as the result byte of the refusal. -/
def schedulerRefusal (s : State) (take : TakeMode) (timing : LaneId) : Option Byte :=
  if take.isBoundary ∧ (s.lane timing).transport = .stopped then some 0x20
  else if take ≠ .immediate ∧ 24 ≤ s.queue.length then some 0x22
  else none

/-- A scheduled change of the host with the entry field of its reply (R70, R197): `now` for IMMEDIATE, and an
entry otherwise. -/
def scheduled (s : State) (take : TakeMode) (timing : LaneId) (change : Change) (now : State) :
    State × List Byte :=
  if take = .immediate then (now, [0, 0])
  else (s.addEntry .host timing (s.dueOf take timing) change, [1, BitVec.ofNat 8 s.nextId])

/-- `y` is the first of `cand`, `cand` + `step`, `cand` + 2 `step`, ... above beat `h` by the distance of R2
(R71). -/
def isFirstAbove (y cand : U32) (step : Nat) (h : U32) : Prop :=
  ∃ k : Nat, y = cand + BitVec.ofNat 32 (k * step) ∧ 0 < ahead y h ∧
    ∀ j < k, ahead (cand + BitVec.ofNat 32 (j * step)) h ≤ 0

/-- The commands that act while the part is in a reset or waits for its first phase step (R195, log 4). -/
def actsInReset : Instr → Bool
  | .phaseStep => true
  | .powerOnReset => true
  | .resetRelease _ => true
  | .selectLineChange _ _ => true
  | _ => false

/-! ## Bounds (R72, R123, R185, R187, R189) -/

/-- The pending-change queue holds at most 24 entries (R72). -/
def State.queueBounded (s : State) : Prop := s.queue.length ≤ 24

/-- At most 4 requests and 8 refusals, 4 replies and 32 notices wait (R185, R187, R189). -/
def State.linkBounded (s : State) : Prop :=
  requestsHeld s.link.requests ≤ 4 ∧ refusalsHeld s.link.requests ≤ 8 ∧ s.link.replies.length ≤ 4 ∧
    s.link.notices.length ≤ 32

/-- The code FIFO of every channel holds at most 8 places (R123). -/
def State.fifosBounded (s : State) : Prop := ∀ n, (s.chan n).fifo.length ≤ 8

/-- No two entries of the queue share an id, and ids are below 256 (R70). -/
def State.idsDistinct (s : State) : Prop :=
  (s.queue.map (·.id)).Nodup ∧ ∀ e ∈ s.queue, e.id < 256

/-- The two lanes do not both have the source LANE (R62). -/
def State.noMutualFollowing (s : State) : Prop := ¬ (s.laneA.source = .lane ∧ s.laneB.source = .lane)

/-! ## Running states (R102) -/

/-- Every channel is RUNNING exactly while it is enabled and its lane is RUNNING (R102). -/
def State.runningAgrees (s : State) : Prop :=
  ∀ n, (s.chan n).running = ((s.chan n).cfg.enabled && (s.laneOf n).isRunning)

/-! ## Meters (R19, R22, R72) -/

/-- A legal meter: 1 to 16 beats per bar and 1 to 64 bars per phrase (R19). -/
def meterLegal (beatsPerBar barsPerPhrase : Nat) : Prop :=
  1 ≤ beatsPerBar ∧ beatsPerBar ≤ 16 ∧ 1 ≤ barsPerPhrase ∧ barsPerPhrase ≤ 64

/-- The meter of a METER entry is legal (R72). -/
def Change.meterLegal : Change → Prop
  | .meter _ b p => Machine.meterLegal b p
  | _ => True

/-- A lane's meter is legal and its counters stand below it (R19). -/
def Lane.countersLegal (l : Lane) : Prop :=
  meterLegal l.beatsPerBar l.barsPerPhrase ∧ l.beatInBar < l.beatsPerBar ∧ l.barInPhrase < l.barsPerPhrase

/-- Both lanes' counters and every waiting meter are legal. -/
def State.metersLegal (s : State) : Prop :=
  s.laneA.countersLegal ∧ s.laneB.countersLegal ∧ ∀ e ∈ s.queue, e.change.meterLegal

/-! ## Tempos (R4) -/

/-- An increment in the range of R4. -/
def incLegal (i : Nat) : Prop := 977343669 ≤ i ∧ i ≤ 14660155037

/-- An absent increment, or one in range. -/
def optIncLegal : Option Nat → Prop
  | none => True
  | some i => incLegal i

/-- A lane's increment and the ends of its glide are in range (R4, R6). -/
def Lane.tempoLegal (l : Lane) : Prop :=
  incLegal l.increment ∧
    match l.glide with
    | none => True
    | some g => incLegal g.start ∧ incLegal g.target

/-- The target of a TEMPO entry is in range (R72). -/
def Change.tempoLegal : Change → Prop
  | .tempo _ i _ => incLegal i
  | _ => True

/-- Every tempo the part holds is in the range of R4: lanes, glides, presets, estimates and waiting TEMPO
entries. -/
def State.temposLegal (s : State) : Prop :=
  s.laneA.tempoLegal ∧ s.laneB.tempoLegal ∧ optIncLegal s.tap.estimate ∧ optIncLegal s.ref.estimate ∧
    (∀ n, optIncLegal (s.busTracker n).estimate) ∧ (∀ p, incLegal (s.preset p).increment) ∧
    ∀ e ∈ s.queue, e.change.tempoLegal

end Sys2Proof.Machine
end

