-- ==== Sys2Proof/Certificates/Slice0/Obligations.lean ====
section
/-! DEFINITION. The statements for the provers. A request's result bytes are written out by R187: H'00 OK, H'01
CLAMPED, H'10 BAD_TYPE, H'11 BAD_LENGTH, H'12 BAD_VALUE, H'20 WRONG_STATE, H'21 BUSY, H'22 QUEUE_FULL,
H'23 TABLE_FULL, H'30 LINK_BUSY. -/

open Sys2Proof Sys2Proof.Machine

/-! ## The block and its commands -/

/-- A step takes the command at the front of the queue and runs it on the queue's rest; on an empty queue the
block idles (the model's choice, log 18). -/
def Obligations.StepTakesFrontCommand : Prop :=
  (∀ (c : Instr) (rest : List Instr) (s : State), s.pending = c :: rest →
    step s = exec c { s with pending := rest }) ∧
  ∀ s : State, s.pending = [] → step s = .next s

/-- Every command answers a next state in every state: the manual describes no machine fault (chapter 10), and a command
whose event is not due changes nothing (the model's choice, log 4).

No command touches the queue of waiting commands (the model's own queue and choice, log 18). -/
def Obligations.CommandsAnswerNextAndKeepTheQueue : Prop :=
  (∀ (c : Instr) (s : State), ∃ t, exec c s = .next t) ∧
  (∀ (c : Instr) (s t : State), exec c s = .next t → t.pending = s.pending)

/-- An event that is not due changes nothing (log 4): in a reset and before the first phase step only the commands
of `actsInReset` act; a row of the request catalogue acts on its own requests alone; and the events of channels,
trackers, the bus and the host line act where they are due. -/
def Obligations.EventsNotDueChangeNothing : Prop := ∀ s : State,
  (∀ c, s.mode ≠ .running → actsInReset c = false → exec c s = .next s) ∧
  (∀ row ∈ requestRows, (∀ tag p, row.mine p = true → ¬ RequestAtHead s row.type tag p) →
    exec row.command s = .next s) ∧
  (∀ n : Fin 16,
    (s.crossingDue n = none → exec (.channelEntryCrossing n) s = .next s) ∧
    (s.entryOfBreakDue n = false → exec (.breakEntry n) s = .next s) ∧
    (s.endOfBreakDue n = none → exec (.breakEnd n) s = .next s) ∧
    (s.holdDue n = false → exec (.memberHold n) s = .next s) ∧
    (s.switchDue n = false → exec (.memberSwitch n) s = .next s) ∧
    (s.tickPulseDue n = false → exec (.pulseBegin n) s = .next s) ∧
    (s.pulseEndDue n = false → exec (.pulseEnd n) s = .next s) ∧
    (s.barPulseDue n = false → exec (.barPulseBegin n) s = .next s) ∧
    (s.gateDue n = false → exec (.gateLevelChange n) s = .next s) ∧
    (s.tickCodeDue n = false → exec (.tickCodeQueued n) s = .next s) ∧
    (s.slotDue n = false → exec (.slotMove n) s = .next s) ∧
    ((s.chan n).charEnded = false → exec (.characterEnd n) s = .next s) ∧
    ((s.chan n).charDue = false → exec (.characterBegin n) s = .next s)) ∧
  (∀ x : LaneId, s.dueJoin x = none → exec (.joinDue x) s = .next s) ∧
  (s.refHoldoverDue = false → exec .referenceHoldoverExpiry s = .next s) ∧
  (s.refSearchingDue = false → exec .referenceSearchingExpiry s = .next s) ∧
  (∀ n : Fin 8, (s.busHoldoverDue n = false → exec (.busHoldoverExpiry n) s = .next s) ∧
    (s.busSearchingDue n = false → exec (.busSearchingExpiry n) s = .next s)) ∧
  (s.overduePairing = none → exec .pairingTimeout s = .next s) ∧
  (s.frameBeginDue = none → exec .frameBegin s = .next s) ∧
  (s.instantDue = false → exec .referenceInstant s = .next s) ∧
  (s.frameSentDue = false → exec .frameSent s = .next s) ∧
  (∀ bit on1 on2, s.lossPossible bit on1 on2 = false → exec (.arbitrationLoss bit on1 on2) s = .next s) ∧
  (s.link.complete = none → exec .verifiedFrame s = .next s) ∧
  (s.gapDue = false → exec .gapTimeout s = .next s) ∧
  (s.resetDue = false → exec .resetBegin s = .next s) ∧
  (s.link.chooses = false ∨ s.link.replies = [] → exec .replyBegin s = .next s) ∧
  (s.link.chooses = false ∨ s.link.noticeNext = false → exec .noticeBegin s = .next s) ∧
  (s.link.endsIdle = false → exec .hostFrameEnd s = .next s)

/-! ## Reset -/

/-- The values the manual gives for a reset: time, lanes, trackers, scheduler, presets, channels, tables, bus and
host link (the table after R195, with R19, R45, R49, R56, R100, R159, R168, R170, R178, R190).

Every invariant stated below holds at reset. -/
def Obligations.ResetValuesAndInvariants : Prop :=
  (State.reset.stepTime = 0 ∧
  (∀ x, let l := State.reset.lane x
    l.transport = .stopped ∧ incrementToTempo l.increment = 120000 ∧ l.increment = 5864062015 ∧ l.glide = none ∧
      l.pos = ⟨0, 0⟩ ∧ l.beatInBar = 0 ∧ l.barInPhrase = 0 ∧ l.barCount = 0 ∧ l.phraseCount = 0 ∧ l.high = 0 ∧
      l.beatsPerBar = 4 ∧ l.barsPerPhrase = 8 ∧ l.source = .free ∧ l.alignLength = .bar ∧ l.alignMode = .nearest ∧
      l.pullLimit = 64 ∧ l.followGlide = 4 ∧ l.follow = .free ∧ l.residual = 0 ∧ l.pullRate = 0 ∧
      l.aligned = false ∧ l.barOffset = 0) ∧
  State.reset.tap = ⟨.searching, none, [], none, none⟩ ∧
  (let t := State.reset.ref;
    t.q = 24 ∧ t.downbeat = false ∧ t.realign = true ∧ t.lock = .searching ∧ t.lastPulse = none ∧ t.count = 0 ∧
      t.beatInBar = 0 ∧ t.mark = false ∧ t.window = [] ∧ t.estimate = none ∧ t.anchor = none ∧
      t.holdoverStart = none) ∧
  (∀ n, State.reset.busTracker n = ⟨.searching, none, none, none, none, 0⟩) ∧
  State.reset.queue = [] ∧ State.reset.idCounter = 0 ∧ State.reset.generation = 0 ∧
  (∀ c : Fin 4, State.reset.cues[c] = ⟨.beat, none⟩) ∧
  (∀ p, incrementToTempo (State.reset.preset p).increment = 120000 ∧ (State.reset.preset p).glide = 0 ∧
    (State.reset.preset p).take = .nextBeat) ∧
  State.reset.strobe = ⟨.hostOnly, none, none⟩ ∧
  (∀ n, let c := State.reset.chan n
    c.cfg = ⟨false, .a, .tick, 24, 1, 50, 0, .ratio50, 10, .normal, .r38400, false⟩ ∧ c.running = false ∧
      c.origin = ⟨0, 0⟩ ∧ c.delta = 0 ∧ c.emitted = 0 ∧ c.owing = false ∧ c.pulseOwed = false ∧ c.mark = 0 ∧
      c.level = false ∧ c.lastChange = none ∧ c.lastPulse = none ∧ c.barDue = false ∧ c.phraseDue = false ∧
      c.brk = none ∧ c.ho = none ∧ c.fifo = [] ∧ c.slot = none ∧ c.tx = .idle) ∧
  (∀ r, State.reset.brk r = none ∧ State.reset.ho r = none) ∧
  (let b := State.reset.bus;
    b.settings = ⟨.k500, .auto, none, 0⟩ ∧ b.pairings = [] ∧ b.request = none ∧ b.tx = none ∧ b.duplicates = 0 ∧
      b.accepted = 0 ∧ b.unmatched = 0 ∧ b.sent = 0 ∧ b.losses = 0 ∧ b.drops = 0) ∧
  (∀ n : Fin 8, State.reset.bus.accept[n] = ⟨false, 0, 0⟩) ∧
  (∀ l, let v := State.reset.bus.lineOf l
    v.faulty = false ∧ v.errors = 0 ∧ v.good = 0 ∧ v.valid = 0 ∧ v.framing = 0 ∧ v.crc = 0 ∧ v.length = 0 ∧
      v.violations = 0 ∧ v.rx = .waitingIdle) ∧
  State.reset.link.requests = [] ∧ State.reset.link.replies = [] ∧ State.reset.link.notices = [] ∧
  State.reset.link.mask = 0x000FF3FE#32 ∧ State.reset.link.sticky = .clear ∧
  State.reset.link.counts = ⟨0, 0, 0, 0, 0, 0⟩ ∧ State.reset.link.rx = .hunt ∧ State.reset.link.waitIdle = true) ∧
  (State.reset.queueBounded ∧ State.reset.idsDistinct ∧ State.reset.linkBounded ∧ State.reset.fifosBounded ∧
    State.reset.noMutualFollowing ∧ State.reset.runningAgrees ∧ State.reset.metersLegal ∧ State.reset.temposLegal)

/-- RESET: the OK reply is appended and a RESET becomes pending; while it is pending no request row handles an entry
of the queue and no notice is taken (R194).

RESET_BEGIN, POWER_ON_RESET and RESET_RELEASE (R194, R195): a reset begins with every block at its reset
values, the step time 0, every output line low and HTX high; the release comes when RST goes high or once 96 phase
steps have passed, and samples the strap (R181). That the link is emptied at the beginning with its rate kept until the
release is the model's choice (log 16), and so are that the select lines and the waiting commands stay (log 1) and
that the release is a command of its own, which changes nothing before it may come (log 6).

PHASE_STEP in a reset leaves the step time at 0; the first one after the release makes it 1 and posts READY
with the cause and the host line rate (R195). A RESET's reset that has lasted its 96 steps without its release command
is released by the next PHASE_STEP, with the rate as last sampled (the model's choice, log 6). -/
def Obligations.ResetsAndTheFirstStep : Prop :=
  let started (cause : ResetCause) (rate : HostRate) (pins : SelectPins) (pending : List Instr) : State :=
    { State.resetValues .running rate pins pending with
      clock := 1
      link := { Link.reset rate with notices := [⟨.ready cause rate, 1⟩] } }
  (∀ s : State,
  (∀ tag p, RequestAtHead s 0x02 tag p → p.length = 0 → exec .reset s = .next { s with link := { s.link with
    requests := s.link.requests.tail
    handled := true
    resetPending := true
    replies := s.link.replies ++ [⟨0x02, tag, [0x00], true⟩] } }) ∧
  (s.link.resetPending = true →
    (∀ row ∈ requestRows, exec row.command s = .next s) ∧ exec .unknownTypeRequest s = .next s ∧
      exec .linkBusy s = .next s ∧ exec .noticeBegin s = .next s)) ∧
  (∀ s : State,
  (∀ bytes age isReply, s.mode = .running → s.link.tx = .sending bytes age isReply true →
    bytes.length * s.link.rate.charUnits ≤ age →
    exec .resetBegin s = .next (State.resetValues (.inReset .request 0) s.link.rate s.pins s.pending)) ∧
  exec .powerOnReset s = .next (State.resetValues (.inReset .power 0) s.link.rate s.pins s.pending) ∧
  (∀ high age, s.mode = .inReset .power age → exec (.resetRelease high) s =
    .next (State.resetValues (.released .power) (if high then .baud115200 else .baud1000000) s.pins s.pending)) ∧
  (∀ high age, s.mode = .inReset .request age → exec (.resetRelease high) s =
    .next (if 96 ≤ age then
        State.resetValues (.released .request) (if high then .baud115200 else .baud1000000) s.pins s.pending
      else s)) ∧
  (∀ cause age n, s.mode = .inReset cause age → s.pin n = false ∧ s.htx = true) ∧
  ∀ cause age rate pins pending, (State.resetValues (.inReset cause age) rate pins pending).stepTime = 0) ∧
  ((∀ (s : State) cause age, s.mode = .inReset cause age → cause = .power ∨ age < 96 →
    exec .phaseStep s = .next { s with mode := .inReset cause (age + 1) }) ∧
  (∀ (s : State) age, s.mode = .inReset .request age → 96 ≤ age →
    exec .phaseStep s = .next (started .request s.link.rate s.pins s.pending)) ∧
  ∀ cause rate pins pending, exec .phaseStep (State.resetValues (.released cause) rate pins pending) =
    .next (started cause rate pins pending))

/-! ## The phase step -/

/-- PHASE_STEP of a running part (R1): the step time increases by one modulo 2^32 and the head of the request queue may
be handled again (R186). Where the OK reply of a RESET has ended, the reset begins instead, and the new step is its
first (R194, R195; that the closing step makes it is the model's choice, log 6).

Where nothing is left due at the present step (log 6), the new step is all that happens: each RUNNING lane makes its
advance or is left before its carry, as `LaneAdvanceAndSilentBoundary` says (R20, log 3), the part's own bus frame, the
frame on HTX and the characters of CODE channels go on by one phase step (125, 75 and 3 units), and, once both lanes
have made their advance, the channels for which no row of part 5 is due are evaluated (R108; that PHASE_STEP does so is
the model's choice, log 6). That evaluation counts the beats of a break (R134), takes the crossings (R120, R125) and
sets the owing flag, and the lead of its part 1 is kept no longer (log 11: DEDUCED from R76 and R105). On a muted channel
crossings move only the mark, and a TICK or CODE channel whose target is ahead counts one tick without output (R121, R133);
the same holds of the evaluation that the closing of a step makes.

PHASE_STEP leaves the position, counters, H and meter of a STOPPED lane as they are, where no waiting entry and no
request could start or change it (R20). -/
def Obligations.PhaseStepAdvancesTime : Prop :=
  (∀ s : State, s.mode = .running →
  (s.resetDue = false → ∃ t, exec .phaseStep s = .next t ∧ t.mode = .running ∧ t.stepTime = s.stepTime + 1 ∧
    t.clock = s.clock + 1 ∧ t.link.handled = false ∧ t.pins = s.pins ∧
    t.link.rate = s.link.rate) ∧
  (s.resetDue = true →
    exec .phaseStep s = .next (State.resetValues (.inReset .request 1) s.link.rate s.pins s.pending))) ∧
  (∀ s : State, s.mode = .running → s.resetDue = false → s.closeStep = s →
    let ticked : State := { s with
      clock := s.clock + 1
      channels := s.channels.map fun c => { c with
        evaluated := false
        evalLead := none
        reached := []
        switched := false
        tx := match c.tx with
          | .sending ch age len => .sending ch (age + 3) len
          | .idle => .idle }
      bus := { s.bus with tx := s.bus.tx.map fun f => { f with age := f.age + 125 } }
      link := { s.link with
        handled := false
        tx := match s.link.tx with
          | .sending bytes age isReply resets => .sending bytes (age + 75) isReply resets
          | .idle => .idle } }
    let v := (ticked.beginAdvance .a).beginAdvance .b
    ∃ t, exec .phaseStep s = .next t ∧ t = { v with channels := t.channels } ∧
      (v.laneA.crossing = true ∨ v.laneB.crossing = true → t = v) ∧
      (v.laneA.crossing = false → v.laneB.crossing = false → ∀ n,
        let c := v.chan n
        let d := v.crossed n
        let target := v.targetCount n
        let x := (v.projection n).beat
        let silent := v.muted n = true ∧ (c.cfg.function = .tick ∨ c.cfg.function = .code) ∧ 0 < ahead target c.emitted
        let emitted := if silent then c.emitted + 1 else c.emitted
        let due := v.tickPulseDue n || v.barPulseDue n || v.tickCodeDue n
        (v.muted n = true → due = false ∧ d = { c with mark := if 0 < ahead x c.mark then x else c.mark }) ∧
        (v.atPartFive n = true → due = false → t.chan n = { d with
          brk := match c.brk with
            | some ⟨r, .inBreak beats mark⟩ =>
              if 0 < ahead x mark then some ⟨r, .inBreak (beats - (ahead x mark).toNat) x⟩ else c.brk
            | other => other
          emitted := emitted
          owing := decide (0 < ahead target emitted)
          evaluated := true
          evalLead := none }) ∧
        (v.atPartFive n = false ∨ due = true → t.chan n = c))) ∧
  (∀ (s : State) (n : Fin 16), s.muted n = true →
    let c := s.chan n
    let target := s.targetCount n
    let x := (s.projection n).beat
    let emitted := if (c.cfg.function = .tick ∨ c.cfg.function = .code) ∧ 0 < ahead target c.emitted then c.emitted + 1
      else c.emitted
    s.completeEvaluation n = s.setChan n { c with
      mark := if 0 < ahead x c.mark then x else c.mark
      emitted := emitted
      owing := decide (0 < ahead target emitted)
      evaluated := true
      evalLead := none }) ∧
  (∀ (s : State) (x : LaneId),
  s.mode = .running → s.resetDue = false → (s.lane x).transport = .stopped → s.queue = [] →
  s.link.requests = [] → s.link.complete = none →
  ∃ t, exec .phaseStep s = .next t ∧ (t.lane x).transport = .stopped ∧ (t.lane x).pos = (s.lane x).pos ∧
    (t.lane x).beatInBar = (s.lane x).beatInBar ∧ (t.lane x).barInPhrase = (s.lane x).barInPhrase ∧
    (t.lane x).barCount = (s.lane x).barCount ∧ (t.lane x).phraseCount = (s.lane x).phraseCount ∧
    (t.lane x).high = (s.lane x).high ∧ (t.lane x).beatsPerBar = (s.lane x).beatsPerBar ∧
    (t.lane x).barsPerPhrase = (s.lane x).barsPerPhrase)

/-! ## Invariants that every step keeps -/

/-- The pending-change queue holds at most 24 entries, and no two of them share an id (R70, R72). -/
def Obligations.QueueBoundAndIdsKept : Prop := ∀ s t : State, s.queueBounded → s.idsDistinct →
  step s = .next t → t.queueBounded ∧ t.idsDistinct

/-- The request, reply and notice queues of the host link keep their bounds (R185, R187, R189). -/
def Obligations.LinkBoundsKept : Prop := ∀ s t : State, s.linkBounded → step s = .next t → t.linkBounded

/-- The code FIFO of every channel keeps within its 8 places (R123). -/
def Obligations.CodeFifoBoundsKept : Prop := ∀ s t : State, s.fifosBounded → step s = .next t → t.fifosBounded

/-- The two lanes never come to follow each other (R62). -/
def Obligations.NoMutualFollowingKept : Prop := ∀ s t : State, s.noMutualFollowing → step s = .next t →
  t.noMutualFollowing

/-- Every channel stays RUNNING exactly while it is enabled and its lane is RUNNING (R102). -/
def Obligations.RunningStatesKept : Prop := ∀ s t : State, s.runningAgrees → step s = .next t → t.runningAgrees

/-- The meters of lanes and waiting METER entries stay legal, and each lane's counters stay below its meter
(R19, R22, R72). -/
def Obligations.MetersKept : Prop := ∀ s t : State, s.metersLegal → step s = .next t → t.metersLegal

/-- Every increment of a lane, a glide, a preset, a tracker estimate or a waiting TEMPO entry stays in the range of
R4. The free value of log 9 is clamped like any estimate, so the statement holds for every value of it. -/
def Obligations.TemposKept : Prop := ∀ s t : State, s.temposLegal → step s = .next t → t.temposLegal

/-! ## Tempo arithmetic and lanes -/

/-- An increment is reported as its rounded tempo. A tempo in range converted by R4 and reported by R5 is given back,
and not every increment is: 48,867 or 48,868 neighbouring increments report as one tempo. The end points report as
20000 and 300000, and a tempo out of range is clamped. -/
def Obligations.TempoConversionRoundTrip : Prop :=
  (∀ T, 20000 ≤ T → T ≤ 300000 → incrementToTempo (tempoToIncrement T) = T) ∧
  (∀ T, T < 20000 → tempoToIncrement T = 977343669) ∧ (∀ T, 300000 < T → tempoToIncrement T = 14660155037) ∧
  (∀ I, incrementToTempo I = (2 * I * 5760000000 + 2 ^ 48) / 2 ^ 49) ∧
  incrementToTempo 977343669 = 20000 ∧ incrementToTempo 14660155037 = 300000 ∧
  (∀ I, incrementToTempo (I + 48867) ≤ incrementToTempo I + 1 ∧
    incrementToTempo I + 1 ≤ incrementToTempo (I + 48868)) ∧
  ∃ I, incLegal I ∧ tempoToIncrement (incrementToTempo I) ≠ I

/-- A RUNNING lane's advance of a phase step (R20, R11): its position moves on by the increment and the pull amount
sign(r) × min(|p|, |r|), the residual falls by the pull amount, and where that changes the residual the aligned flag is
evaluated, ALIGNED being posted when it becomes set (R12). Without a carry the phase step makes the advance; with a
carry it is left to the boundary's own command (log 3). A lane copied into while its from-lane's carry was outstanding
has the pull of the copied advance too (DEDUCED, log 3). A STOPPED lane does not advance.

The counting of a boundary (R22), for counters that stand below their meter.

SILENT_BOUNDARY (R20, R21): a RUNNING lane whose advance carries it to a beat at or below H takes its advance and
counts, and does nothing more; what else the step still owes at this point are the joins that wait for a boundary of
this lane (R78) and the handover measurements that waited for this lane's work (R146). -/
def Obligations.LaneAdvanceAndSilentBoundary : Prop :=
  (∀ (s : State) (x : LaneId),
  let l := s.lane x
  let a : Int := l.residual.sign * (min l.pullRate.natAbs l.residual.natAbs : Nat)
  let amount := ((l.increment : Int) + a + l.copiedPull).toNat
  let r := l.residual - a
  let near := decide (r.natAbs ≤ 2 ^ 40)
  let moved (pos : Position) : State := s.setLane x { l with
    pos := pos
    crossing := false
    copiedPull := 0
    residual := r
    aligned := l.aligned || (decide (a ≠ 0) && near) }
  let advanced (pos : Position) : State :=
    if a ≠ 0 ∧ near = true ∧ l.aligned = false then (moved pos).post (.aligned x) else moved pos
  (l.transport = .stopped → s.beginAdvance x = s) ∧
  (l.transport = .running → 2 ^ 48 ≤ l.pos.phase.toNat + amount →
    s.beginAdvance x = s.setLane x { l with crossing := true }) ∧
  (l.transport = .running → l.pos.phase.toNat + amount < 2 ^ 48 →
    s.beginAdvance x = advanced ⟨l.pos.beat, BitVec.ofNat 48 (l.pos.phase.toNat + amount)⟩) ∧
  (s.mode = .running → l.transport = .running → l.crossing = true → 2 ^ 48 ≤ l.pos.phase.toNat + amount →
    ahead (l.pos.advance amount).beat l.high ≤ 0 →
    exec (.silentBoundary x) s = .next
      (((advanced (l.pos.advance amount)).ripenJoins (otherLane x)).modLane x Lane.count).measureKnown)) ∧
  (∀ l : Lane, l.countersLegal →
  let c := l.count
  (l.beatInBar + 1 ≠ l.beatsPerBar → c = { l with beatInBar := l.beatInBar + 1 }) ∧
  (l.beatInBar + 1 = l.beatsPerBar → l.barInPhrase + 1 ≠ l.barsPerPhrase →
    c = { l with beatInBar := 0, barCount := l.barCount + 1, barInPhrase := l.barInPhrase + 1 }) ∧
  (l.beatInBar + 1 = l.beatsPerBar → l.barInPhrase + 1 = l.barsPerPhrase →
    c = { l with
      beatInBar := 0
      barCount := l.barCount + 1
      barInPhrase := 0
      phraseCount := l.phraseCount + 1 }) ∧
  (l.beatsPerBar = 1 → c.beatInBar = 0 ∧ c.barCount = l.barCount + 1) ∧
  (l.beatsPerBar = 1 → l.barsPerPhrase = 1 → c.barInPhrase = 0 ∧ c.phraseCount = l.phraseCount + 1))

/-- ANNOUNCED_BOUNDARY of a FREE lane with no entry due there (R20 to R23, R6, R26): the lane takes its advance (with
the pull of a copied one, log 3), H takes the new beat, the counters advance, a glide takes one step, and BAR and
PHRASE, the handover unit and the lead role are told. Everything else is unchanged but the joins that wait for a
boundary of this lane (R78). -/
def Obligations.AnnouncedBoundaryOfFreeLane : Prop := ∀ (s : State) (x : LaneId),
  let l := s.lane x
  let amount := ((l.increment : Int) + l.copiedPull).toNat
  let y := (l.pos.advance amount).beat
  let counted := Lane.count { l with
    pos := l.pos.advance amount
    high := y
    crossing := false
    copiedPull := 0
    glideDue := false }
  let after : Lane := match l.glide with
    | none => counted
    | some g =>
      if g.index + 1 < g.length then
        { counted with glide := some { g with index := g.index + 1 }, increment := g.at (g.index + 1) }
      else { counted with glide := none, increment := g.target }
  let glideDone : State := match l.glide with
    | none => s
    | some g => if g.index + 1 < g.length then s else s.post (.glideDone x)
  let bar := decide (counted.beatInBar = 0)
  let phrase := decide (counted.beatInBar = 0 ∧ counted.barInPhrase = 0)
  let barPosted := if bar then glideDone.post (.bar x counted.barCount) else glideDone
  let posted := if phrase then barPosted.post (.phrase x counted.phraseCount) else barPosted
  s.mode = .running → l.transport = .running → l.crossing = true → l.source = .free → l.follow = .free →
  l.residual = 0 → 2 ^ 48 ≤ l.pos.phase.toNat + amount → 0 < ahead y l.high → s.known = [] →
  (s.lane (otherLane x)).crossing = false → (s.lane (otherLane x)).source ≠ .lane →
  (∀ e ∈ s.queue, e.dueAt x y = false) →
  exec (.announcedBoundary x) s = .next { s.setLane x after with
    queue := (s.ripenJoins (otherLane x)).queue
    handovers := ((s.setLane x after).measureAll
      ⟨x, y, bar, counted.beatInBar, counted.barInPhrase, counted.beatsPerBar, counted.pos.phase, []⟩ y).handovers
    bus := if s.bus.settings.lead = some x then
        { s.bus with request := some ⟨.boundary y, false, false, false⟩ }
      else s.bus
    link := posted.link }

/-- ANNOUNCED_BOUNDARY of any lane in its parts (R23): the advance, parts 1 to 3 (`State.openAnnounced`), and, where
part 2 has left the lane running at that boundary, the comparison, the reduction, and the jump with the notices. A lane
whose source is LANE is worked after the other lane's own advance and boundary work of the step (R61, log 3).

Part 4 (R64): a FOLLOWING lane compares its follow target with the estimate; within 1/4096 of its increment nothing
changes, and beyond it the lane takes the estimate at once or sets up a glide of the follow glide's length.

Part 5 (R8 to R10, R12, R65): a FOLLOWING lane whose source is LOCKED takes the residual and the bar offset of the
reduction and the pull rate, and its aligned flag is evaluated, with ALIGNED when it becomes set. The alignment length in
force is the lane's with the fall-backs of TAP and REFERENCE. -/
def Obligations.AnnouncedBoundaryOfFollowingLane : Prop :=
  (∀ (s : State) (x : LaneId),
  let l := s.lane x
  let o := otherLane x
  let y := (l.pos.advance l.stepAmount).beat
  s.mode = .running → l.transport = .running → l.crossing = true → 2 ^ 48 ≤ l.pos.phase.toNat + l.stepAmount →
  0 < ahead y l.high →
  let opened := ((s.advanceLane x).ripenJoins o).openAnnounced x y
  let led := s.workLane o
  ((s.lane o).crossing = false → (opened.lane x).transport = .running → (opened.lane x).high = y →
    (opened.lane o).crossing = false →
    exec (.announcedBoundary x) s = .next
      (((opened.followCompare x).partFive x).jumpAndReport x ((opened.lane x).facts y)).measureKnown) ∧
  (l.source = .lane → (s.lane o).transport = .running → (s.lane o).crossing = true → led.mode = .running →
    (led.lane o).crossing = false → (led.lane x).transport = .running → (led.lane x).crossing = true →
    (led.lane x).announces = true → exec (.announcedBoundary x) s = exec (.announcedBoundary x) led)) ∧
  (∀ (s : State) (x : LaneId),
  let l := s.lane x
  (l.follow ≠ .following → s.followCompare x = s ∧ s.partFive x = s) ∧
  (s.sourceLock x ≠ some .locked → s.partFive x = s) ∧
  (∀ e, l.follow = .following → s.sourceEstimate x = some e →
    let target : Nat := match l.glide with
      | some g => g.target
      | none => l.increment
    let off := ((e : Int) - target).natAbs * 4096
    (off ≤ l.increment → s.followCompare x = s) ∧
    (l.increment < off → l.followGlide = 0 → (s.lane (otherLane x)).source ≠ .lane →
      s.followCompare x = s.setLane x { l with increment := e, glide := none, glideDue := false }) ∧
    (l.increment < off → 1 ≤ l.followGlide → s.followCompare x =
      s.setLane x { l with glide := some ⟨l.increment, e, l.followGlide, 0⟩, glideDue := false })) ∧
  (∀ src, l.follow = .following → s.sourceLock x = some .locked → s.sourceSide x = some src →
    let len : AlignLength := match l.source with
      | .tap => .beat
      | .reference => if s.ref.downbeat = false ∨ l.alignLength = .beat then .beat else .bar
      | _ => l.alignLength
    let L : Nat := match len with
      | .beat => 2 ^ 48
      | .bar => l.beatsPerBar * 2 ^ 48
      | .phrase => l.beatsPerBar * l.barsPerPhrase * 2 ^ 48
    let d : Int := (relPosition len src.beatInBar src.barInPhrase src.beatsPerBar src.phase : Int)
      - relPosition len l.beatInBar l.barInPhrase l.beatsPerBar l.pos.phase
    let q : Int := match l.alignMode with
      | .nearest => (d + (L : Int) / 2) / L
      | .forward => d / L
    let r := d - q * L
    let near := decide (r.natAbs ≤ 2 ^ 40)
    let reduced := s.setLane x { l with
      residual := r
      barOffset := max (-32767) (min 32767 q)
      pullRate := r.sign * (min (ceilDiv r.natAbs (2 ^ 48 / l.increment)) (l.increment * l.pullLimit / 1024) : Nat)
      aligned := near }
    s.partFive x = if near = true ∧ l.aligned = false then reduced.post (.aligned x) else reduced))

/-- The jump of part 6 with the boundary's part 7 (R11, R24, R25). A lane with a pull limit, or without a residual, does
not jump.

A backward jump moves the position back, steps the counters back once for each beat by which the beat count decreased,
leaves H, and applies the residual whole. The steps back undo the counting under a meter that has not changed.

A forward jump on which no entry falls due at a crossed boundary leaves the lane at its destination with the counters
advanced by each boundary crossed and H at the lane's beat; one transmit request is left, that of the last boundary
(R172), and the crossed boundaries post BAR and PHRASE in order, after those of the boundary that made the jump (DEDUCED,
log 7). Where part 2 of a crossed boundary stops the lane, the boundaries beyond it are counted alone. -/
def Obligations.JumpsOfALane : Prop :=
  (∀ (s : State) (x : LaneId) (f : BoundaryFacts), (s.lane x).pullLimit ≠ 0 ∨ (s.lane x).residual = 0 →
    s.jumpAndReport x f = s.partSeven x f f.index) ∧
  (∀ (s : State) (x : LaneId) (f : BoundaryFacts), (s.lane x).pullLimit = 0 → (s.lane x).residual < 0 →
    let l := s.lane x
    let dest := l.pos.retreat l.residual.natAbs
    let back : Lane := { l.uncountMany (l.pos.beat - dest.beat).toNat with
      pos := dest
      residual := 0
      aligned := true }
    let moved := s.setLane x back
    back.high = l.high ∧
    s.jumpAndReport x f = (if l.aligned = true then moved else moved.post (.aligned x)).partSeven x f dest.beat) ∧
  (∀ (l : Lane) (n : Nat), l.countersLegal → (l.countMany n).uncountMany n = l ∧ (l.uncountMany n).countersLegal ∧
    (l.countMany n).countersLegal) ∧
  (∀ (s : State) (x : LaneId) (f : BoundaryFacts),
    let l := s.lane x
    let dest := l.pos.advance l.residual.natAbs
    let n := (dest.beat - l.pos.beat).toNat
    l.transport = .running → l.pullLimit = 0 → 0 < l.residual → l.high = l.pos.beat → f.index = l.pos.beat →
    (∀ e ∈ s.queue, ∀ j, 1 ≤ j → j ≤ n → e.dueAt x (l.pos.beat + BitVec.ofNat 32 j) = false) →
    let t := s.jumpAndReport x f
    t.lane x = { l.countMany n with
      pos := dest
      high := dest.beat
      residual := 0
      aligned := true
      increment := (t.lane x).increment
      glide := (t.lane x).glide
      glideDue := (t.lane x).glideDue } ∧
    t.bus = (if s.bus.settings.lead = some x then
      { s.bus with request := some ⟨.boundary dest.beat, false, false, false⟩ } else s.bus) ∧
    (l.glide = none →
      let first := if l.aligned = true then s else s.post (.aligned x)
      t.link = ((List.range n).foldl (fun u j => u.postBarPhrase x
        ((l.countMany (j + 1)).facts (l.pos.beat + BitVec.ofNat 32 (j + 1)))) (first.postBarPhrase x f)).link) ∧
    t = { s with
      laneA := t.laneA
      laneB := t.laneB
      handovers := t.handovers
      known := t.known
      bus := t.bus
      link := t.link }) ∧
  (∀ (s : State) (x : LaneId) (y : U32) (n : Nat), 0 < ahead y (s.lane x).high →
    let u := s.openAnnounced x y
    (u.lane x).transport = .stopped → State.workCrossed x (n + 1) y s =
      u.setLane x { (u.lane x).countMany n with high := (u.lane x).pos.beat })

/-- Part 2 of an announced boundary (R23, R28, R30, R31, R38, R68, R74, R75): the lane-level entries timed by the lane
and due there leave the queue one at a time in acceptance order, each is carried out on its target as those before it
have left the state, and CHANGE_APPLIED is posted after each, behind the notices of what it brings about (log 19 where
no rule orders them); a stop of the timing lane ends the part.

A METER change that cannot take effect there is held over to its target's next bar start, with nothing posted (R30,
R84). That its place in acceptance order is kept, and that for a METER of the timing lane the next bar start is counted
from the boundary worked, whose counters stand, also where the lane has jumped past it, is the model's reading (log 7:
DEDUCED from R30). -/
def Obligations.EntriesAtAnAnnouncedBoundary : Prop := ∀ (s : State) (x : LaneId) (y : U32),
  ((∀ e ∈ s.queue, e.dueAt x y = false) → s.partTwo x y = s) ∧
  (∀ e fuel, s.findEntry (·.dueAt x y) = some e → s.heldOver e.change (some x) = none →
    let t := s.carryOut e
    State.boundaryEntries x y (fuel + 1) s =
      if (t.lane x).transport = .running then State.boundaryEntries x y fuel t else t) ∧
  (∀ before after e, s.queue = before ++ e :: after → s.idsDistinct → e.dueAt x y = true →
    (∀ d ∈ before ++ after, d.dueAt x y = false) →
    let gone := { s with queue := before ++ after, generation := s.generation + 1 }
    let heldTo (z : LaneId) (due : U32) : State := { s with
      queue := before ++ { e with timing := z, due := .beat due } :: after
      generation := s.generation + 1 }
    let done (b : Bool) (now : State) : State := if b then now.postApplied e true else gone.postApplied e false
    (∀ z i g, e.change = .tempo z i g →
      s.partTwo x y = done (decide ((s.lane z).source = .free)) (gone.newTarget z i g)) ∧
    (∀ z b p, e.change = .meter z b p →
      ((s.lane z).transport = .stopped ∨ z = x ∧ (s.lane z).beatInBar = 0 →
        s.partTwo x y = (gone.applyMeter z b p).postApplied e true) ∧
      (z = x → (s.lane x).transport = .running → (s.lane x).beatInBar ≠ 0 → (s.lane x).countersLegal →
        (s.lane x).high = y →
        s.partTwo x y = heldTo x (y + BitVec.ofNat 32 ((s.lane x).beatsPerBar - (s.lane x).beatInBar))) ∧
      (z ≠ x → (s.lane z).transport = .running →
        s.partTwo x y = heldTo z (TakeMode.nextBar.dueBeat (s.lane z)))) ∧
    (∀ z g, e.change = .source z g → (∀ d ∈ s.queue, d.isJoinOf z = false) →
      s.partTwo x y = done (decide ¬ (g.kind = .lane ∧ (s.lane (otherLane z)).source = .lane)) (gone.applySource z g).1) ∧
    (∀ z, e.change = .transport z .start →
      s.partTwo x y = done (decide ((s.lane z).transport = .stopped)) (gone.startLane z)) ∧
    (∀ z, e.change = .transport z .stop →
      s.partTwo x y = done (decide ((s.lane z).transport = .running)) (gone.stopLane z)) ∧
    (∀ z, e.change = .transport z .resume →
      s.partTwo x y = done (decide ((s.lane z).transport = .stopped)) (gone.resumeLane z)) ∧
    (∀ z, e.change = .transport z .copy →
      s.partTwo x y = done (decide ((s.lane z).transport = .stopped)) (gone.copyLane (otherLane z))))

/-- The boundary take modes resolve to the first beat, bar start or phrase start above H (R71), for lanes whose H
and beat count are not 2^30 beats apart (R2). -/
def Obligations.TakeModesResolveAboveH : Prop := ∀ l : Lane, l.countersLegal →
  -2 ^ 30 < ahead l.high l.pos.beat → ahead l.high l.pos.beat < 2 ^ 30 →
  TakeMode.nextBeat.dueBeat l = l.high + 1 ∧
  isFirstAbove (TakeMode.nextBar.dueBeat l) (l.pos.beat + BitVec.ofNat 32 (l.beatsPerBar - l.beatInBar))
    l.beatsPerBar l.high ∧
  isFirstAbove (TakeMode.nextPhrase.dueBeat l)
    (l.pos.beat + BitVec.ofNat 32 ((l.barsPerPhrase - l.barInPhrase) * l.beatsPerBar - l.beatInBar))
    (l.beatsPerBar * l.barsPerPhrase) l.high ∧
  ∀ n, 1 ≤ n → n ≤ 64 → (TakeMode.afterBars n).dueBeat l =
    TakeMode.nextBar.dueBeat l + BitVec.ofNat 32 ((n - 1) * l.beatsPerBar)

/-! ## The request queue -/

/-- A reply with a result of H'10 or above carries the result byte alone, and its request changed no state; every
request handled is answered with exactly one reply, and leaves the queue (R186, R187). -/
def Obligations.RefusedRequestsChangeNothing : Prop := ∀ row ∈ requestRows, ∀ (s : State) (tag : Byte) (p : List Byte),
  RequestAtHead s row.type tag p → row.mine p = true →
  ∃ t code data resets, exec row.command s = .next t ∧
    t.link.requests = s.link.requests.tail ∧ t.link.handled = true ∧
    t.link.replies = s.link.replies ++ [⟨row.type, tag, code :: data, resets⟩] ∧
    (0x10 ≤ code.toNat → data = [] ∧ t = answered s.takeHead row.type tag [code])

/-- A LEN that differs from the catalogue's is answered BAD_LENGTH (R186).

UNKNOWN_TYPE_REQUEST answers BAD_TYPE for a TYPE outside the catalogue of section 11.3, and LINK_BUSY answers a
refusal at the head of the queue; both change nothing else (R186). -/
def Obligations.WrongLengthsAndUnknownTypes : Prop :=
  (∀ row ∈ requestRows, ∀ (s : State) (tag : Byte) (p : List Byte),
  RequestAtHead s row.type tag p → row.mine p = true → p.length ≠ row.len →
  exec row.command s = .next (answered s.takeHead row.type tag [0x11])) ∧
  (∀ s : State,
  (∀ type tag p, RequestAtHead s type tag p → type ∉ catalogueTypes →
    exec .unknownTypeRequest s = .next (answered s.takeHead type tag [0x10])) ∧
  (∀ type tag, s.mode = .running → s.link.replies.length < 4 → s.link.resetPending = false →
    s.link.handled = false → s.link.requests.head? = some (.refusal type tag) →
    exec .linkBusy s = .next (answered s.takeHead type tag [0x30])))

/-- The reading requests answer OK with the record of their layout and change nothing; a page, section or index out of
range is refused with BAD_VALUE (R41, R84, R89, R107, R141, R157, R180, R193, R198).

STATUS returns the lane summaries, the sticky flags, the link error counts and the occupancies, and clears every
sticky flag it returned set; it clears no count and changes nothing else (R192).

The bytes of fields a layout names in one case only or gives no encoding (a FREE handover record, its H'FF fields, the member
set of a WAITING record, a running state, a line's level and state) are the model's choices (log 17), and so is the order
in which LIST_CHANGES gives the entries that wait for a cue (log 13). That READ_BUS shows the bit rate and line mode last
accepted, also where they still wait for the end of an own frame (R179), is the model's choice too (log 17). -/
def Obligations.ReadsAndStatus : Prop :=
  (∀ (s : State) (tag : Byte) (p : List Byte),
  let ok (type : Byte) (data : List Byte) : Host.Outcome State Fault Refusal :=
    .next (answered s.takeHead type tag (0x00 :: data))
  let bad (type : Byte) : Host.Outcome State Fault Refusal := .next (answered s.takeHead type tag [0x12])
  (RequestAtHead s 0x01 tag p → p.length = 0 → exec .identify s = ok 0x01 [0x21, 0x60, 0x01, 2, 16,
    (match s.link.rate with | .baud1000000 => 0 | .baud115200 => 1), 56]) ∧
  (RequestAtHead s 0x16 tag p → p.length = 2 → exec .readLane s =
    match laneOfByte (byteAt p 0), byteAt p 1 with
    | some x, 0 => ok 0x16 (s.laneByte x ++ s.lanePage0 x)
    | some x, 1 => ok 0x16 (s.laneByte x ++ s.lanePage1 x)
    | some x, 2 => ok 0x16 (s.laneByte x ++ s.lanePage2 x)
    | _, _ => bad 0x16) ∧
  (RequestAtHead s 0x20 tag p → p.length = 1 → exec .listChanges s =
    let page := (s.listed.drop (byteAt p 0)).take 2
    if byteAt p 0 ≤ 23 then
      ok 0x20 (byte s.queue.length ++ bytesOf 2 s.generation.toNat ++ byte page.length ++ page.flatMap Entry.bytes)
    else bad 0x20) ∧
  (RequestAtHead s 0x29 tag p → p.length = 1 → exec .readPreset s =
    if h : byteAt p 0 < 16 then ok 0x29 (s.presetBytes ⟨byteAt p 0, h⟩) else bad 0x29) ∧
  (RequestAtHead s 0x31 tag p → p.length = 2 → exec .readChannel s =
    if h : byteAt p 0 < 16 then
      let n : Fin 16 := ⟨byteAt p 0, h⟩
      if byteAt p 1 = 0 then ok 0x31 (byte n.val ++ s.channelPage0 n)
      else if byteAt p 1 = 1 then ok 0x31 (byte n.val ++ s.channelPage1 n)
      else if byteAt p 1 = 2 then ok 0x31 (byte n.val ++ s.channelPage2 n)
      else bad 0x31
    else bad 0x31) ∧
  (RequestAtHead s 0x3A tag p → p.length = 1 → exec .readBreaks s =
    if h : byteAt p 0 < 12 then ok 0x3A (byte (byteAt p 0) ++ s.breakPage ⟨byteAt p 0, h⟩) else bad 0x3A) ∧
  (RequestAtHead s 0x4A tag p → p.length = 1 → exec .readHandovers s =
    if h : byteAt p 0 < 4 then ok 0x4A (byte (byteAt p 0) ++ s.handoverBytes ⟨byteAt p 0, h⟩) else bad 0x4A) ∧
  (RequestAtHead s 0x52 tag p → p.length = 2 → exec .readBus s =
    if byteAt p 0 = 0 then ok 0x52 s.bus.bytes
    else if byteAt p 0 = 1 then ok 0x52 s.bus.filterBytes
    else if h : byteAt p 0 = 2 ∧ byteAt p 1 < 8 then
      ok 0x52 (byte (byteAt p 1) ++ (s.busTracker ⟨byteAt p 1, h.2⟩).bytes)
    else bad 0x52)) ∧
  (∀ (s : State) (tag : Byte) (p : List Byte),
  RequestAtHead s 0x03 tag p → p.length = 0 →
  exec .status s = .next (answered
    { s.takeHead with link := { s.takeHead.link with sticky := ⟨false, false, false, false, false, false⟩ } }
    0x03 tag (0x00 :: (s.laneSummary .a ++ s.laneSummary .b ++ [s.link.sticky.toByte] ++ s.link.counts.bytes ++
      [BitVec.ofNat 8 s.queue.length, BitVec.ofNat 8 (allRecords.filter fun r => (s.brk r).isNone).length,
       BitVec.ofNat 8 (allRecords.filter fun r => (s.ho r).isNone).length,
       BitVec.ofNat 8 s.link.notices.length]))))

/-- SET_NOTICE_MASK: the mask takes the new value and the reply carries it, unless a set bit names no enable (R190; the
enables are bits 1 to 21, section 11.6). Notices already in the queue stay.

Posting (R189, R190): a masked kind is not posted, READY always is; a notice finds its place behind the others while
fewer than 32 wait, and is otherwise discarded with NOTICE_OVERFLOW set. Each kind but READY has the enable that section
11.6 gives it, BAR and PHRASE one for each lane, and after a reset every kind is enabled but BAR and PHRASE. -/
def Obligations.NoticeMaskAndPosting : Prop :=
  (∀ (s : State) (tag : Byte) (p : List Byte),
  RequestAtHead s 0x04 tag p → p.length = 4 →
  let mask : BitVec 32 := BitVec.ofNat 32 (fieldAt p 0 4)
  exec .setNoticeMask s = .next (
    if ∃ k : Fin 32, mask.getLsbD k = true ∧ (k.val = 0 ∨ 22 ≤ k.val) then answered s.takeHead 0x04 tag [0x12]
    else answered { s.takeHead with link := { s.takeHead.link with mask := mask } } 0x04 tag
      (0x00 :: bytesOf 4 mask.toNat))) ∧
  (∀ (s : State) (n : NoticeBody),
  (enabledBy s.link.mask n = false → s.post n = s) ∧
  (enabledBy s.link.mask n = true → s.link.notices.length < 32 →
    s.post n = { s with link := { s.link with notices := s.link.notices ++ [⟨n, s.stepTime⟩] } }) ∧
  (enabledBy s.link.mask n = true → 32 ≤ s.link.notices.length →
    s.post n = { s with link := { s.link with sticky := { s.link.sticky with noticeOverflow := true } } }) ∧
  (∀ cause rate, enabledBy s.link.mask (.ready cause rate) = true) ∧
  (let bit : Option Nat := match n with
      | .ready _ _ => none
      | .sourceLocked _ _ _ => some 1
      | .sourceHoldover _ _ _ => some 2
      | .sourceSearching _ _ _ => some 3
      | .aligned _ => some 4
      | .glideDone _ => some 5
      | .changeApplied _ _ _ _ _ => some 6
      | .changesDiscarded _ _ => some 7
      | .transportStarted _ _ => some 8
      | .transportStopped _ => some 9
      | .bar .a _ => some 10
      | .bar .b _ => some 20
      | .phrase .a _ => some 11
      | .phrase .b _ => some 21
      | .breakDone _ _ _ _ _ => some 12
      | .handoverDone _ _ _ _ _ _ _ => some 13
      | .presetTaken _ _ _ _ _ => some 14
      | .presetIgnored _ _ _ _ => some 15
      | .refMisaligned => some 16
      | .lineFault _ _ => some 17
      | .lineRestored _ => some 18
      | .idConflict _ _ _ _ => some 19;
    n.maskBit = bit ∧ ∀ k, bit = some k → enabledBy s.link.mask n = s.link.mask.getLsbD k) ∧
  (n.maskBit = none ↔ ∃ cause rate, n = .ready cause rate) ∧
  (∀ rate, enabledBy (Link.reset rate).mask n = (match n with
    | .bar _ _ => false
    | .phrase _ _ => false
    | _ => true)))

/-! ## Lane requests -/

/-- SET_TEMPO (R27, R28, R70): the checks in their order, the conversion of R4 and the clamp of R7, and the change
carried out at once or made a TEMPO entry.

The staircase of a glide (R6): the increment stays where it is at step 0, reaches the target at step G, and every
step between lies between the two ends and moves toward the target.

An entry made stands last in acceptance order with the next id; the id counter moves past it and the generation
count increases by one (R70, R73, R84).

A tempo change carried out (R7, R28): a length of 0 sets the increment and makes any glide absent; a length of 1 or
more sets up a glide from the current increment. Nothing else changes on a lane that the other lane does not
follow. -/
def Obligations.SetTempoRequest : Prop :=
  (∀ (s : State) (tag : Byte) (p : List Byte),
  RequestAtHead s 0x10 tag p → p.length = 8 →
  exec .setTempo s = .next (
    match laneOfByte (byteAt p 0), takeNoJoin p 5, laneOfByte (byteAt p 7) with
    | some x, some take, some timing =>
      let T := fieldAt p 1 3
      let inc := roundHalfUp (2 ^ 48 * max 20000 (min 300000 T)) 5760000000
      let glide := min (byteAt p 4) 64
      let code : Byte := if T < 20000 ∨ 300000 < T ∨ 64 < byteAt p 4 then 0x01 else 0x00
      if (s.lane x).source ≠ .free then answered s.takeHead 0x10 tag [0x20]
      else match schedulerRefusal s take timing with
        | some refusal => answered s.takeHead 0x10 tag [refusal]
        | none =>
          let out := scheduled s.takeHead take timing (.tempo x inc glide) (s.takeHead.newTarget x inc glide)
          answered out.1 0x10 tag
            (code :: (out.2 ++ bytesOf 5 inc ++ bytesOf 3 (incrementToTempo inc) ++ [BitVec.ofNat 8 glide]))
    | _, _, _ => answered s.takeHead 0x10 tag [0x12])) ∧
  (∀ g : Glide, 1 ≤ g.length →
  g.at 0 = g.start ∧ g.at g.length = g.target ∧
  (g.start ≤ g.target → ∀ j k, j ≤ k → k ≤ g.length → g.start ≤ g.at j ∧ g.at j ≤ g.at k ∧ g.at k ≤ g.target) ∧
  (g.target ≤ g.start → ∀ j k, j ≤ k → k ≤ g.length → g.target ≤ g.at k ∧ g.at k ≤ g.at j ∧ g.at j ≤ g.start)) ∧
  (∀ (s : State) (maker : Maker) (timing : LaneId) (due : Due) (change : Change),
  s.addEntry maker timing due change = { s with
    queue := s.queue ++ [⟨s.nextId, maker, timing, due, change⟩]
    idCounter := (s.nextId + 1) % 256
    generation := s.generation + 1 }) ∧
  (∀ (s : State) (x : LaneId) (target glide : Nat),
  (s.lane (otherLane x)).source ≠ .lane →
  s.newTarget x target glide = s.setLane x
    (if glide = 0 then { s.lane x with increment := target, glide := none, glideDue := false }
    else { s.lane x with glide := some ⟨(s.lane x).increment, target, glide, 0⟩, glideDue := false }))

/-- SET_METER (R29, R30): values outside 1..16 and 1..64 are refused, IMMEDIATE on a RUNNING lane is NEXT_BAR of that
lane, and on a STOPPED lane the meter takes effect at once with both counters reduced modulo the new meter.

A METER change at an announced bar boundary of a RUNNING lane (R30): bar-in-phrase is kept below the new bars per
phrase, and otherwise becomes 0 with the phrase count increased. -/
def Obligations.SetMeterRequest : Prop :=
  (∀ (s : State) (tag : Byte) (p : List Byte),
  RequestAtHead s 0x11 tag p → p.length = 6 →
  let beats := byteAt p 1
  let bars := byteAt p 2
  exec .setMeter s = .next (
    match laneOfByte (byteAt p 0), takeNoJoin p 3, laneOfByte (byteAt p 5) with
    | some x, some given, some named =>
      let l := s.lane x
      let toBar := given = .immediate ∧ l.transport = .running
      let take : TakeMode := if toBar then .nextBar else given
      let timing := if toBar then x else named
      if ¬ (1 ≤ beats ∧ beats ≤ 16 ∧ 1 ≤ bars ∧ bars ≤ 64) then answered s.takeHead 0x11 tag [0x12]
      else match schedulerRefusal s take timing with
        | some refusal => answered s.takeHead 0x11 tag [refusal]
        | none =>
          let changed := { l with
            beatInBar := l.beatInBar % beats
            barInPhrase := l.barInPhrase % bars
            beatsPerBar := beats
            barsPerPhrase := bars }
          let out := scheduled s.takeHead take timing (.meter x beats bars)
            ((s.takeHead.setLane x changed).rangeResidual x)
          answered out.1 0x11 tag (0x00 :: out.2)
    | _, _, _ => answered s.takeHead 0x11 tag [0x12])) ∧
  (∀ (s : State) (x : LaneId) (beats bars : Nat),
  let l := s.lane x
  l.transport = .running → l.beatInBar = 0 → l.residual = 0 → 1 ≤ bars → 1 ≤ beats →
  s.applyMeter x beats bars = s.setLane x (
    if bars ≤ l.barInPhrase then
      { l with barInPhrase := 0, phraseCount := l.phraseCount + 1, beatsPerBar := beats, barsPerPhrase := bars }
    else { l with beatsPerBar := beats, barsPerPhrase := bars }))

/-- SET_SOURCE (R67): the checks in their order, the clamps of pull limit and follow glide, and the change applied by
R68 at once or made a SOURCE entry.

A SOURCE change to another source, on a lane with no waiting join (R68): the settings take the new values; r, p and q
become 0, the aligned flag is cleared, and the follow state becomes FREE, FOLLOWING or HOLDOVER by the lock state of the
new source. A change to LANE posts SOURCE_LOCKED or SOURCE_HOLDOVER for the lane by the other lane's transport; one that
finds the other lane's source LANE is not carried out. A lane made FOLLOWING while STOPPED takes the estimate at once
(R66).

A change that keeps the source kind and bus entry (R68, R9, R12) keeps the follow state, p and q, and brings the
residual into the range of the new settings.

A waiting START with JOIN of the lane (R79) is rebound to the new source: it is IGNORED where that is neither BUS nor
LANE, waits for its boundary where it is LOCKED, and is carried out as a plain START where it is not, its notices before
a SOURCE entry's CHANGE_APPLIED (the model's choice, log 19). That a join which waits for LANE waits on as it did where
the source stays LANE, and that a wait that does not change counts in no generation, are DEDUCED (log 8). -/
def Obligations.SetSourceRequest : Prop :=
  (∀ (s : State) (tag : Byte) (p : List Byte),
  RequestAtHead s 0x12 tag p → p.length = 11 →
  let pull := fieldAt p 5 2
  let glide := byteAt p 7
  exec .setSource s = .next (
    match laneOfByte (byteAt p 0), sourceKindOf (byteAt p 1) (byteAt p 2), alignLengthOf (byteAt p 3),
      alignModeOf (byteAt p 4), takeNoJoin p 8, laneOfByte (byteAt p 10) with
    | some x, some kind, some len, some mode, some take, some timing =>
      let settings : SourceSettings := ⟨kind, len, mode, min 256 pull, min 16 glide⟩
      let code : Byte := if 256 < pull ∨ 16 < glide then 0x01 else 0x00
      if kind = .lane ∧ (s.lane (otherLane x)).source = .lane then answered s.takeHead 0x12 tag [0x12]
      else match schedulerRefusal s take timing with
        | some refusal => answered s.takeHead 0x12 tag [refusal]
        | none =>
          let out := scheduled s.takeHead take timing (.source x settings) (s.takeHead.applySource x settings).1
          answered out.1 0x12 tag
            (code :: (out.2 ++ bytesOf 2 (min 256 pull) ++ [BitVec.ofNat 8 (min 16 glide)]))
    | _, _, _, _, _, _ => answered s.takeHead 0x12 tag [0x12])) ∧
  (∀ (s : State) (x : LaneId) (g : SourceSettings),
  let l := s.lane x
  g.kind ≠ .lane → l.source ≠ g.kind → (∀ e ∈ s.queue, e.isJoinOf x = false) →
  let lock : Option LockState := match g.kind with
    | .tap => some s.tap.lock
    | .reference => some s.ref.lock
    | .bus n => some (s.busTracker n).lock
    | _ => none
  let follow : FollowState := match lock with
    | none => .free
    | some .locked => .following
    | some _ => .holdover
  let changed : Lane := { l with
    source := g.kind
    alignLength := g.alignLength
    alignMode := g.alignMode
    pullLimit := g.pullLimit
    followGlide := g.followGlide
    residual := 0
    pullRate := 0
    barOffset := 0
    aligned := false
    follow := follow }
  let estimate : Option Nat := match g.kind with
    | .tap => s.tap.estimate
    | .reference => s.ref.estimate
    | .bus n => (s.busTracker n).estimate
    | _ => none
  s.applySource x g = (s.setLane x (match follow, estimate with
    | .following, some i => if l.transport = .stopped then { changed with increment := i, glide := none } else changed
    | _, _ => changed), true)) ∧
  (∀ (s : State) (x : LaneId) (g : SourceSettings), g.kind = .lane →
  let l := s.lane x
  let o := s.lane (otherLane x)
  (o.source = .lane → s.applySource x g = (s, false)) ∧
  (o.source ≠ .lane → l.source ≠ .lane → (∀ e ∈ s.queue, e.isJoinOf x = false) →
    let runs := decide (o.transport = .running)
    let changed : Lane := { l with
      source := .lane
      alignLength := g.alignLength
      alignMode := g.alignMode
      pullLimit := g.pullLimit
      followGlide := g.followGlide
      residual := 0
      pullRate := 0
      barOffset := 0
      aligned := false
      follow := if runs then .following else .holdover }
    s.applySource x g = ((s.setLane x (if runs = true ∧ l.transport = .stopped then
        { changed with increment := o.increment, glide := none } else changed)).post
      (if runs then .sourceLocked (.lane x) (incrementToTempo o.increment) none
        else .sourceHoldover (.lane x) (incrementToTempo o.increment) none), true))) ∧
  (∀ (s : State) (x : LaneId) (g : SourceSettings),
  let l := s.lane x
  l.source = g.kind → (g.kind = .lane → (s.lane (otherLane x)).source ≠ .lane) → (∀ e ∈ s.queue, e.isJoinOf x = false) →
  let len : AlignLength := match g.kind with
    | .tap => .beat
    | .reference => if s.ref.downbeat = false ∨ g.alignLength = .beat then .beat else .bar
    | _ => g.alignLength
  let L : Int := unitLength len l.beatsPerBar l.barsPerPhrase
  let low : Int := match g.alignMode with | .nearest => -(L / 2) | .forward => 0
  let high : Int := match g.alignMode with | .nearest => L / 2 - 1 | .forward => L - 1
  let r := max low (min high l.residual)
  let changed : Lane := { l with
    alignLength := g.alignLength
    alignMode := g.alignMode
    pullLimit := g.pullLimit
    followGlide := g.followGlide }
  let ranged := s.setLane x { changed with residual := r, aligned := l.aligned || decide (r.natAbs ≤ 2 ^ 40) }
  s.applySource x g = (if r = l.residual then s.setLane x changed
    else if l.aligned = false ∧ r.natAbs ≤ 2 ^ 40 then ranged.post (.aligned x) else ranged, true)) ∧
  (∀ (s : State) (x : LaneId) (g : SourceSettings) (e : Entry) (before after : List Entry),
  s.queue = before ++ e :: after → s.idsDistinct → e.isJoinOf x = true →
  (∀ d ∈ before ++ after, d.isJoinOf x = false) →
  (g.kind = .lane → (s.lane (otherLane x)).source ≠ .lane) →
  let changed := { (State.applySource { s with queue := before ++ after } x g).1 with queue := s.queue }
  let gone := { changed with queue := before ++ after, generation := s.generation + 1 }
  let locked := changed.sourceLock x = some .locked
  let waits (w : JoinWait) : State := if e.due = .join w then changed else
    { changed with
      queue := before ++ { e with timing := x, due := .join w } :: after
      generation := s.generation + 1 }
  s.applySource x g = (match g.kind with
    | .bus n => if locked then waits (.bus n (changed.predictedOf (.bus n)))
      else if (s.lane x).transport = .running then gone.postApplied e false
      else (gone.startLane x).postApplied e true
    | .lane => if locked then
        (if e.joinsOn x .lane = true then changed else waits (.lane false))
      else if (s.lane x).transport = .running then gone.postApplied e false
      else (gone.startLane x).postApplied e true
    | _ => gone.postApplied e false, true))

/-- TRANSPORT (R31, R70): the checks in their order for each action, and the action carried out at once or made an
entry; a START with JOIN waits for its source's boundary and is timed by its own lane (R69, R78). -/
def Obligations.TransportRequests : Prop := ∀ (s : State) (tag : Byte) (p : List Byte),
  RequestAtHead s 0x13 tag p → p.length = 5 →
  let answer (code : Byte) := answered s.takeHead 0x13 tag [code]
  let done (take : TakeMode) (timing x : LaneId) (a : EntryAction) (now : State) : State :=
    match schedulerRefusal s take timing with
    | some refusal => answer refusal
    | none =>
      let out := scheduled s.takeHead take timing (.transport x a) now
      answered out.1 0x13 tag (0x00 :: out.2)
  match laneOfByte (byteAt p 0), takeAt p 2, laneOfByte (byteAt p 4) with
  | some x, some take, some timing =>
    let running := (s.lane x).transport = .running
    let joinable : Bool := match (s.lane x).source with
      | .bus _ => true
      | .lane => true
      | _ => false
    (byteAt p 1 = 0 → take = .join → exec .transportStart s = .next (
      if joinable = false then answer 0x12
      else if s.sourceLock x ≠ some .locked ∨ running then answer 0x20
      else done take x x .join s.takeHead)) ∧
    (byteAt p 1 = 0 → take ≠ .join → exec .transportStart s = .next (
      if running then answer 0x20 else done take timing x .start (s.takeHead.startLane x))) ∧
    (byteAt p 1 = 1 → exec .transportStop s = .next (
      if take = .join then answer 0x12
      else if ¬ running then answer 0x20
      else done take timing x .stop (s.takeHead.stopLane x))) ∧
    (byteAt p 1 = 2 → exec .transportResume s = .next (
      if take = .join then answer 0x12
      else if running then answer 0x20
      else done take timing x .resume (s.takeHead.resumeLane x))) ∧
    (3 ≤ byteAt p 1 → exec .transportStart s = .next (answer 0x12))
  | _, _, _ =>
    (byteAt p 1 = 1 → exec .transportStop s = .next (answer 0x12)) ∧
    (byteAt p 1 = 2 → exec .transportResume s = .next (answer 0x12)) ∧
    (byteAt p 1 ≠ 1 → byteAt p 1 ≠ 2 → exec .transportStart s = .next (answer 0x12))

/-- START (R32, R33): the lane stands at beat 0 + 0 with all counters and H at 0 and runs, keeping its tempo, meter and
source; each enabled channel attached to it takes origin 0, tick offset 0 and emitted count 0 and its start action;
TRANSPORT_STARTED is posted.

RESUME (R37): the lane runs on from its frozen position with its counters, H, glide and tempo kept; its channels run on
with their counts kept, a CODE channel takes RESUME with the bar count modulo 16384 into its slot, and TRANSPORT_STARTED
is posted.

Where the other lane has the source LANE, a start of either kind is its source's lock: SOURCE_LOCKED for it, and its
follow state (R61, R63, R66). That SOURCE_LOCKED stands behind TRANSPORT_STARTED is the model's choice (log 19), and so
is that a pulse in flight across a START counts as one since the start, any other as none (DEDUCED, log 11). -/
def Obligations.StartAndResumeOfALane : Prop :=
  (∀ (s : State) (x : LaneId),
  let l := s.lane x
  let o := otherLane x
  let t := s.startLane x
  let follow := if (s.lane o).follow = .holdover then FollowState.following else (s.lane o).follow
  t.lane x = { l with
    transport := .running
    pos := ⟨0, 0⟩
    beatInBar := 0
    barInPhrase := 0
    barCount := 0
    phraseCount := 0
    high := 0
    residual := 0
    pullRate := 0
    aligned := false
    crossing := false
    copiedPull := 0 } ∧
  (∀ n, let c := s.chan n
    t.chan n = if c.cfg.enabled ∧ c.cfg.lane = x then
        { c with
          running := true
          origin := ⟨0, 0⟩
          delta := 0
          emitted := 0
          owing := false
          pulseOwed := false
          barDue := false
          phraseDue := false
          mark := 0xFFFFFFFF
          pulsed := c.level && c.cfg.function.isPulse
          slot := if c.cfg.function = .code then some .start else c.slot }
      else c) ∧
  ((s.lane o).source ≠ .lane → t.lane o = s.lane o ∧ t.link = (s.post (.transportStarted x .start)).link) ∧
  ((s.lane o).source = .lane → t.link = ((s.post (.transportStarted x .start)).post
    (.sourceLocked (.lane o) (incrementToTempo l.increment) none)).link ∧
    t.lane o = if (s.lane o).transport = .stopped ∧ follow = .following then
        { s.lane o with follow := follow, increment := l.increment, glide := none }
      else { s.lane o with follow := follow }) ∧
  t = { s with laneA := t.laneA, laneB := t.laneB, channels := t.channels, link := t.link }) ∧
  (∀ (s : State) (x : LaneId),
  let l := s.lane x
  let o := otherLane x
  let t := s.resumeLane x
  let follow := if (s.lane o).follow = .holdover then FollowState.following else (s.lane o).follow
  t.lane x = { l with transport := .running, residual := 0, pullRate := 0, aligned := false } ∧
  (∀ n, let c := s.chan n
    t.chan n = if c.cfg.enabled ∧ c.cfg.lane = x then
        { c with
          running := true
          slot := if c.cfg.function = .code then some (.resume (l.barCount.toNat % 16384)) else c.slot }
      else c) ∧
  ((s.lane o).source ≠ .lane → t.lane o = s.lane o ∧ t.link = (s.post (.transportStarted x .resume)).link) ∧
  ((s.lane o).source = .lane → t.link = ((s.post (.transportStarted x .resume)).post
    (.sourceLocked (.lane o) (incrementToTempo l.increment) none)).link ∧
    t.lane o = if (s.lane o).transport = .stopped ∧ follow = .following then
        { s.lane o with follow := follow, increment := l.increment, glide := none }
      else { s.lane o with follow := follow }) ∧
  t = { s with laneA := t.laneA, laneB := t.laneB, channels := t.channels, link := t.link })

/-- STOP (R35, R36): the lane is STOPPED where it stands, keeping its tempo, glide, counters and H; its channels become
IDLE with their counts kept; every entry it times is discarded and those timed by the other lane stay; the breaks
holding channels of the lane lose them, and with the timing lane every WAITING member leaves; every handover is
cancelled, and its members become plain channels of their lanes.

The notices stand in the order of R36: TRANSPORT_STOPPED, CHANGES_DISCARDED, BREAK_DONE of each break the stop ends, and
HANDOVER_DONE of each handover, in increasing index. Where the other lane has the source LANE, this stop is its source's
HOLDOVER (R61, R63), posted behind them by the model's choice (log 19).

A START with JOIN of the other lane that waits for this lane comes due at the stop as a plain START, IGNORED where its
lane is RUNNING or has left the sources BUS and LANE (R79, R31); the notices of it stand behind all the others (log 19).
-/
def Obligations.StopOfALane : Prop :=
  (∀ (s : State) (x : LaneId),
  let o := otherLane x
  (∀ e ∈ s.queue, e.joinsOn o .lane = false) →
  let l := s.lane x
  let t := s.stopLane x
  let leaves (r : Fin 4) (b : BreakRecord) (n : Fin 16) : Prop :=
    s.inBreakRecord r n = true ∧ ((s.chan n).cfg.lane = x ∨
      b.timing = x ∧ ∃ once, (s.chan n).brk = some ⟨r, .waiting once⟩)
  let ends (r : Fin 4) (b : BreakRecord) : Prop := ∀ n, s.inBreakRecord r n = true → leaves r b n
  let seen (r : Fin 4) (b : BreakRecord) : Prop := b.timing = x ∨ ∃ n, leaves r b n
  let discarded := (s.queue.filter fun e => e.timing == x).length
  t.lane x = { l with
    transport := .stopped
    residual := 0
    pullRate := 0
    aligned := false
    crossing := false
    copiedPull := 0 } ∧
  t.lane o = (if (s.lane o).source = .lane ∧ (s.lane o).follow = .following then
      { s.lane o with follow := .holdover, residual := 0, pullRate := 0, aligned := false }
    else s.lane o) ∧
  (∀ n, let c := s.chan n
    let on := c.cfg.enabled = true ∧ c.cfg.lane = x
    t.chan n = { c with
      running := if on then false else c.running
      pulseOwed := if on then false else c.pulseOwed
      evalLead := if on then none else c.evalLead
      slot := if on ∧ c.cfg.function = .code then some .stop else c.slot
      brk := match c.brk with
        | none => none
        | some m => match s.brk m.record with
          | none => some m
          | some b => if leaves m.record b n then none else some m
      ho := match c.ho with
        | none => none
        | some m => if (s.ho m.record).isSome then none else some m }) ∧
  t.queue = s.queue.filter (fun e => e.timing != x) ∧
  (∀ r, t.ho r = none) ∧
  (∀ r, t.brk r = match s.brk r with
    | none => none
    | some b => if ends r b then none else some { b with stopSeen := b.stopSeen || decide (seen r b) }) ∧
  t.bus = (if s.bus.settings.lead = some x then
      { s.bus with request := some ⟨.stop, false, false, false⟩ }
    else s.bus) ∧
  (let stopped := s.post (.transportStopped x);
    let cleared := if discarded = 0 then stopped else stopped.post (.changesDiscarded x discarded)
    let broken := allRecords.foldl (fun u r => match s.brk r with
      | none => u
      | some b => if ends r b then
          u.post (.breakDone r (if seen r b then .stopped else b.reason) b.mode b.set b.completed)
        else u) cleared
    let cancelled := allRecords.foldl (fun u r => match s.ho r with
      | none => u
      | some h => u.post (.handoverDone r .cancelled h.fromLane h.toLane h.set h.switched h.switchBeat)) broken
    t.link = (if (s.lane o).source = .lane then
      cancelled.post (.sourceHoldover (.lane o) (incrementToTempo l.increment) none) else cancelled).link) ∧
  t = { s with
    laneA := t.laneA
    laneB := t.laneB
    channels := t.channels
    queue := t.queue
    generation := if discarded = 0 then s.generation else s.generation + 1
    breaks := t.breaks
    handovers := t.handovers
    bus := t.bus
    link := t.link }) ∧
  (∀ (s : State) (x : LaneId) (e : Entry) (before after : List Entry),
  let o := otherLane x
  s.queue = before ++ e :: after → s.idsDistinct → e.joinsOn o .lane = true → e.timing = o →
  (∀ d ∈ before ++ after, d.joinsOn o .lane = false) →
  let bare := State.stopLane { s with queue := before ++ after } x
  let gone := { bare with generation := bare.generation + 1 }
  s.stopLane x =
    if (s.lane o).transport = .running ∨ (∀ n, (s.lane o).source ≠ .bus n) ∧ (s.lane o).source ≠ .lane then
      gone.postApplied e false
    else (gone.startLane o).postApplied e true)

/-- COPY_LANE (R38, R39, R70): the checks in their order; the timing lane is the from-lane. A copy gives the other lane
the from-lane's increment, position, meter and counters, makes it RUNNING and FREE, and starts its channels there. A
copy made before the from-lane's carry of the step has the outstanding advance copied too, its pull included (DEDUCED,
log 3). -/
def Obligations.CopyLaneRequest : Prop := ∀ (s : State) (tag : Byte) (p : List Byte),
  RequestAtHead s 0x15 tag p → p.length = 3 →
  (exec .copyLane s = .next (
    match laneOfByte (byteAt p 0), takeNoJoin p 1 with
    | some f, some take =>
      if (s.lane (otherLane f)).transport = .running ∨ (s.lane f).transport = .stopped then
        answered s.takeHead 0x15 tag [0x20]
      else match schedulerRefusal s take f with
        | some refusal => answered s.takeHead 0x15 tag [refusal]
        | none =>
          let out := scheduled s.takeHead take f (.transport (otherLane f) .copy) (s.takeHead.copyLane f)
          answered out.1 0x15 tag (0x00 :: out.2)
    | _, _ => answered s.takeHead 0x15 tag [0x12])) ∧
  ∀ (u : State) (f : LaneId),
    let l := u.lane f
    let x := otherLane f
    let t := u.copyLane f
    t.lane x = { u.lane x with
      transport := .running
      increment := l.increment
      glide := none
      pos := l.pos
      beatInBar := l.beatInBar
      barInPhrase := l.barInPhrase
      barCount := l.barCount
      phraseCount := l.phraseCount
      high := l.pos.beat
      beatsPerBar := l.beatsPerBar
      barsPerPhrase := l.barsPerPhrase
      source := .free
      follow := .free
      residual := 0
      pullRate := 0
      aligned := false
      barOffset := 0
      crossing := l.crossing
      copiedPull := if l.crossing = true then l.residual.sign * (min l.pullRate.natAbs l.residual.natAbs : Nat) + l.copiedPull
        else 0
      glideDue := false } ∧
    (∀ n, t.chan n = if (u.chan n).cfg.enabled ∧ (u.chan n).cfg.lane = x then (u.chan n).startAt l.pos
      else u.chan n) ∧
    (l.source ≠ .lane → t.lane f = l ∧ t = { u.setLane x (t.lane x) with
      channels := t.channels
      link := (u.post (.transportStarted x .copy)).link })

/-- NUDGE (R13, R40): refused unless the lane runs and follows; otherwise the clamped offset times 2^38 is added to the
residual, the sum is clamped into the residual range, and the pull rate stays.

SET_REFERENCE (R55): values out of range are refused; otherwise the three settings take effect, a new Q restarts
counting and brings a LOCKED tracker to HOLDOVER, disabling the downbeat line clears the mark, and a change of
downbeat enable brings the residuals of its lanes into range. That the restart waits for the next pulse as a flag, and
that the pulse count comes into the range of a smaller Q at once, are the model's choices (log 10). -/
def Obligations.NudgeAndReferenceRequests : Prop :=
  (∀ (s : State) (tag : Byte) (p : List Byte),
  RequestAtHead s 0x14 tag p → p.length = 3 →
  exec .nudge s = .next (
    match laneOfByte (byteAt p 0) with
    | none => answered s.takeHead 0x14 tag [0x12]
    | some x =>
      let l := s.lane x
      if l.transport = .stopped ∨ l.follow ≠ .following then answered s.takeHead 0x14 tag [0x20]
      else
        let n := int16At p 1
        let n' := max (-512) (min 511 n)
        let L : Int := unitLength (s.alignInForce x) l.beatsPerBar l.barsPerPhrase
        let low : Int := match l.alignMode with | .nearest => -(L / 2) | .forward => 0
        let high : Int := match l.alignMode with | .nearest => L / 2 - 1 | .forward => L - 1
        let sum := l.residual + n' * 2 ^ 38
        let r := max low (min high sum)
        let nudged := s.takeHead.setLane x { l with
          residual := r
          aligned := l.aligned || decide (r.natAbs ≤ 2 ^ 40) }
        let t := if l.aligned = false ∧ r.natAbs ≤ 2 ^ 40 then nudged.post (.aligned x) else nudged
        answered t 0x14 tag
          ((if n' ≠ n ∨ r ≠ sum then 0x01 else 0x00) :: (bytesOfInt 2 n' ++ bytesOfInt 8 r)))) ∧
  (∀ (s : State) (tag : Byte) (p : List Byte),
  RequestAtHead s 0x17 tag p → p.length = 3 →
  let q := byteAt p 0
  exec .setReference s = .next (
    if ¬ (1 ≤ q ∧ q ≤ 96 ∧ byteAt p 1 ≤ 1 ∧ byteAt p 2 ≤ 1) then answered s.takeHead 0x17 tag [0x12]
    else
      let downbeat := decide (byteAt p 1 = 1)
      let set : RefTracker := { s.ref with
        q := q
        downbeat := downbeat
        realign := decide (byteAt p 2 = 1)
        mark := s.ref.mark && downbeat
        count := if q = s.ref.q then s.ref.count else min s.ref.count (q - 1)
        window := if q = s.ref.q then s.ref.window else []
        restart := if q = s.ref.q then s.ref.restart else true }
      let taken := { s.takeHead with ref := set }
      let held := if q ≠ s.ref.q ∧ s.ref.lock = .locked then
          { taken with ref := { set with lock := .holdover, holdoverStart := some s.clock } }.becameHoldover
            .reference .reference s.ref.estimate none
        else taken
      let ranged := if downbeat = s.ref.downbeat then held
        else held.forFollowers .reference fun x t => t.rangeResidual x
      answered ranged 0x17 tag [0x00]))

/-! ## Scheduler and presets -/

/-- CANCEL_CHANGE (R85): the entries selected by id, by timing lane or all of them leave without a notice, the reply
carries their number, and the generation count increases by one when there is one; an id no entry holds, an unknown
selector and an unknown lane are refused.

SET_CUE (R82): the quantize setting of the named line is changed at acceptance and its last taken edge is kept; a
line outside 1..4 or an unknown quantize value is refused. -/
def Obligations.CancelChangeAndSetCue : Prop :=
  (∀ (s : State) (tag : Byte) (p : List Byte),
  RequestAtHead s 0x21 tag p → p.length = 2 →
  let cancel (sel : Entry → Bool) : State :=
    let removed := (s.queue.filter sel).length
    answered (if removed = 0 then s.takeHead
      else { s.takeHead with queue := s.queue.filter fun e => !sel e, generation := s.generation + 1 })
      0x21 tag [0x00, BitVec.ofNat 8 removed]
  exec .cancelChange s = .next (
    if byteAt p 0 = 0 ∧ (∃ e ∈ s.queue, e.id = byteAt p 1) then cancel fun e => e.id == byteAt p 1
    else if byteAt p 0 = 1 ∧ byteAt p 1 = 0 then cancel fun e => e.timing == .a
    else if byteAt p 0 = 1 ∧ byteAt p 1 = 1 then cancel fun e => e.timing == .b
    else if byteAt p 0 = 2 then cancel fun _ => true
    else answered s.takeHead 0x21 tag [0x12])) ∧
  (∀ (s : State) (tag : Byte) (p : List Byte),
  RequestAtHead s 0x2B tag p → p.length = 2 →
  exec .setCue s = .next (
    match quantizeOf (byteAt p 1) with
    | some q =>
      if h : 1 ≤ byteAt p 0 ∧ byteAt p 0 ≤ 4 then
        let c : Fin 4 := ⟨byteAt p 0 - 1, by omega⟩
        answered { s.takeHead with cues := s.cues.set c.val ⟨q, s.cues[c].lastEdge⟩ c.isLt } 0x2B tag [0x00]
      else answered s.takeHead 0x2B tag [0x12]
    | none => answered s.takeHead 0x2B tag [0x12]))

/-- WRITE_PRESET for a record and for the target STROBE (R87, R88): the record takes the converted tempo, the clamped
glide and the take mode, or the strobe mode takes the new value; a refused write changes nothing.

APPLY_PRESET (R98, R94 to R96): refused where the lane's source is not FREE, where a boundary take mode finds it
STOPPED, and where an entry finds the queue full; otherwise the preset is applied at once or made an entry with maker
PRESET, and PRESET_TAKEN is posted with cause HOST. -/
def Obligations.PresetRequests : Prop :=
  (∀ (s : State) (tag : Byte) (p : List Byte),
  RequestAtHead s 0x28 tag p → p.length = 6 →
  let T := fieldAt p 1 3
  let inc := roundHalfUp (2 ^ 48 * max 20000 (min 300000 T)) 5760000000
  let glide := min (byteAt p 4) 64
  (byteAt p 0 ≠ 0x80 → exec .writePreset s = .next (
    match presetTakeOf (byteAt p 5) with
    | some take =>
      if h : byteAt p 0 < 16 then
        answered { s.takeHead with presets := s.presets.set (byteAt p 0) ⟨inc, glide, take⟩ h } 0x28 tag
          ((if T < 20000 ∨ 300000 < T ∨ 64 < byteAt p 4 then 0x01 else 0x00) ::
            (bytesOf 5 inc ++ bytesOf 3 (incrementToTempo inc) ++ [BitVec.ofNat 8 glide]))
      else answered s.takeHead 0x28 tag [0x12]
    | none => answered s.takeHead 0x28 tag [0x12])) ∧
  (byteAt p 0 = 0x80 → exec .writePresetStrobe s = .next (
    match strobeModeOf (byteAt p 5) with
    | some mode => answered { s.takeHead with strobe := { s.strobe with mode := mode } } 0x28 tag
        (0x00 :: List.replicate 9 0x00)
    | none => answered s.takeHead 0x28 tag [0x12]))) ∧
  (∀ (s : State) (tag : Byte) (p : List Byte),
  RequestAtHead s 0x2A tag p → p.length = 2 →
  exec .applyPreset s = .next (
    match indexOfByte 16 (byteAt p 0), laneOfByte (byteAt p 1) with
    | some i, some x =>
      let r := s.preset i
      let tempo := incrementToTempo r.increment
      if (s.lane x).source ≠ .free then answered s.takeHead 0x2A tag [0x20]
      else if r.take = .immediate then
        answered ((s.takeHead.newTarget x r.increment r.glide).post (.presetTaken x i .host none tempo)) 0x2A tag
          [0x00, 0, 0]
      else if (s.lane x).transport = .stopped then answered s.takeHead 0x2A tag [0x20]
      else if 24 ≤ s.queue.length then answered s.takeHead 0x2A tag [0x22]
      else answered ((s.takeHead.addEntry (.preset i) x (.beat (r.take.takeMode.dueBeat (s.lane x)))
          (.tempo x r.increment r.glide)).post (.presetTaken x i .host (some s.nextId) tempo)) 0x2A tag
        [0x00, 1, BitVec.ofNat 8 s.nextId]
    | _, _ => answered s.takeHead 0x2A tag [0x12]))

/-- CUE_EDGE (R80, R81): an edge within 1,920 steps of the last taken one changes nothing; a taken edge becomes the last
taken edge and changes nothing else where nothing waits on the line.

The entries waiting there are resolved one after another in acceptance order. On a RUNNING timing lane each becomes due
at H + 1 (BEAT) or the next bar start (BAR), keeping its place, and the edge counts once in the generation (the model's
choice, log 13). An entry's timing lane is read as the entries resolved before it have left it (the model's choice, log
13). For NONE, or on a STOPPED timing lane, an entry takes its IMMEDIATE form: a METER on a RUNNING lane becomes due at
that lane's next bar start, a grid change of a RUNNING channel that stays enabled at H + 1 of its timing lane, and any
other leaves the queue and is applied at once, with CHANGE_APPLIED behind the notices of what it brings about (log 19
where no rule orders them).

Break records waiting there are resolved on the state at the edge, before the entries (DEDUCED, log 13): their due
becomes a beat, and a WAITING member whose projection stands at or past it already is marked to enter at once, or their
due becomes absent and every WAITING member is marked. On a line on which both wait the edge does what it does without
the entries, and the entries are then resolved in that state. -/
def Obligations.CueEdgeResolves : Prop :=
  (∀ (s : State) (c : Fin 4), s.mode = .running →
  let line := s.cues[c]
  let taken := { s with cues := s.cues.set c.val { line with lastEdge := some s.clock } c.isLt }
  (∀ last, line.lastEdge = some last → since s.clock last < 1920 → exec (.cueEdge c) s = .next s) ∧
  ((∀ last, line.lastEdge = some last → 1920 ≤ since s.clock last) →
    ((∀ r b, s.brk r = some b → b.due ≠ .cue c) → (∀ e ∈ s.queue, e.due ≠ .cue c) →
      exec (.cueEdge c) s = .next taken) ∧
    ((∀ r b, s.brk r = some b → b.due ≠ .cue c) →
      exec (.cueEdge c) s = .next (
        let out := State.resolveCueEntries c line.quantize ((s.queue.filter fun e => e.due == .cue c).map (·.id)) taken
        if out.2 then { out.1 with generation := out.1.generation + 1 } else out.1)) ∧
    (∀ broken, exec (.cueEdge c) { s with queue := s.queue.filter fun e => e.due != .cue c } = .next broken →
      exec (.cueEdge c) s = .next (
        let ids := (s.queue.filter fun e => e.due == .cue c).map (·.id)
        let out := State.resolveCueEntries c line.quantize ids { broken with queue := s.queue }
        if out.2 then { out.1 with generation := out.1.generation + 1 } else out.1)) ∧
    ((∀ r b, s.brk r = some b → b.due ≠ .cue c) → s.idsDistinct → (∃ e ∈ s.queue, e.due = .cue c) →
      (∀ e ∈ s.queue, e.due = .cue c → (s.lane e.timing).transport = .running) → line.quantize ≠ .none →
      exec (.cueEdge c) s = .next { taken with
        queue := s.queue.map fun e => if e.due = .cue c then
            { e with due := .beat (match line.quantize with
              | .bar => TakeMode.nextBar.dueBeat (s.lane e.timing)
              | _ => (s.lane e.timing).high + 1) }
          else e
        generation := s.generation + 1 }) ∧
    ((∀ e ∈ s.queue, e.due ≠ .cue c) → ∃ t, exec (.cueEdge c) s = .next t ∧
      t = { taken with breaks := t.breaks, channels := t.channels } ∧
      (let due (b : BreakRecord) : BreakDue :=
          if (s.lane b.timing).transport = .stopped then .absent
          else match line.quantize with
            | .none => .absent
            | .beat => .beat ((s.lane b.timing).high + 1)
            | .bar => .beat (TakeMode.nextBar.dueBeat (s.lane b.timing));
        (∀ r, t.brk r = (s.brk r).map fun b => if b.due = .cue c then { b with due := due b } else b) ∧
        ∀ n, t.chan n = { s.chan n with brk := match (s.chan n).brk with
          | some ⟨r, .waiting once⟩ => some ⟨r, .waiting (match s.brk r with
            | some b => if b.due = .cue c then
                match due b with
                | .beat y => once || ((s.chan n).projectedOn (s.lane b.timing)).reached y
                | _ => true
              else once
            | none => once)⟩
          | other => other })))) ∧
  (∀ (c : Fin 4) (q : Quantize) (u : State) (id : Nat) (ids : List Nat),
    (u.findEntry (fun d => d.id == id && d.due == .cue c) = none →
      State.resolveCueEntries c q (id :: ids) u = State.resolveCueEntries c q ids u) ∧
    ∀ e, u.findEntry (fun d => d.id == id && d.due == .cue c) = some e →
      let one := u.resolveCueEntry q e
      let rest := State.resolveCueEntries c q ids one.1
      State.resolveCueEntries c q (id :: ids) u = (rest.1, one.2 || rest.2)) ∧
  (∀ (u : State) (q : Quantize) (before after : List Entry) (e : Entry),
    u.queue = before ++ e :: after → u.idsDistinct →
    let lane := u.lane e.timing
    let gone := { u with queue := before ++ after, generation := u.generation + 1 }
    let dueAt (z : LaneId) (y : U32) : State × Bool :=
      ({ u with queue := before ++ { e with timing := z, due := .beat y } :: after }, true)
    let done (b : Bool) (now : State) : State × Bool :=
      (if b then now.postApplied e true else gone.postApplied e false, false)
    (lane.transport = .running → q = .beat → u.resolveCueEntry q e = dueAt e.timing (lane.high + 1)) ∧
    (lane.transport = .running → q = .bar →
      u.resolveCueEntry q e = dueAt e.timing (TakeMode.nextBar.dueBeat lane)) ∧
    (lane.transport = .stopped ∨ q = .none →
      (∀ z i g, e.change = .tempo z i g →
        u.resolveCueEntry q e = done (decide ((u.lane z).source = .free)) (gone.newTarget z i g)) ∧
      (∀ z b p, e.change = .meter z b p → u.resolveCueEntry q e =
        if (u.lane z).transport = .running then dueAt z (TakeMode.nextBar.dueBeat (u.lane z))
        else done true (gone.applyMeter z b p)) ∧
      (∀ z g, e.change = .source z g → u.resolveCueEntry q e =
        done (gone.applySource z g).2 (gone.applySource z g).1) ∧
      (∀ z, e.change = .transport z .start →
        u.resolveCueEntry q e = done (decide ((u.lane z).transport = .stopped)) (gone.startLane z)) ∧
      (∀ z, e.change = .transport z .stop →
        u.resolveCueEntry q e = done (decide ((u.lane z).transport = .running)) (gone.stopLane z)) ∧
      (∀ z, e.change = .transport z .resume →
        u.resolveCueEntry q e = done (decide ((u.lane z).transport = .stopped)) (gone.resumeLane z)) ∧
      (∀ z, e.change = .transport z .copy →
        u.resolveCueEntry q e = done (decide ((u.lane z).transport = .stopped)) (gone.copyLane (otherLane z))) ∧
      (∀ n cfg, e.change = .channel n cfg →
        let d := (u.chan n).cfg
        let grid := cfg.lane ≠ d.lane ∨ cfg.function ≠ d.function ∨ cfg.n ≠ d.n ∨ cfg.d ≠ d.d ∨ cfg.swing ≠ d.swing
        u.resolveCueEntry q e =
          if (u.chan n).running = true ∧ cfg.enabled = true ∧ grid then dueAt e.timing (lane.high + 1)
          else done true (gone.applyConfig n cfg .acceptance))))

/-- SELECT_LINE_CHANGE and STROBE_EDGE (R90 to R93): an edge within 1,920 steps of the last taken one changes nothing; a
taken edge samples the select lines, and the strobe mode names the lanes the recall is decided for, in order. -/
def Obligations.StrobeEdgeRecallsPreset : Prop := ∀ s : State,
  (∀ last, s.mode = .running → s.strobe.lastEdge = some last → since s.clock last < 1920 →
    exec .strobeEdge s = .next s) ∧
  (s.mode = .running → (∀ last, s.strobe.lastEdge = some last → 1920 ≤ since s.clock last) →
    let i := s.pins.sel.toFin
    let sampled := { s with strobe := ⟨s.strobe.mode, some s.clock, some (i, s.pins.lsel)⟩ }
    exec .strobeEdge s = .next (match s.strobe.mode with
      | .hostOnly => sampled
      | .laneA => sampled.strobeRecall i .a
      | .laneB => sampled.strobeRecall i .b
      | .byLine => sampled.strobeRecall i (if s.pins.lsel then .b else .a)
      | .both => (sampled.strobeRecall i .a).strobeRecall i .b)) ∧
  (∀ (i : Fin 16) (x : LaneId), let r := s.preset i
    let tempo := incrementToTempo r.increment
    s.strobeRecall i x =
      if (s.lane x).source ≠ .free then s.post (.presetIgnored x i .strobe .sourceNotFree)
      else if r.take = .immediate then (s.newTarget x r.increment r.glide).post (.presetTaken x i .strobe none tempo)
      else if (s.lane x).transport = .stopped then s.post (.presetIgnored x i .strobe .laneStopped)
      else if 24 ≤ s.queue.length then { s with link := { s.link with sticky :=
          { s.link.sticky with strobeDropped := true } } }
      else (s.addEntry (.preset i) x (.beat (r.take.takeMode.dueBeat (s.lane x)))
        (.tempo x r.increment r.glide)).post (.presetTaken x i .strobe (some s.nextId) tempo)) ∧
  (∀ (l : SelectLine) (high : Bool), ∃ pins, exec (.selectLineChange l high) s = .next { s with pins := pins } ∧
    (pins.sel.getLsbD 0 = if l = .sel0 then high else s.pins.sel.getLsbD 0) ∧
    (pins.sel.getLsbD 1 = if l = .sel1 then high else s.pins.sel.getLsbD 1) ∧
    (pins.sel.getLsbD 2 = if l = .sel2 then high else s.pins.sel.getLsbD 2) ∧
    (pins.sel.getLsbD 3 = if l = .sel3 then high else s.pins.sel.getLsbD 3) ∧
    (pins.lsel = if l = .lsel then high else s.pins.lsel))

/-! ## Trackers -/

/-- TAP (R46 to R48): the first test met sorts the tap as first tap, bounce, long gap, outlier or in sequence; a restart
keeps a LOCKED tracker's estimate and anchor and discards a SEARCHING one's; a tap in sequence keeps the most recent
eight intervals, forms the estimate, and locks the tracker at the third tap. -/
def Obligations.TapSorting : Prop := ∀ s : State, s.mode = .running →
  let t := s.tap
  let first : State := { s with tap := { t with
    last := some s.clock
    intervals := []
    estimate := if t.lock = .locked then t.estimate else none
    anchor := if t.lock = .locked then t.anchor else none } }
  (t.last = none → exec .tap s = .next first) ∧
  ∀ last, t.last = some last →
    let d := since s.clock last
    let n := t.intervals.length
    let all := t.intervals ++ [d]
    let list := all.drop (all.length - 8)
    let m := list.length
    let formed : TapTracker := { t with
      last := some s.clock
      intervals := list
      estimate := some (estimateOf m 1 list.sum)
      anchor := some s.clock }
    (d < 19200 → exec .tap s = .next s) ∧
    (288000 < d → exec .tap s = .next first) ∧
    (19200 ≤ d → d ≤ 288000 → t.intervals ≠ [] → t.intervals.sum < 4 * ((d : Int) * n - t.intervals.sum).natAbs →
      exec .tap s = .next first) ∧
    (19200 ≤ d → d ≤ 288000 →
      (t.intervals = [] ∨ 4 * ((d : Int) * n - t.intervals.sum).natAbs ≤ t.intervals.sum) →
      (m < 2 → t.lock = .locked →
        exec .tap s = .next { s with tap := { t with last := some s.clock, intervals := list } }) ∧
      (m < 2 → t.lock ≠ .locked → exec .tap s = .next { s with tap := formed }) ∧
      (2 ≤ m → t.lock = .locked → exec .tap s = .next ({ s with tap := formed }.trackerUpdate .tap)) ∧
      (2 ≤ m → t.lock ≠ .locked → exec .tap s =
        .next ({ s with tap := { formed with lock := .locked } }.becameLocked .tap .tap formed.estimate none)))

/-- REFCLK_PULSE and DBEAT_EDGE (R50 to R53): counting into beats, the first pulse after a restart, acquisition with
the lock test of a full window, the update of a LOCKED tracker, and the misaligned pulse. The anchor at the lock is the
step of the most recent beat-boundary pulse: the present step less the last c intervals of the window, c being the pulse
count (the model's reading of R51, log 10; so is the flag that keeps a restart until the next pulse). -/
def Obligations.ReferencePulses : Prop := ∀ s : State, s.mode = .running →
  let t := s.ref
  let marked := t.downbeat = true ∧ t.mark = true
  let first : RefTracker := { t with
    lastPulse := some s.clock
    count := 0
    beatInBar := 0
    mark := if marked then false else t.mark
    window := []
    anchor := if t.lock = .locked then some s.clock else t.anchor
    restart := false }
  let counted : RefTracker :=
    if marked then { t with count := 0, beatInBar := 0, mark := false }
    else if t.count + 1 < t.q then { t with count := t.count + 1 }
    else { t with count := 0, beatInBar := min 15 (t.beatInBar + 1) }
  (exec .dbeatEdge s = .next (if t.downbeat then { s with ref := { t with mark := true } } else s)) ∧
  (t.restart = true ∨ t.lastPulse = none → exec .refclkPulse s = .next { s with ref := first }) ∧
  ∀ last, t.restart = false → t.lastPulse = some last →
    let d := since s.clock last
    let recent (n : Nat) : List Nat := (t.window ++ [d]).drop ((t.window ++ [d]).length - n)
    let window := recent (2 * t.q)
    let acquired : RefTracker := { counted with lastPulse := some s.clock, window := window }
    let test := window.length = 2 * t.q ∧
      ∀ i ∈ window, 50 * ((i : Int) * window.length - window.sum).natAbs ≤ 3 * window.sum
    (t.lock ≠ .locked → 288000 < d → exec .refclkPulse s = .next { s with ref := first }) ∧
    (t.lock ≠ .locked → d ≤ 288000 → ¬ test → exec .refclkPulse s = .next { s with ref := acquired }) ∧
    (t.lock ≠ .locked → d ≤ 288000 → test → exec .refclkPulse s =
      .next ({ s with ref := { acquired with
          lock := .locked
          estimate := some (estimateOf (2 * t.q) t.q window.sum)
          anchor := some (s.clock - (window.drop (window.length - counted.count)).sum)
          holdoverStart := none } }.becameLocked .reference .reference
        (some (estimateOf (2 * t.q) t.q window.sum)) none)) ∧
    ∀ i, t.lock = .locked → t.estimate = some i →
      (2 ^ 48 < 4 * ((d * t.q * i : Nat) - (2 ^ 48 : Int)).natAbs → exec .refclkPulse s = .next (
        let ref : RefTracker := if t.realign then first else
          { counted with
            lastPulse := some s.clock
            window := []
            anchor := if counted.count = 0 then some s.clock else t.anchor }
        ({ s with
          ref := ref
          link := { s.link with sticky := { s.link.sticky with refMisaligned := true } } }).post .refMisaligned)) ∧
      (4 * ((d * t.q * i : Nat) - (2 ^ 48 : Int)).natAbs ≤ 2 ^ 48 → exec .refclkPulse s = .next (
        ({ s with ref := { counted with
          lastPulse := some s.clock
          window := recent (4 * t.q)
          estimate := some (estimateOf (recent (4 * t.q)).length t.q (recent (4 * t.q)).sum)
          anchor := if counted.count = 0 then some s.clock else t.anchor } }).trackerUpdate .reference))

/-- The four tracker expiries at the first steps at which their tests hold (R54, R60): HOLDOVER after two predicted
beats without a pulse or four beats without a frame, SEARCHING after 64 beats of HOLDOVER. The estimate that
SOURCE_SEARCHING reports (the one held until then for the reference tracker, absent for a bus tracker), the flag that
makes the next pulse a first pulse, and the most recent 2Q intervals kept at the holdover are the model's choices (log
10).

What the transitions of a source do (R43, R63, R66): one notice, and each lane that follows the source changes its
follow state; a lane that loses its source has r and p at 0 and the aligned flag clear, and a STOPPED lane made
FOLLOWING takes the estimate at once.

A START with JOIN that waits for a source which leaves LOCKED comes due at once and is carried out as a plain START; it
is IGNORED where its lane is RUNNING or has left the sources BUS and LANE (R79, R31). Its notices stand behind the
source's own (the model's choice, log 19). -/
def Obligations.TrackerExpiriesAndTransitions : Prop :=
  (∀ s : State, s.mode = .running →
  (∀ p i, s.ref.lock = .locked → s.ref.lastPulse = some p → s.ref.estimate = some i →
    2 * 2 ^ 48 < since s.clock p * i →
    exec .referenceHoldoverExpiry s = .next (
      { s with ref := { s.ref with
        lock := .holdover
        holdoverStart := some s.clock
        restart := true
        window := s.ref.window.drop (s.ref.window.length - 2 * s.ref.q) } }.becameHoldover
        .reference .reference (some i) none)) ∧
  (∀ h i, s.ref.lock = .holdover → s.ref.holdoverStart = some h → s.ref.estimate = some i →
    64 * 2 ^ 48 ≤ since s.clock h * i →
    exec .referenceSearchingExpiry s = .next (
      { s with ref := { s.ref with lock := .searching, estimate := none, anchor := none, holdoverStart := none } }.becameSearching
        .reference .reference (some i) none)) ∧
  ∀ n : Fin 8, let t := s.busTracker n
    (∀ f ref, t.lock = .locked → t.last = some (f, ref) → 4 * 2 ^ 48 < since s.clock ref * f.increment →
      exec (.busHoldoverExpiry n) s = .next (
        (s.setBusTracker n { t with lock := .holdover, holdoverStart := some s.clock }).becameHoldover
          (.bus n) (.bus n) t.estimate t.station)) ∧
    (∀ h i, t.lock = .holdover → t.holdoverStart = some h → t.estimate = some i →
      64 * 2 ^ 48 ≤ since s.clock h * i →
      exec (.busSearchingExpiry n) s = .next (
        (s.setBusTracker n { t with
          lock := .searching
          station := none
          estimate := none
          holdoverStart := none }).becameSearching (.bus n) (.bus n) none t.station))) ∧
  (∀ (s : State) (k : SourceKind) (subject : SourceSubject) (estimate : Option Nat) (station : Option (BitVec 10)),
  let tempo := match estimate with | some i => incrementToTempo i | none => 0
  let lost (l : Lane) : Lane :=
    if l.source = k ∧ l.follow = .following then
      { l with follow := .holdover, residual := 0, pullRate := 0, aligned := false }
    else l
  ((∀ e ∈ s.queue, ∀ x, e.joinsOn x k = false) →
    s.becameHoldover k subject estimate station = { s with
      laneA := lost s.laneA
      laneB := lost s.laneB
      link := (s.post (.sourceHoldover subject tempo station)).link } ∧
    s.becameSearching k subject estimate station = { s with
      laneA := lost s.laneA
      laneB := lost s.laneB
      link := (s.post (.sourceSearching subject tempo station)).link }) ∧
  (∀ (x : LaneId) (e : Entry) (before after : List Entry),
    s.queue = before ++ e :: after → s.idsDistinct → e.joinsOn x k = true →
    (∀ d ∈ before ++ after, ∀ z, d.joinsOn z k = false) →
    let gone (notice : NoticeBody) : State := { s with
      laneA := lost s.laneA
      laneB := lost s.laneB
      queue := before ++ after
      generation := s.generation + 1
      link := (s.post notice).link }
    let joined (u : State) : State :=
      if (s.lane x).transport = .running ∨ (∀ n, (s.lane x).source ≠ .bus n) ∧ (s.lane x).source ≠ .lane then
        u.postApplied e false
      else (u.startLane x).postApplied e true
    s.becameHoldover k subject estimate station = joined (gone (.sourceHoldover subject tempo station)) ∧
    s.becameSearching k subject estimate station = joined (gone (.sourceSearching subject tempo station))) ∧
  (k ≠ .lane → k ≠ .free →
    let found (x : LaneId) : Lane :=
      let l := s.lane x
      let follow := if l.follow = .holdover then FollowState.following else l.follow
      if l.source ≠ k then l
      else match s.sourceEstimate x with
        | some i =>
          if l.transport = .stopped ∧ follow = .following then { l with follow := follow, increment := i, glide := none }
          else { l with follow := follow }
        | none => { l with follow := follow }
    s.becameLocked k subject estimate station = { s with
      laneA := found .a
      laneB := found .b
      link := (s.post (.sourceLocked subject tempo station)).link }))

/-- JOIN_DUE of the oldest due START with JOIN (R31, R34, R78, R79): IGNORED on a RUNNING lane and where the lane's
source is neither BUS nor LANE; a start on the counters of the source the entry waits for where that is LOCKED; and a
plain START where it is not. That the source the entry waits for decides, and not the lane's source setting at that
step, is DEDUCED (log 8). The other lane keeps its record, but where it has the source LANE: then this start is its
source's lock (R61, R63), with SOURCE_LOCKED behind TRANSPORT_STARTED by the model's choice (log 19). -/
def Obligations.JoinComesDue : Prop := ∀ (s : State) (x : LaneId) (e : Entry) (w : JoinWait),
  s.mode = .running → s.dueJoin x = some e → e.due = .join w →
  let l := s.lane x
  let o := otherLane x
  let gone := s.removeEntry e.id
  let sourced := (∃ n, l.source = .bus n) ∨ l.source = .lane
  let lock : LockState := match w with
    | .bus n _ => (s.busTracker n).lock
    | .lane _ => if (s.lane o).transport = .running then .locked else .holdover
  let side : Option SourceSide := match w with
    | .bus n _ => (s.busTracker n).side s.clock
    | .lane _ => some (s.lane o).side
  (l.transport = .running ∨ ¬ sourced → exec (.joinDue x) s = .next (gone.postApplied e false)) ∧
  (l.transport = .stopped → sourced → lock ≠ .locked ∨ side = none →
    exec (.joinDue x) s = .next ((gone.startLane x).postApplied e true)) ∧
  (∀ src, l.transport = .stopped → sourced → lock = .locked → side = some src →
    let beat : U32 := BitVec.ofNat 32 (src.barInPhrase * src.beatsPerBar + src.beatInBar)
    ∃ t, exec (.joinDue x) s = .next (State.postApplied t e true) ∧
      t.lane x = { l with
        transport := .running
        pos := ⟨beat, 0⟩
        beatInBar := src.beatInBar % l.beatsPerBar
        barInPhrase := src.barInPhrase % l.barsPerPhrase
        barCount := BitVec.ofNat 32 src.barInPhrase
        phraseCount := 0
        high := beat
        residual := 0
        pullRate := 0
        aligned := false
        crossing := false
        copiedPull := 0 } ∧
      (∀ n, t.chan n = if (s.chan n).cfg.enabled ∧ (s.chan n).cfg.lane = x then (s.chan n).startAt ⟨beat, 0⟩
        else s.chan n) ∧
      ((s.lane o).source ≠ .lane → t.lane o = s.lane o ∧ t.link = (s.post (.transportStarted x .join)).link) ∧
      ((s.lane o).source = .lane →
        t.link = ((s.post (.transportStarted x .join)).post
          (.sourceLocked (.lane o) (incrementToTempo l.increment) none)).link ∧
        let follow := if (s.lane o).follow = .holdover then FollowState.following else (s.lane o).follow
        t.lane o = if (s.lane o).transport = .stopped ∧ follow = .following then
            { s.lane o with follow := follow, increment := l.increment, glide := none }
          else { s.lane o with follow := follow }) ∧
      t = { gone with laneA := t.laneA, laneB := t.laneB, channels := t.channels, link := t.link })

/-! ## Channels -/

/-- SET_CHANNEL (R103, R104, R70): the value checks and clamps, a lane change refused to a handover member, IMMEDIATE
taken as NEXT_BEAT for a grid change of a RUNNING channel that stays enabled, and the configuration applied at once or
made a CHANNEL entry timed by the channel's lane.

A configuration applied at acceptance (R105, R127, R128): a channel enabled on a RUNNING lane starts at the lane's
position, on a STOPPED lane it stays IDLE there; a disabled channel takes the new fields, and so does one that stays
enabled on its grid. -/
def Obligations.SetChannelRequest : Prop :=
  (∀ (s : State) (tag : Byte) (p : List Byte),
  RequestAtHead s 0x30 tag p → p.length = 18 →
  exec .setChannel s = .next (
    match indexOfByte 16 (byteAt p 0), configAt p 1, takeNoJoin p 15, laneOfByte (byteAt p 17) with
    | some n, some raw, some given, some _ =>
      let c := s.chan n
      let cfg : ChannelConfig := { raw with
        swing := max 50 (min 75 raw.swing)
        lead := min raw.lead 250000
        fixedMs := max 1 (min 50 raw.fixedMs) }
      let grid := cfg.lane ≠ c.cfg.lane ∨ cfg.function ≠ c.cfg.function ∨ cfg.n ≠ c.cfg.n ∨ cfg.d ≠ c.cfg.d ∨
        cfg.swing ≠ c.cfg.swing
      let take : TakeMode := if given = .immediate ∧ c.running = true ∧ cfg.enabled = true ∧ grid then .nextBeat
        else given
      if cfg.lane ≠ c.cfg.lane ∧ c.ho.isSome = true then answered s.takeHead 0x30 tag [0x21]
      else match schedulerRefusal s take c.cfg.lane with
        | some refusal => answered s.takeHead 0x30 tag [refusal]
        | none =>
          let out := scheduled s.takeHead take c.cfg.lane (.channel n cfg) (s.takeHead.applyConfig n cfg .acceptance)
          answered out.1 0x30 tag ((if raw ≠ cfg then 0x01 else 0x00) ::
            (out.2 ++ [BitVec.ofNat 8 cfg.swing] ++ bytesOf 3 cfg.lead ++ [BitVec.ofNat 8 cfg.fixedMs]))
    | _, _, _, _ => answered s.takeHead 0x30 tag [0x12])) ∧
  (∀ (s : State) (n : Fin 16) (cfg : ChannelConfig),
  let c := s.chan n
  let l := s.lane cfg.lane
  let t := s.applyConfig n cfg .acceptance
  (c.cfg.enabled = false → cfg.enabled = true → l.transport = .running →
    t = s.setChan n (Channel.startAt { c with cfg := cfg, evalLead := none } l.pos)) ∧
  (c.cfg.enabled = false → cfg.enabled = true → l.transport = .stopped →
    t = s.setChan n { c with
      cfg := cfg
      evalLead := none
      running := false
      origin := l.pos
      delta := 0
      emitted := 0
      owing := false
      pulseOwed := false
      barDue := false
      phraseDue := false
      mark := if l.pos.phase = 0 then l.pos.beat - 1 else l.pos.beat }) ∧
  (c.cfg.enabled = false → cfg.enabled = false → t = s.setChan n { c with cfg := cfg }) ∧
  (c.cfg.enabled = true → cfg.enabled = true → gridChange c.cfg cfg = false →
    t = s.setChan n { c with
      cfg := cfg
      barDue := c.barDue && cfg.barCodes
      phraseDue := c.phraseDue && cfg.barCodes }))

/-- CHANNEL_ENTRY_CROSSING (R75, R76, R105, R108, R110, R127): the first due CHANNEL entry leaves the queue, its
configuration is applied at its due beat and CHANGE_APPLIED is posted. A channel that stays enabled on the entry's
timing lane with its function is re-origined there; one that becomes enabled on a RUNNING lane starts with the due beat
for its origin.

A lead that the entry makes longer or shorter moves the projection by which the channel's further entries are judged from the
same step, those accepted or given a due beat later in the step among them. The entries whose crossing was known to be due when
this one was applied stay due at the step, so that entries due at the same beat are applied at the same step (R76).

Four points are the model's reading or choice. On a RUNNING channel whose evaluation of the step is still to be completed, the
lead that part 1 used is kept until it is (log 11: DEDUCED from R105 and R108), and no crossing that has come due in the step is
taken back (log 11: DEDUCED from R76). An entry that enables the channel on a lane other than its timing lane still has the due beat for the origin, and
no re-origin ahead (log 11: DESIGN CHOICE). A member of a break that the entry moves to the other lane has its old lane's
beats counted before the move (log 12: DEDUCED from R134). The first entry of the queue order is due only once the lanes it
reads have made their work of the step: its timing lane, the channel's lane, and the lane it names (log 3: DEDUCED from R20,
R76, R106 and R108). -/
def Obligations.ChannelEntryAppliesAtItsCrossing : Prop :=
  ∀ (s : State) (n : Fin 16) (e : Entry) (cfg : ChannelConfig) (y : U32),
  s.mode = .running → s.crossingDue n = some e → e.change = .channel n cfg → e.due = .beat y →
  let moves := (s.chan n).cfg.enabled = true ∧ cfg.enabled = true ∧ cfg.lane ≠ (s.chan n).cfg.lane
  let u := if moves then s.countBeats n else s
  let c := u.chan n
  let due := ((s.channelEntries n).filter fun k =>
    k.id != e.id && s.settledLane k.timing && s.entryReached n k).map (·.id)
  let kept : Channel := { c with
    evalLead := if c.running = true ∧ c.evaluated = false ∧ cfg.lead ≠ c.cfg.lead then some (c.evalLead.getD c.cfg.lead)
      else c.evalLead
    reached := due }
  let gone := (u.removeEntry e.id).setChan n kept
  let t := (gone.applyConfig n cfg (.crossing y e.timing)).postApplied e true
  exec (.channelEntryCrossing n) s = .next t ∧
  (c.cfg.enabled = true → cfg.enabled = true → c.cfg.lane = e.timing → cfg.lane = e.timing →
    cfg.function = c.cfg.function →
    gone.applyConfig n cfg (.crossing y e.timing) = gone.setChan n { kept with
      cfg := cfg
      origin := ⟨y, 0⟩
      delta := c.emitted
      owing := false
      barDue := c.barDue && cfg.barCodes
      phraseDue := c.phraseDue && cfg.barCodes }) ∧
  (c.cfg.enabled = false → cfg.enabled = true → (s.lane cfg.lane).transport = .running →
    gone.applyConfig n cfg (.crossing y e.timing) =
      gone.setChan n (Channel.startAt { kept with cfg := cfg, evalLead := none } ⟨y, 0⟩)) ∧
  s.settledLane e.timing = true ∧ (c.cfg.enabled = true → s.settledLane (s.chan n).cfg.lane = true) ∧
  (cfg.enabled = true → s.settledLane cfg.lane = true) ∧
  ((s.chan n).reached.contains e.id || (leadPosition (s.lane e.timing) (s.chan n).cfg.lead).reached y) = true ∧
  (t.chan n).cfg.lead = cfg.lead ∧
  (∀ k ∈ s.channelEntries n, k.id ≠ e.id → s.settledLane k.timing = true → s.entryReached n k = true →
    t.entryReached n k = true) ∧
  (∀ k z, k.due = .beat z → k.id ∉ due → t.entryReached n k = (leadPosition (t.lane k.timing) cfg.lead).reached z)

/-- What a configuration does to a channel beside its fields. A lane change (R106) re-origins the channel ahead on the
new lane, with the mark at the beat before; it runs as that lane does, with the start or stop action of a CODE channel
whose running state changes. A member in its break takes its mark afresh at the new origin, or at the beat before it
where its projection on the old lane stands half a beat or more past its last boundary (R134); on a STOPPED lane a
member leaves its record, which sees a stop and ends where it was the last (R139, R140). A change of function (R105)
cuts a pulse in flight and the codes of a CODE channel, and gives a RUNNING channel that is not halted the start action
of its new function. A grid change of an IDLE channel at acceptance re-origins it ahead from its lane's frozen position
(R105, R110).

Two points of these are the model's choice or reading (log 11). A change of function records the last level change only where
the new function is GATE, which no rule states (DESIGN CHOICE). The reference position, and the old lane's projection, are
taken with the lead of part 1 where an entry of the step has brought a RUNNING channel another (`evalLead`; DEDUCED from
R105 and R108), which is kept no longer once the evaluation is complete or the channel stops.

Disabling (R128, R129, R139, R154): the channel leaves its break record, which sees a cancel, and its handover record,
staying on its lane; each record ends with its notice where no member is left, BREAK_DONE before HANDOVER_DONE (the
model's choice, log 19). -/
def Obligations.ConfigurationChangesOfAChannel : Prop := ∀ (s : State) (n : Fin 16) (cfg : ChannelConfig) (at_ : ApplyAt),
  let c := s.chan n
  let t := s.applyConfig n cfg at_
  let marks (d : Channel) : Channel := { d with
    barDue := c.barDue && cfg.barCodes
    phraseDue := c.phraseDue && cfg.barCodes }
  (c.cfg.enabled = true → cfg.enabled = true → cfg.lane ≠ c.cfg.lane → cfg.function = c.cfg.function → at_ ≠ .switch →
    c.ho = none →
    let l := s.lane cfg.lane
    let old := leadPosition (s.lane c.cfg.lane) (c.evalLead.getD cfg.lead)
    let runs := decide (l.transport = .running)
    let reference := if runs then leadPosition l (c.evalLead.getD cfg.lead) else l.pos
    let o : Position := if reference.phase = 0 then reference else ⟨reference.beat + 1, 0⟩
    let moved (brk : Option BreakMembership) : State := s.setChan n { marks c with
      cfg := cfg
      brk := brk
      origin := o
      delta := c.emitted
      owing := false
      pulseOwed := false
      mark := o.beat - 1
      running := runs
      evalLead := if runs then c.evalLead else none
      slot := if cfg.function = .code ∧ runs = true ∧ c.running = false then some .start
        else if cfg.function = .code ∧ runs = false ∧ c.running = true then some .stop
        else c.slot }
    (runs = true → t = moved (match c.brk with
      | some ⟨q, .inBreak beats _⟩ =>
        some ⟨q, .inBreak beats (if 2 ^ 47 ≤ old.phase.toNat then o.beat - 1 else o.beat)⟩
      | other => other)) ∧
    (runs = false → t = match c.brk with
      | none => moved none
      | some m => match s.brk m.record with
        | none => moved none
        | some b =>
          if ∃ k, k ≠ n ∧ s.inBreakRecord m.record k = true then
            (moved none).setBrk m.record (some { b with stopSeen := true })
          else ((moved none).setBrk m.record none).post (.breakDone m.record .stopped b.mode b.set b.completed))) ∧
  (∀ y, c.cfg.enabled = true → cfg.enabled = true → cfg.lane = c.cfg.lane → cfg.function ≠ c.cfg.function →
    at_ = .crossing y c.cfg.lane →
    let old := c.cfg.function
    t = s.setChan n { marks c with
      cfg := cfg
      level := false
      lastPulse := if c.level = true ∧ (old = .tick ∨ old = .bar ∨ old = .phrase) then
          c.lastPulse.map fun p => (p.1, s.clock)
        else c.lastPulse
      lastChange := if cfg.function = .gate then some s.clock else c.lastChange
      pulseOwed := false
      fifo := if old = .code then [] else c.fifo
      tx := if old = .code then .idle else c.tx
      slot := if cfg.function = .code ∧ c.running = true ∧ s.halted n = false then some .start
        else if old = .code then none else c.slot
      origin := ⟨y, 0⟩
      delta := c.emitted
      owing := false }) ∧
  (c.cfg.enabled = true → cfg.enabled = true → cfg.lane = c.cfg.lane → cfg.function = c.cfg.function →
    gridChange c.cfg cfg = true → c.running = false → (s.lane cfg.lane).transport = .stopped → at_ = .acceptance →
    let p := (s.lane cfg.lane).pos
    t = s.setChan n { marks c with
      cfg := cfg
      origin := if p.phase = 0 then p else ⟨p.beat + 1, 0⟩
      delta := c.emitted
      owing := false }) ∧
  (c.cfg.enabled = true → cfg.enabled = false → at_ ≠ .switch →
    let off : Channel := { c with
      cfg := { cfg with lane := if c.ho.isSome = true ∨ c.switched = true then c.cfg.lane else cfg.lane }
      running := false
      level := false
      lastPulse := if c.level = true ∧ c.cfg.function.isPulse = true then c.lastPulse.map fun p => (p.1, s.clock)
        else c.lastPulse
      pulseOwed := false
      lastChange := some s.clock
      evalLead := none
      fifo := []
      slot := none
      tx := .idle
      brk := none
      ho := none }
    let broken : State := match c.brk with
      | none => s
      | some m => match s.brk m.record with
        | none => s
        | some b =>
          if ∃ k, k ≠ n ∧ s.inBreakRecord m.record k = true then s.setBrk m.record (some { b with cancelSeen := true })
          else (s.setBrk m.record none).post
            (.breakDone m.record (if b.stopSeen then .stopped else .cancelled) b.mode b.set b.completed)
    let left : State := match c.ho with
      | none => broken
      | some m => match s.ho m.record with
        | none => broken
        | some h =>
          if ∃ k, k ≠ n ∧ s.inHandoverRecord m.record k = true then broken
          else (broken.setHo m.record none).post
            (.handoverDone m.record h.doneOutcome h.fromLane h.toLane h.set h.switched h.switchBeat)
    t = left.setChan n off)

/-- PULSE_BEGIN, BAR_PULSE_BEGIN and PULSE_END (R108, R115, R116, R120): a TICK channel whose target count is ahead
begins a pulse, on time or as a catch-up of 48 steps, and E increases by one; a BAR or PHRASE channel begins the pulse
it owes; a pulse ends at its end step. 48 steps pass from the end of a pulse to the next one (R18, R115, R120), but for a
TICK channel that has had no pulse since it last started (R115). The rest of the channel's evaluation, its projected beat
mark and its owing flag, is completed with the pulse, and nothing else changes. That the projected beat mark rises for every function, and the
flag that holds whether there has been a pulse since the start, are the model's choices (log 11). That the evaluation's
end is the end of the lead kept for it is DEDUCED (log 11). -/
def Obligations.PulsesBeginAndEnd : Prop := ∀ (s : State) (n : Fin 16), s.mode = .running →
  let c := s.chan n
  let l := s.laneOf n
  let x := (s.projection n).beat
  let target := s.targetCount n
  let gap := ∀ b e, c.lastPulse = some (b, e) → 48 ≤ since s.clock e
  let mark := if 0 < ahead x c.mark then x else c.mark
  (s.atPartFive n = true → c.cfg.function = .tick → s.muted n = false → 0 < ahead target c.emitted →
    c.level = false → gap ∨ c.pulsed = false →
    let width := if c.owing = false ∧ ahead target c.emitted = 1 then
        pulseWidth c.cfg.width c.cfg.fixedMs (2 ^ 48 * c.cfg.d) (l.increment * c.cfg.n)
      else 48
    exec (.pulseBegin n) s = .next (s.setChan n { c with
      level := true
      lastPulse := some (s.clock, s.clock + width)
      pulsed := true
      emitted := c.emitted + 1
      mark := mark
      owing := decide (0 < ahead target (c.emitted + 1))
      evaluated := true
      evalLead := none })) ∧
  (c.cfg.function = .tick → ¬ gap → c.pulsed = true → exec (.pulseBegin n) s = .next s) ∧
  (∀ units, s.atPartFive n = true →
    (c.cfg.function = .bar ∧ units = 2 ^ 48 * l.beatsPerBar ∨
      c.cfg.function = .phrase ∧ units = 2 ^ 48 * l.beatsPerBar * l.barsPerPhrase) →
    (c.pulseOwed = true ∨ 0 < ahead x c.mark ∧ startCrossed c.cfg.function l c.mark x = true) →
    s.muted n = false → s.halted n = false → s.held n = false → c.level = false → gap →
    exec (.barPulseBegin n) s = .next (s.setChan n { c with
      level := true
      lastPulse := some (s.clock, s.clock + pulseWidth c.cfg.width c.cfg.fixedMs units l.increment)
      pulsed := true
      pulseOwed := false
      mark := mark
      owing := decide (0 < ahead target c.emitted)
      evaluated := true
      evalLead := none })) ∧
  (∀ b e, c.level = true → c.cfg.function.isPulse = true → c.lastPulse = some (b, e) → e ≤ s.clock →
    exec (.pulseEnd n) s = .next (s.setChan n { c with level := false }))

/-- GATE_LEVEL_CHANGE (R117, R118, R133): a GATE line takes its wanted level once 960 steps have passed since the last
level change, or where there has been none, and the change is recorded; that of a RUNNING channel at part 5 of its evaluation,
once nothing of part 2 can still fall due at the step (R108).

TICK_CODE_QUEUED, SLOT_MOVE, CHARACTER_END and CHARACTER_BEGIN (R122 to R125): a tick is queued with the bar codes
due before it once the slot is empty and the FIFO has room; the transport item moves into the FIFO as a whole; and the
transmitter takes the oldest character, which lasts 75, 50 or 25 thirds of a step. That the evaluation moves the projected
beat mark even with bar codes off is the model's choice, and that its end is the end of the lead kept for it is DEDUCED
(log 11).

The pin of a channel of the running part (R101, R122): a channel of any other function shows its level through its polarity; a
CODE line is high when idle, and otherwise at the bit of its character that the phase step falls in (log 17: DEDUCED), a
low start bit, the eight data bits, the least significant first, and a high stop bit. A channel that is disabled stands at the
inactive level of its polarity, or high where its function is CODE, and a change of polarity inverts the pin. -/
def Obligations.GatesAndCodeLines : Prop :=
  (∀ (s : State) (n : Fin 16),
  let c := s.chan n
  let wanted := c.running && !s.halted n && !s.muted n
  s.mode = .running → s.partTwoDone n = true → c.cfg.function = .gate → wanted ≠ c.level →
  (∀ t, c.lastChange = some t → 960 ≤ since s.clock t) →
  exec (.gateLevelChange n) s = .next (s.setChan n { c with level := wanted, lastChange := some s.clock })) ∧
  (∀ (s : State) (n : Fin 16), s.mode = .running →
  let c := s.chan n
  let thirds := match c.cfg.codeRate with | .r38400 => 75 | .r57600 => 50 | .r115200 => 25
  (s.atPartFive n = true → c.cfg.function = .code → s.muted n = false → 0 < ahead (s.targetCount n) c.emitted →
    c.slot = none →
    let d := s.crossed n
    let codes : List Byte := (if d.phraseDue then [0xD6] else []) ++ (if d.barDue then [0xD5] else []) ++ [0xD1]
    c.fifo.length + codes.length ≤ 8 →
    exec (.tickCodeQueued n) s = .next (s.setChan n { c with
      fifo := c.fifo ++ codes
      barDue := false
      phraseDue := false
      emitted := c.emitted + 1
      mark := if 0 < ahead (s.projection n).beat c.mark then (s.projection n).beat else c.mark
      owing := decide (0 < ahead (s.targetCount n) (c.emitted + 1))
      evaluated := true
      evalLead := none })) ∧
  (∀ item codes, c.slot = some item → s.muted n = false →
    codes = (match item with
      | .start => [0xD2#8]
      | .stop => [0xD3#8]
      | .resume p => [0xD8#8, BitVec.ofNat 8 (p % 128), BitVec.ofNat 8 (p % 16384 / 128), 0xD4#8]
      | .position p => [0xD8#8, BitVec.ofNat 8 (p % 128), BitVec.ofNat 8 (p % 16384 / 128)]) →
    c.fifo.length + codes.length ≤ 8 →
    exec (.slotMove n) s = .next (s.setChan n { c with fifo := c.fifo ++ codes, slot := none })) ∧
  (∀ ch age len, c.tx = .sending ch age len → len ≤ age → exec (.characterEnd n) s = .next (s.setChan n
    (match c.fifo with
      | [] => { c with tx := .idle }
      | next :: rest => { c with fifo := rest, tx := .sending next (age - len) thirds }))) ∧
  (∀ next rest, c.tx = .idle → c.fifo = next :: rest → exec (.characterBegin n) s = .next (s.setChan n
    { c with fifo := rest, tx := .sending next 0 thirds }))) ∧
  (∀ (s : State) (n : Fin 16), s.mode = .running →
  let c := s.chan n
  (c.cfg.function ≠ .code → s.pin n = if c.cfg.polarity = .normal then c.level else !c.level) ∧
  (c.cfg.function = .code → c.tx = .idle → s.pin n = true) ∧
  (∀ ch age len bit, c.cfg.function = .code → c.tx = .sending ch age len → bit < 10 →
    bit * len ≤ 10 * age → 10 * age < (bit + 1) * len →
    s.pin n = if bit = 0 then false else if bit = 9 then true else ch.getLsbD (bit - 1)) ∧
  (∀ cfg at_, c.cfg.enabled = true → cfg.enabled = false →
    (s.applyConfig n cfg at_).pin n = decide (cfg.function = .code ∨ cfg.polarity = .inverted)) ∧
  (∀ cfg at_, c.cfg.enabled = true → cfg.enabled = true → cfg.function = c.cfg.function → cfg.function ≠ .code →
    cfg.polarity ≠ c.cfg.polarity → (s.applyConfig n cfg at_).pin n = !s.pin n))

/-! ## Breaks and handovers -/

/-- START_BREAK (R131, R132): the checks in their order; the lowest FREE record takes the break, every channel of the
set becomes a WAITING member, and the due is a beat, a cue line or absent.

A break opened in record `r` (R131, R132): the record WAITING with what the request gave, and its members; a member
enters at once for IMMEDIATE and where its projection on the timing lane already stands at or past the due beat. -/
def Obligations.StartBreakRequest : Prop :=
  (∀ (s : State) (tag : Byte) (p : List Byte),
  RequestAtHead s 0x38 tag p → p.length = 8 →
  let set : ChannelSet := BitVec.ofNat 16 (fieldAt p 0 2)
  exec .startBreak s = .next (
    match breakModeOfByte (byteAt p 2), inRange 1 256 (fieldAt p 3 2), takeNoJoin p 5, laneOfByte (byteAt p 7) with
    | some mode, some length, some take, some timing =>
      if set = 0 ∨ ∃ n, inSet set n = true ∧ (s.chan n).cfg.enabled = false then answered s.takeHead 0x38 tag [0x12]
      else if ∃ n, inSet set n = true ∧ (s.chan n).brk.isSome = true then answered s.takeHead 0x38 tag [0x21]
      else if (∃ n, inSet set n = true ∧ (s.laneOf n).transport = .stopped) ∨
          take.isBoundary = true ∧ (s.lane timing).transport = .stopped then answered s.takeHead 0x38 tag [0x20]
      else match s.freeBreak with
        | none => answered s.takeHead 0x38 tag [0x23]
        | some r => answered (s.takeHead.openBreak r set mode length take timing) 0x38 tag
            [0x00, BitVec.ofNat 8 r.val]
    | _, _, _, _ => answered s.takeHead 0x38 tag [0x12])) ∧
  (∀ (s : State) (r : Fin 4) (set : ChannelSet) (mode : BreakMode) (length : Nat) (take : TakeMode) (timing : LaneId),
  let t := s.openBreak r set mode length take timing
  let due : BreakDue := match take with
    | .immediate => .absent
    | .cue c => .cue c
    | m => .beat (m.dueBeat (s.lane timing))
  let past (n : Fin 16) : Bool := match due with
    | .beat y => ((s.chan n).projectedOn (s.lane timing)).reached y
    | _ => decide (take = .immediate)
  (∀ n m, (s.chan n).brk = some m → m.record ≠ r) →
  (∀ q, t.brk q = if q = r then some ⟨false, set, mode, length, timing, due, false, 0, false, false⟩ else s.brk q) ∧
  (∀ n, t.chan n = if inSet set n = true then { s.chan n with brk := some ⟨r, .waiting (past n)⟩ } else s.chan n) ∧
  t = { s with breaks := t.breaks, channels := t.channels })

/-- CANCEL_BREAK (R138, R140): an index above 3 and a FREE record are refused. A MUTE record ends at once for all its
members and a HALT record without members in the break ends at once, with BREAK_DONE; a HALT record keeps its members
in the break with cancel pending; a second cancel changes nothing. -/
def Obligations.CancelBreakRequest : Prop := ∀ (s : State) (tag : Byte) (p : List Byte),
  RequestAtHead s 0x39 tag p → p.length = 1 →
  (4 ≤ byteAt p 0 → exec .cancelBreak s = .next (answered s.takeHead 0x39 tag [0x12])) ∧
  ∀ r : Fin 4, byteAt p 0 = r.val →
    (s.brk r = none → exec .cancelBreak s = .next (answered s.takeHead 0x39 tag [0x20])) ∧
    ∀ b, s.brk r = some b →
      let inBreak (n : Fin 16) : Prop := ∃ k y, (s.chan n).brk = some ⟨r, .inBreak k y⟩
      (b.cancelPending = true → exec .cancelBreak s = .next (answered s.takeHead 0x39 tag [0x00])) ∧
      (b.cancelPending = false → (b.mode = .mute ∨ ∀ n, ¬ inBreak n) →
        ∃ t, exec .cancelBreak s = .next (answered t 0x39 tag [0x00]) ∧
          (∀ q, t.brk q = if q = r then none else s.brk q) ∧
          (∀ n, t.chan n = if s.inBreakRecord r n = true then { s.chan n with brk := none } else s.chan n) ∧
          t = { s.takeHead with
            breaks := t.breaks
            channels := t.channels
            link := (s.takeHead.post (.breakDone r (if b.stopSeen then .stopped else .cancelled) b.mode b.set
              b.completed)).link }) ∧
      (b.cancelPending = false → b.mode = .halt → (∃ n, inBreak n) →
        ∃ t, exec .cancelBreak s = .next (answered t 0x39 tag [0x00]) ∧
          (∀ q, t.brk q = if q = r then some { b with cancelSeen := true, cancelPending := true } else s.brk q) ∧
          (∀ n once, (s.chan n).brk = some ⟨r, .waiting once⟩ → t.chan n = { s.chan n with brk := none }) ∧
          (∀ n, (∀ once, (s.chan n).brk ≠ some ⟨r, .waiting once⟩) → t.chan n = s.chan n) ∧
          t = { s.takeHead with breaks := t.breaks, channels := t.channels })

/-- BREAK_ENTRY (R132, R133, R136): a WAITING member enters at once or where its projection on the timing lane reaches
the due beat. Its beats remaining take the length, its mark the due beat at its own lane's crossing and the beat of its
projection otherwise; the mode acts on it, the record becomes ACTIVE, and nothing else changes. Either mode clears the
bar code marks of a CODE member and keeps those of any other. A switch of the member due at the same step comes first
(R151). A crossing belongs to the evaluation of the step, so that one which falls due
after it waits for the next (R108; DEDUCED, log 6). -/
def Obligations.BreakEntryOfAMember : Prop :=
  ∀ (s : State) (n : Fin 16) (r : Fin 4) (once : Bool) (b : BreakRecord),
  let c := s.chan n
  s.mode = .running → s.laneA.crossing = false → s.laneB.crossing = false → s.switchDue n = false →
  c.brk = some ⟨r, .waiting once⟩ → s.brk r = some b →
  (once = true ∨ c.evaluated = false ∧ ∃ y, b.due = .beat y ∧ (c.projectedOn (s.lane b.timing)).reached y = true) →
  let own := (s.projection n).beat
  let mark := match b.due with
    | .beat y => if once = false ∧ c.cfg.lane = b.timing then y else own
    | _ => own
  let code := c.cfg.function = .code
  ∃ t, exec (.breakEntry n) s = .next t ∧
    (∀ q, t.brk q = if q = r then some { b with active := true } else s.brk q) ∧
    (∀ m, m ≠ n → t.chan m = s.chan m) ∧
    (b.mode = .mute → t.chan n = { c with
      brk := some ⟨r, .inBreak b.length mark⟩
      pulseOwed := false
      fifo := if code then [] else c.fifo
      barDue := if code then false else c.barDue
      phraseDue := if code then false else c.phraseDue }) ∧
    (b.mode = .halt → t.chan n = { c with
      brk := some ⟨r, .inBreak b.length mark⟩
      pulseOwed := false
      owing := false
      barDue := if code then false else c.barDue
      phraseDue := if code then false else c.phraseDue
      slot := if code then some .stop else c.slot }) ∧
    t = { s with breaks := t.breaks, channels := t.channels }

/-- BREAK_END (R134, R135, R137, R138, R140): a member whose beats crossed use up its beats remaining ends COMPLETE at
the mark plus the beats remaining, and a member of a cancelled HALT at the mark plus one. A HALT member is re-origined
there with its function's end action, a MUTE member just stops being muted, and the record ends with BREAK_DONE when no
other member is left. A switch of the member due at the same step comes first, and its to-lane has made its advance and
boundary work (R151). The end belongs to the evaluation of the step (R108; DEDUCED, log 6). -/
def Obligations.BreakEndOfAMember : Prop :=
  ∀ (s : State) (n : Fin 16) (r : Fin 4) (beats : Nat) (mark : U32) (b : BreakRecord) (y : U32) (complete : Bool),
  let c := s.chan n
  let l := s.laneOf n
  let k := ahead (s.projection n).beat mark
  s.mode = .running → c.running = true → c.evaluated = false → l.crossing = false → s.switchSettled n = true → s.switchDue n = false →
  c.brk = some ⟨r, .inBreak beats mark⟩ → s.brk r = some b → 0 < k →
  (b.mode = .halt ∧ b.cancelPending = true ∧ y = mark + 1 ∧ complete = false ∨
    ¬ (b.mode = .halt ∧ b.cancelPending = true) ∧ (beats : Int) ≤ k ∧ y = mark + BitVec.ofNat 32 beats ∧
      complete = true) →
  let completed := if complete then addTo b.completed n else b.completed
  let others := ∃ m, m ≠ n ∧ s.inBreakRecord r m = true
  ∃ t, exec (.breakEnd n) s = .next t ∧
    (∀ m, m ≠ n → t.chan m = s.chan m) ∧
    (b.mode = .mute → t.chan n = { c with brk := none }) ∧
    (b.mode = .halt → t.chan n = { c with
      brk := none
      origin := ⟨y, 0⟩
      delta := c.emitted
      owing := false
      slot := if c.cfg.function = .code then some (.resume (barCountAt l y)) else c.slot
      pulseOwed := match c.cfg.function with
        | .bar => isStart .bar l y
        | .phrase => isStart .phrase l y
        | _ => c.pulseOwed }) ∧
    (others → (∀ q, t.brk q = if q = r then some { b with completed := completed } else s.brk q) ∧
      t.link = s.link) ∧
    (¬ others → (∀ q, t.brk q = if q = r then none else s.brk q) ∧
      t.link = (s.post (.breakDone r (if b.stopSeen then .stopped else if b.cancelSeen then .cancelled else .complete)
        b.mode b.set completed)).link) ∧
    t = { s with breaks := t.breaks, channels := t.channels, link := t.link }

/-- START_HANDOVER (R143, R145): the checks in their order; the lowest FREE record takes the handover with every channel
of the set a member, WAITING_ALIGN for ALIGNED and SWITCH_DUE with its switch beat for CUT. A boundary of this step that
still waits to be measured does not measure it (R146).

CANCEL_HANDOVER (R155, R156): an index above 3 and a FREE record are refused; otherwise the remaining members become
plain channels of the from-lane, the record is FREE, and HANDOVER_DONE is posted with CANCELLED. -/
def Obligations.HandoverRequests : Prop :=
  (∀ (s : State) (tag : Byte) (p : List Byte),
  RequestAtHead s 0x48 tag p → p.length = 7 →
  let set : ChannelSet := BitVec.ofNat 16 (fieldAt p 0 2)
  (exec .startHandover s = .next (
    match laneOfByte (byteAt p 2), handoverModeOf (byteAt p 3), alignLengthOf (byteAt p 4), windowOf (byteAt p 5),
      inRange 1 64 (byteAt p 6) with
    | some x, some mode, some align, some window, some deadline =>
      if set = 0 ∨ ∃ n, inSet set n = true ∧ ((s.chan n).cfg.enabled = false ∨ (s.chan n).cfg.lane = x) then
        answered s.takeHead 0x48 tag [0x12]
      else if ∃ n, inSet set n = true ∧ (s.chan n).ho.isSome = true then answered s.takeHead 0x48 tag [0x21]
      else if s.laneA.transport = .stopped ∨ s.laneB.transport = .stopped then answered s.takeHead 0x48 tag [0x20]
      else match s.freeHandover with
        | none => answered s.takeHead 0x48 tag [0x23]
        | some r => answered (s.takeHead.openHandover r set x mode align window deadline) 0x48 tag
            [0x00, BitVec.ofNat 8 r.val]
    | _, _, _, _, _ => answered s.takeHead 0x48 tag [0x12])) ∧
  ∀ (u : State) (r : Fin 4) (x : LaneId) (align : AlignLength) (window : Window) (deadline : Nat),
    let told : State := { u with known := u.known.map fun (k : KnownBoundary) => { k with later := r :: k.later } }
    let members := told.forChannels fun n t =>
      if inSet set n then t.modChan n fun c => { c with ho := some ⟨r, false⟩ } else t
    u.openHandover r set x .aligned align window deadline =
      members.setHo r (some ⟨.waitingAlign, set, 0, x, .aligned, align, window, deadline, none⟩) ∧
    u.openHandover r set x .cut align window deadline =
      members.setHo r (some ⟨.switchDue .cut (members.switchBeatFor r x (members.lane x).pos.beat align) none, set, 0, x, .cut, align, window,
        deadline, none⟩)) ∧
  (∀ (s : State) (tag : Byte) (p : List Byte),
  RequestAtHead s 0x49 tag p → p.length = 1 →
  (4 ≤ byteAt p 0 → exec .cancelHandover s = .next (answered s.takeHead 0x49 tag [0x12])) ∧
  ∀ r : Fin 4, byteAt p 0 = r.val →
    (s.ho r = none → exec .cancelHandover s = .next (answered s.takeHead 0x49 tag [0x20])) ∧
    ∀ h, s.ho r = some h → ∃ t, exec .cancelHandover s = .next (answered t 0x49 tag [0x00]) ∧
      (∀ q, t.ho q = if q = r then none else s.ho q) ∧
      (∀ n, t.chan n = if s.inHandoverRecord r n = true then { s.chan n with ho := none } else s.chan n) ∧
      t = { s.takeHead with
        handovers := t.handovers
        channels := t.channels
        link := (s.takeHead.post (.handoverDone r .cancelled h.fromLane h.toLane h.set h.switched h.switchBeat)).link })

/-- MEMBER_HOLD and MEMBER_SWITCH (R150 to R153): a member whose projection on its lane reaches the from-lane switch
beat is held; a member whose projection on the to-lane reaches the switch beat moves there, is re-origined with its
function's action, joins the switched set and leaves its record, which ends with HANDOVER_DONE when no member is left.

Both are made in the evaluation of the step (R108, R151), so that one which falls due after it, by a change of tempo or
lead, waits for the next evaluation (DEDUCED, log 6).

A member in a break has the beats that it has crossed on its old lane by that step counted, but for a completing count
or a HALT end (R134, R151; DEDUCED, log 12). It takes its mark afresh, at the switch beat or at the beat before it where
its projection on the old lane stands half a beat or more past its last boundary, and owes no pulse; its break is judged
after the switch (R134, R151): an entry first, and then its beats are counted, and its break ends where they use it up.
The waiting CHANNEL entries (R77) are applied first, one after another, their lane fields making no lane change; an
entry that disables the member is applied after the switch, on the to-lane (R129). -/
def Obligations.MembersHoldAndSwitch : Prop :=
  ∀ (s : State) (n : Fin 16) (r : Fin 4) (h : HandoverRecord) (held : Bool) (o : SwitchOutcome) (y : U32)
    (yFrom : Option U32),
  let c := s.chan n
  let x := h.toLane
  s.mode = .running → c.running = true → (s.laneOf n).crossing = false → c.ho = some ⟨r, held⟩ → s.ho r = some h →
  h.stage = .switchDue o y yFrom →
  (c.evaluated = true → exec (.memberHold n) s = .next s ∧ exec (.memberSwitch n) s = .next s) ∧
  (c.evaluated = false →
  (∀ yf, yFrom = some yf → held = false → (s.projection n).reached yf = true → (s.lane x).crossing = false →
    s.switchDue n = false → exec (.memberHold n) s = .next (s.setChan n { c with ho := some ⟨r, true⟩ })) ∧
  ((s.lane x).transport = .running → (s.lane x).crossing = false → (c.projectedOn (s.lane x)).reached y = true →
    let l := s.lane x
    let quiet := s.muted n || s.halted n
    let position := c.cfg.function = .code ∧ c.cfg.barCodes = true
    let switched := addTo h.switched n
    let moved : State := (s.setHo r (some { h with switched := switched })).setChan n { c with
      cfg := { c.cfg with lane := x }
      brk := match c.brk with
        | some ⟨q, .inBreak beats mark⟩ =>
          let crossed := (ahead (s.projection n).beat mark).toNat
          some ⟨q, .inBreak (if s.breakEndAt n = none then beats - crossed else beats)
            (if 2 ^ 47 ≤ (s.projection n).phase.toNat then y - 1 else y)⟩
        | other => other
      ho := none
      switched := true
      origin := ⟨y, 0⟩
      delta := c.emitted
      owing := false
      mark := y - 1
      pulseOwed := match c.cfg.function with
        | .bar => isStart .bar l y && !quiet
        | .phrase => isStart .phrase l y && !quiet
        | _ => false
      barDue := if position then false else c.barDue
      phraseDue := if position then false else c.phraseDue
      slot := if position then
          match c.slot with
          | none => some (.position (barCountAt l y))
          | some (.position _) => some (.position (barCountAt l y))
          | other => other
        else c.slot }
    let done (u : State) : State := if ∃ m, m ≠ n ∧ s.inHandoverRecord r m = true then u
      else (u.setHo r none).post (.handoverDone r (match o with | .aligned => .aligned | .forced => .forced | .cut => .cut)
        h.fromLane h.toLane h.set switched (some y))
    (s.channelEntries n = [] → exec (.memberSwitch n) s = .next (done (moved.judgeBreak n)) ∧
      (c.brk = none → moved.judgeBreak n = moved)) ∧
    (∀ e rest cfg, s.channelEntries n = e :: rest → s.idsDistinct → e.change = .channel n cfg → c.cfg.enabled = true →
      let applied (u : State) : State :=
        (((u.removeEntry e.id).modChan n (·.keepLead cfg.lead)).applyConfig n cfg .switch).postApplied e true
      (cfg.enabled = true → exec (.memberSwitch n) s = exec (.memberSwitch n) (applied s)) ∧
      (cfg.enabled = false → rest = [] → exec (.memberSwitch n) s = .next (done (applied moved))) ∧
      (cfg.enabled = true → cfg.function = c.cfg.function → applied s =
        State.postApplied ((s.removeEntry e.id).setChan n { c.keepLead cfg.lead with
          cfg := { cfg with lane := c.cfg.lane }
          barDue := c.barDue && cfg.barCodes
          phraseDue := c.phraseDue && cfg.barCodes }) e true)))) ∧
  (∀ u : State, u.mode = .running →
    (u.entryOfBreakDue n = true → ∃ v, exec (.breakEntry n) u = .next v ∧ u.judgeBreak n = v.judgeBreak n) ∧
    (u.entryOfBreakDue n = false → u.judgeBreak n = if u.judged n then u.countBeats n else u) ∧
    (u.judged n = true → u.breakEndAt n ≠ none → exec (.breakEnd n) u = .next (u.countBeats n)) ∧
    (∀ q beats mark, u.judged n = true → u.breakEndAt n = none → (u.chan n).brk = some ⟨q, .inBreak beats mark⟩ →
      let crossed := ahead (u.projection n).beat mark
      u.countBeats n = if 0 < crossed then
          u.setChan n { u.chan n with brk := some ⟨q, .inBreak (beats - crossed.toNat) (u.projection n).beat⟩ }
        else u))

/-- The measurement of an ALIGNED record in WAITING_ALIGN at a boundary of its to-lane (R146): the residual between the
lanes, NEAREST, with the from-lane's unit, replaces the record's last one. Any other record is left as it is. The test
and the deadline (R147, R148): within the window the record becomes SWITCH_DUE, ALIGNED, with the switch beat and the
from-lane switch beat; outside it a bar boundary counts the deadline down, and at 0 the switch is FORCED with the unit
BAR.

The switch beat (R144): the first of the candidates of R71 above H, in steps of the unit, that stands above the beat of
every member's projection on the to-lane; for lanes and projections within 2^29 beats of one another (R2). That it is
counted from the beat the counters stand at, also where the lane has jumped past it, is the model's reading (log 7:
DEDUCED).

A boundary whose from-lane has still its own work of the step to do waits for it, and measures then every record but
those opened since, which the next boundary measures first (R146). -/
def Obligations.HandoverMeasurementAndTest : Prop :=
  (∀ (s : State) (k : KnownBoundary) (at_ : U32) (r : Fin 4),
  (∀ h, s.ho r = some h → h.toLane ≠ k.lane ∨ h.stage ≠ .waitingAlign → s.measure k at_ r = s) ∧
  (s.ho r = none → s.measure k at_ r = s) ∧
  ∀ h, s.ho r = some h → h.toLane = k.lane → h.stage = .waitingAlign →
    let f := s.lane (otherLane k.lane)
    let L : Nat := match h.alignLength with
      | .beat => 2 ^ 48
      | .bar => f.beatsPerBar * 2 ^ 48
      | .phrase => f.beatsPerBar * f.barsPerPhrase * 2 ^ 48
    let d : Int := (relPosition h.alignLength k.beatInBar k.barInPhrase k.beatsPerBar k.phase : Int)
      - relPosition h.alignLength f.beatInBar f.barInPhrase f.beatsPerBar f.pos.phase
    let residual := d - (d + (L : Int) / 2) / L * L
    let window : Nat := match h.window with
      | .w64 => 2 ^ 48 / 64
      | .w32 => 2 ^ 48 / 32
      | .w16 => 2 ^ 48 / 16
      | .w8 => 2 ^ 48 / 8
    let nearest := if f.pos.phase.toNat < 2 ^ 47 then f.pos.beat else f.pos.beat + 1
    let now (g : HandoverRecord) : State := s.setHo r (some { g with residual := some residual })
    let y := s.switchBeatFor r k.lane at_ h.alignLength
    (residual.natAbs ≤ window → s.measure k at_ r =
      now { h with stage := .switchDue .aligned y (some (nearest + (y - k.index))) }) ∧
    (window < residual.natAbs → k.bar = false → s.measure k at_ r = now h) ∧
    (window < residual.natAbs → k.bar = true → 1 < h.deadline →
      s.measure k at_ r = now { h with deadline := h.deadline - 1 }) ∧
    (window < residual.natAbs → k.bar = true → h.deadline ≤ 1 → s.measure k at_ r =
      now { h with deadline := 0, stage := .switchDue .forced (s.switchBeatFor r k.lane at_ .bar) none })) ∧
  (∀ (s : State) (r : Fin 4) (x : LaneId) (at_ : U32) (len : AlignLength),
    let l := s.lane x
    let unit := match len with
      | .beat => 1
      | .bar => l.beatsPerBar
      | .phrase => l.beatsPerBar * l.barsPerPhrase
    let first := match len with
      | .beat => l.high + 1
      | .bar => at_ + BitVec.ofNat 32 (l.beatsPerBar - l.beatInBar)
      | .phrase => at_ + BitVec.ofNat 32 ((l.barsPerPhrase - l.barInPhrase) * l.beatsPerBar - l.beatInBar)
    let above (y : U32) : Prop := 0 < ahead y l.high ∧ ∀ n, s.inHandoverRecord r n = true →
      0 < ahead y ((s.chan n).projectedOn l).beat
    l.countersLegal → -2 ^ 29 < ahead l.high at_ → ahead l.high at_ < 2 ^ 29 →
    (∀ n, s.inHandoverRecord r n = true → -2 ^ 29 < ahead ((s.chan n).projectedOn l).beat l.high ∧
      ahead ((s.chan n).projectedOn l).beat l.high < 2 ^ 29) →
    ∃ m : Nat, s.switchBeatFor r x at_ len = first + BitVec.ofNat 32 (m * unit) ∧
      above (first + BitVec.ofNat 32 (m * unit)) ∧
      ∀ j < m, ¬ above (first + BitVec.ofNat 32 (j * unit))) ∧
  (∀ (s : State) (x : LaneId) (index at_ : U32) (bar : Bool),
    let l := s.lane x
    let k : KnownBoundary := ⟨x, index, bar, l.beatInBar, l.barInPhrase, l.beatsPerBar, l.pos.phase, []⟩
    ((s.lane (otherLane x)).crossing = true → s.makeKnown x index at_ bar = { s with known := s.known ++ [k] }) ∧
    ((s.lane (otherLane x)).crossing = false → s.makeKnown x index at_ bar =
      (((s.measure k at_ 0).measure k at_ 1).measure k at_ 2).measure k at_ 3)) ∧
  (∀ (s : State) (k : KnownBoundary), s.known = [k] →
    ((s.lane (otherLane k.lane)).crossing = true → s.measureKnown = s) ∧
    ((s.lane (otherLane k.lane)).crossing = false →
      let one (r : Fin 4) (u : State) : State :=
        if r ∈ k.later then u else u.measure k (s.lane k.lane).pos.beat r
      s.measureKnown = one 3 (one 2 (one 1 (one 0 { s with known := [] })))))

/-! ## The beat bus -/

/-- SET_BUS (R179): unknown values are refused; otherwise the settings are taken and another lead lane removes the
transmit request. Without an own frame the bit rate and line mode act at once: both receivers wait for idle and open
pairings close without judging; during an own frame they wait for its end. That every accepted request acts so, whether or
not it changes rate or mode, and that a line's error kept for a pairing is dropped, are the model's choices (log 15). -/
def Obligations.SetBusRequest : Prop := ∀ (s : State) (tag : Byte) (p : List Byte),
  RequestAtHead s 0x50 tag p → p.length = 5 →
  exec .setBus s = .next (
    match bitRateOf (byteAt p 0), lineModeOf (byteAt p 1), leadOf (byteAt p 2) with
    | some rate, some mode, some lead =>
      if 1024 ≤ fieldAt p 3 2 then answered s.takeHead 0x50 tag [0x12]
      else
        let b := { s.bus with
          settings := ⟨rate, mode, lead, BitVec.ofNat 10 (fieldAt p 3 2)⟩
          request := if lead = s.bus.settings.lead then s.bus.request else none }
        let waiting (v : BusLineState) : BusLineState := { v with
          rx := .waitingIdle
          lastError := none }
        let set : Bus := if s.bus.tx.isSome then { b with deferred := true }
          else { b with
            rate := rate
            mode := mode
            deferred := false
            line1 := waiting b.line1
            line2 := waiting b.line2
            pairings := [] }
        answered { s.takeHead with bus := set } 0x50 tag [0x00]
    | _, _, _ => answered s.takeHead 0x50 tag [0x12])

/-- WRITE_FILTER (R56, R170): values out of range are refused; otherwise the entry takes the three values and its bus
tracker its reset values, and a tracker that was not SEARCHING becomes so with its notice and the lane reactions. That this
notice reports the estimate as absent, and the station just unlocked, is the model's choice (log 10). -/
def Obligations.WriteFilterRequest : Prop := ∀ (s : State) (tag : Byte) (p : List Byte),
  RequestAtHead s 0x51 tag p → p.length = 6 →
  let legal := byteAt p 0 < 8 ∧ byteAt p 1 ≤ 1 ∧ fieldAt p 2 2 < 1024 ∧ fieldAt p 4 2 < 1024
  (¬ legal → exec .writeFilter s = .next (answered s.takeHead 0x51 tag [0x12])) ∧
  (legal → ∀ n : Fin 8, byteAt p 0 = n.val →
    let t := s.busTracker n
    let entry : AcceptEntry := ⟨decide (byteAt p 1 = 1), BitVec.ofNat 10 (fieldAt p 2 2), BitVec.ofNat 10 (fieldAt p 4 2)⟩
    let written := { s.takeHead with
      bus := { s.bus with accept := s.bus.accept.set n.val entry n.isLt }
      busTrackers := s.busTrackers.set n.val ⟨.searching, none, none, none, none, 0⟩ n.isLt }
    exec .writeFilter s = .next (answered (if t.lock = .searching then written
      else written.becameSearching (.bus n) (.bus n) none t.station) 0x51 tag [0x00]))

/-- BUS_LINE_IDLE, BUS_DOMINANT_EDGE, BUS_DOMINANT_RUN_END and BUS_FIRST_START_BIT (R158, R163): the states of the receiver
of a line that is in use and not driven by this part, and the idle condition of any line, which a line not in use has too,
its receiver staying as it is. Nothing but the line's record changes. That the idle condition stands beside the receiver is
the model's choice (log 15).

RECEIVE_ERROR (R164, R166, R167): each of the four errors increases its counter for the line and returns the
receiver to WAITING_IDLE without a notice; in AUTO it is the line's bad outcome for the pairing open for it, or stays
for a first copy to come. The oldest of several open pairings is taken, an error is used once, and the last one not used is
kept (the model's choices, log 15). -/
def Obligations.ReceiversOfALine : Prop :=
  (∀ (s : State) (l : BusLine) (bits : Nat),
  s.mode = .running → s.bus.uses l = true → s.bus.drives l = false →
  let v := s.bus.lineOf l
  let line (w : BusLineState) : Host.Outcome State Fault Refusal := .next { s with bus := s.bus.setLine l w }
  (v.rx = .waitingIdle ∨ v.rx = .idle → exec (.busLineIdle l) s = line { v with rx := .idle, lineIdle := true }) ∧
  (v.rx = .afterBreak ∨ (∃ ref, v.rx = .characters ref) → exec (.busLineIdle l) s = line { v with lineIdle := true }) ∧
  (v.rx ≠ .idle → exec (.busDominantEdge l) s = line { v with lineIdle := false }) ∧
  (v.rx = .idle → exec (.busDominantEdge l) s = line { v with rx := .inBreak, lineIdle := false }) ∧
  (v.rx = .inBreak → bits < 11 → exec (.busDominantRunEnd l bits) s = line { v with rx := .idle }) ∧
  (v.rx = .inBreak → 11 ≤ bits → bits ≤ 14 → exec (.busDominantRunEnd l bits) s = line { v with rx := .afterBreak }) ∧
  (v.rx = .afterBreak → exec (.busFirstStartBit l) s = line { v with rx := .characters s.clock })) ∧
  (∀ (s : State) (l : BusLine), s.mode = .running → s.bus.uses l = false → s.bus.drives l = false →
  let v := s.bus.lineOf l
  let line (w : BusLineState) : Host.Outcome State Fault Refusal := .next { s with bus := s.bus.setLine l w }
  (v.rx = .waitingIdle → exec (.busLineIdle l) s = line { v with lineIdle := true }) ∧
  exec (.busDominantEdge l) s = line { v with lineIdle := false }) ∧
  (∀ (s : State) (l : BusLine) (e : ReceiveErrorKind),
  s.mode = .running → s.bus.uses l = true → s.bus.drives l = false →
  let v := s.bus.lineOf l
  (e = .violation ∨ (∃ ref, v.rx = .characters ref) ∨ e = .length ∧ v.rx = .afterBreak) →
  let counted : BusLineState := { v with
    rx := .waitingIdle
    lineIdle := v.lineIdle && decide (e ≠ .violation)
    framing := if e = .framing then min (v.framing + 1) 65535 else v.framing
    crc := if e = .crc then min (v.crc + 1) 65535 else v.crc
    length := if e = .length then min (v.length + 1) 65535 else v.length
    violations := if e = .violation then min (v.violations + 1) 65535 else v.violations }
  let t : State := { s with bus := s.bus.setLine l counted }
  (s.bus.mode ≠ .auto → exec (.receiveError l e) s = .next t) ∧
  (s.bus.mode = .auto → s.pairingFor l = none → exec (.receiveError l e) s =
    .next { s with bus := s.bus.setLine l { counted with lastError := some (s.clock, e) } }) ∧
  (∀ p, s.bus.mode = .auto → s.pairingFor l = some p → exec (.receiveError l e) s =
    .next ({ t with bus := { t.bus with pairings := t.bus.pairings.erase p } }.judgePair (otherLine l) (.receive e))))

/-- The judging of the lines (R168, R169): a good line's good count rises to 16 at most and its error count becomes 0; a
bad line's error count rises to 8 at most and its good count becomes 0. An OK line at 8 errors becomes FAULTY with its
sticky flag and LINE_FAULT; a FAULTY line at 16 good becomes OK with LINE_RESTORED. A pairing that closes on one good line
(`State.judgePair`) makes that line good and the other bad, line 1 judged first (the model's choice, log 19).

VALID_COPY and PAIRING_TIMEOUT (R163, R166, R167): in a FORCED mode each copy is a frame; in AUTO a copy that equals
the first copy on the other line within W steps is a duplicate that closes the pairing with both lines good, and any
other is a first copy, filtered and paired with a recent error or left open; a pairing open after W steps closes with
the other line missing. How W is counted at its boundary, and that an error is used once, are the model's choices (log 15). -/
def Obligations.CopiesArePairedAndJudged : Prop :=
  (∀ (s : State) (l : BusLine) (o : BadOutcome),
  let v := s.bus.lineOf l
  let good := min 16 (v.good + 1)
  let errors := min 8 (v.errors + 1)
  (¬ (v.faulty = true ∧ good = 16) →
    s.judgeGood l = { s with bus := s.bus.setLine l { v with good := good, errors := 0 } }) ∧
  (v.faulty = true → good = 16 →
    s.judgeGood l = State.post { s with bus := s.bus.setLine l { v with good := good, errors := 0, faulty := false } }
      (.lineRestored l)) ∧
  (¬ (v.faulty = false ∧ errors = 8) →
    s.judgeBad l o = { s with bus := s.bus.setLine l { v with errors := errors, good := 0 } }) ∧
  (v.faulty = false → errors = 8 →
    s.judgeBad l o = State.post { s with
      bus := s.bus.setLine l { v with errors := errors, good := 0, faulty := true }
      link := { s.link with sticky := { s.link.sticky with
        line1Fault := s.link.sticky.line1Fault || decide (l = .one)
        line2Fault := s.link.sticky.line2Fault || decide (l = .two) } } } (.lineFault l o)) ∧
  s.judgePair .one o = (s.judgeGood .one).judgeBad .two o ∧
  s.judgePair .two o = (s.judgeBad .one o).judgeGood .two) ∧
  ((∀ (s : State) (l : BusLine) (chars : List Byte) (ref : Nat),
  s.mode = .running → s.bus.uses l = true → s.bus.drives l = false →
  (s.bus.lineOf l).rx = .characters ref → chars.length = 23 → crcBytes (chars.take 21) = chars.drop 21 →
  let content := chars.take 21
  let v := s.bus.lineOf l
  let received : State := { s with bus := s.bus.setLine l { v with
    rx := .waitingIdle
    valid := min (v.valid + 1) 65535 } }
  let filtered := received.filterFrame l (frameOf content) ref
  let W := filtered.bus.rate.pairingTime
  let opened : State := { filtered with bus := { filtered.bus with
    pairings := filtered.bus.pairings ++ [⟨content, l, filtered.clock⟩] } }
  (s.bus.mode ≠ .auto → exec (.validCopy l chars) s = .next filtered) ∧
  (∀ p, s.bus.mode = .auto → s.duplicateOf l content = some p → exec (.validCopy l chars) s =
    .next ((({ received with bus := { received.bus with
      duplicates := min (s.bus.duplicates + 1) 65535
      pairings := s.bus.pairings.erase p } }).judgeGood .one).judgeGood .two)) ∧
  (s.bus.mode = .auto → s.duplicateOf l content = none →
    (filtered.bus.lineOf (otherLine l)).lastError = none → exec (.validCopy l chars) s = .next opened) ∧
  (∀ at_ e, s.bus.mode = .auto → s.duplicateOf l content = none →
    (filtered.bus.lineOf (otherLine l)).lastError = some (at_, e) →
    (W < since filtered.clock at_ → exec (.validCopy l chars) s = .next opened) ∧
    (since filtered.clock at_ ≤ W → exec (.validCopy l chars) s =
      .next ((filtered.modLine (otherLine l) fun w => { w with lastError := none }).judgePair l (.receive e))))) ∧
  (∀ (s : State) (p : Pairing), s.mode = .running → s.overduePairing = some p → exec .pairingTimeout s =
    .next ({ s with bus := { s.bus with pairings := s.bus.pairings.erase p } }.judgePair p.line .missing)))

/-- The filtering of a frame (R171, R176): while the part leads, a frame of its own station id is an ID conflict and
goes no further; otherwise the lowest enabled entry whose unmasked bits agree takes it to its bus tracker, and a frame
that none matches is counted and dropped.

The frames a bus tracker accepts (R57 to R59): an invalid frame is discarded; SEARCHING locks on the second frame of a
running station within two beats; LOCKED follows its station, and its stop is HOLDOVER; other stations' frames are
counted as rejects.

A valid frame delivered to a tracker (R17, R43, R57 to R59, R63, R66): its increment clamped, it is taken as said, and
what that makes of the tracker is told: a transition with its notice, the lane reactions and the joins that come due
(R79), or an update to the STOPPED lanes that follow, at which a join that waits for the tracker asks it anew for its
predicted step (R78, R84; that an unchanged step counts in no generation is DEDUCED, log 8).

The update of a tracker (`State.trackerUpdate`, R66): each STOPPED lane that has the tracker for its source and is FOLLOWING
takes its estimate as its increment, its glide becoming absent without a notice; no other lane changes, and nothing else. -/
def Obligations.FramesAreFilteredAndTracked : Prop :=
  (∀ (s : State) (l : BusLine) (f : BusFrame) (ref : Nat),
  let own := s.bus.settings.lead ≠ none ∧ f.station = s.bus.settings.station
  let fits (n : Fin 8) : Prop := (s.bus.accept[n]).enabled = true ∧
    ∀ i < 10, (s.bus.accept[n]).mask.getLsbD i = false → f.station.getLsbD i = (s.bus.accept[n]).code.getLsbD i
  (own → s.filterFrame l f ref = State.modBus
    (State.post { s with link := { s.link with sticky := { s.link.sticky with idConflict := true } } }
      (.idConflict f.station .received (decide (l = .one)) (decide (l = .two))))
    fun b => { b with settings := { b.settings with lead := none }, request := none }) ∧
  (∀ n, ¬ own → fits n → (∀ m, m < n → ¬ fits m) → s.filterFrame l f ref =
    State.deliverFrame { s with bus := { s.bus with accepted := min (s.bus.accepted + 1) 65535 } } n f ref) ∧
  (¬ own → (∀ n, ¬ fits n) → s.filterFrame l f ref =
    { s with bus := { s.bus with unmatched := min (s.bus.unmatched + 1) 65535 } })) ∧
  (∀ (t : BusTracker) (f : BusFrame) (ref : Nat),
  let kept := { t with last := some (f, ref) }
  let recent (g : BusFrame) : Prop := ∃ at_, t.last = some (g, at_) ∧ g.run = true ∧
    since ref at_ * g.increment ≤ 2 * 2 ^ 48
  let locked : BusTracker := { t with
    lock := .locked
    station := some f.station
    last := some (f, ref)
    estimate := some f.increment
    holdoverStart := none }
  (t.lock = .searching →
    (f.run = false → t.take f ref = (kept, .none)) ∧
    (f.run = true → (∀ g, ¬ recent g) → t.take f ref = (kept, .none)) ∧
    (∀ g, f.run = true → recent g →
      t.take f ref = if g.station = f.station then (locked, .locked) else (t, .none))) ∧
  (t.lock = .locked → t.station = some f.station →
    t.take f ref = if f.run then ({ kept with estimate := some f.increment }, .update)
      else ({ kept with lock := .holdover, holdoverStart := some ref }, .holdover)) ∧
  (t.lock = .holdover → t.station = some f.station →
    (∀ g, f.run = true → recent g → t.take f ref = (locked, .locked)) ∧
    (f.run = false ∨ (∀ g, ¬ recent g) → t.take f ref = (kept, .none))) ∧
  (t.lock ≠ .searching → t.station ≠ some f.station →
    t.take f ref = ({ t with rejects := min (t.rejects + 1) 65535 }, .none)) ∧
  (∀ (s : State) (n : Fin 8),
    let legal := 1 ≤ f.beatsPerBar ∧ f.beatsPerBar ≤ 16 ∧ 1 ≤ f.barsPerPhrase ∧ f.barsPerPhrase ≤ 64 ∧
      f.beatInBar < f.beatsPerBar ∧ f.barInPhrase < f.barsPerPhrase
    (¬ legal → s.deliverFrame n f ref = s) ∧
    (legal →
      let out := (s.busTracker n).take { f with increment := max 977343669 (min 14660155037 f.increment) } ref
      let told := { s with busTrackers := s.busTrackers.set n.val out.1 n.isLt }
      (∀ (x : LaneId) (e : Entry) (before after : List Entry), out.2 = .update →
        s.queue = before ++ e :: after → s.idsDistinct → e.joinsOn x (.bus n) = true →
        (∀ d ∈ before ++ after, ∀ z, d.joinsOn z (.bus n) = false) →
        let updated := told.trackerUpdate (.bus n)
        let asked : JoinWait := .bus n (updated.predictedOf (.bus n))
        s.deliverFrame n f ref = if e.due = .join asked then updated else { updated with
          queue := before ++ { e with timing := x, due := .join asked } :: after
          generation := s.generation + 1 }) ∧
      ((∀ e ∈ s.queue, ∀ x, e.joinsOn x (.bus n) = false) ∨ out.2 ≠ .update → s.deliverFrame n f ref = match out.2 with
        | .none => told
        | .locked => told.becameLocked (.bus n) (.bus n) out.1.estimate out.1.station
        | .update => told.trackerUpdate (.bus n)
        | .holdover => told.becameHoldover (.bus n) (.bus n) out.1.estimate out.1.station)))) ∧
  (∀ (s : State) (k : SourceKind), k ≠ .lane →
  let estimate : Option Nat := match k with
    | .tap => s.tap.estimate
    | .reference => s.ref.estimate
    | .bus n => (s.busTracker n).estimate
    | _ => none
  let takes (l : Lane) : Lane := match estimate with
    | some i =>
      if l.source = k ∧ l.transport = .stopped ∧ l.follow = .following then { l with increment := i, glide := none }
      else l
    | none => l
  s.trackerUpdate k = { s with laneA := takes s.laneA, laneB := takes s.laneB })

/-- FRAME_BEGIN, REFERENCE_INSTANT and FRAME_SENT (R173, R175, R177): a request begins to be sent on the lines it takes,
a lost one once more if it is fresh and otherwise dropped; the lead lane's record is captured at the reference instant;
and a frame sent is counted and its request removed unless a newer one stands there; settings that waited for the end of
the frame are then taken (`Bus.takeSettings`, R179).

ARBITRATION_LOSS (R174 to R176): a loss within the arbitration field counts and sends the request back to wait, or drops
it when it was a retry; a later loss is an ID conflict that ends the lead role. Either way the part stops driving, and
the line on which the loss stood goes on receiving; settings that waited for the end of the frame are then taken (R179).

A loss of a frame whose request a newer one has replaced counts no drop, whether or not the replaced one was a retry,
and leaves the newer request as it was made; R175 does not say so, and it is the model's choice (log 15). The lane
captured where the lead has become NONE, an instant taken at the first phase step at or after it, and bit time 26 as the
last of the arbitration field are the model's choices (log 15).

When a request begins to be sent, and on which lines (`State.frameBeginDue`, R173): no frame is being sent, the lead role is
held, and the lines in use are idle; a FORCED mode takes its line; in AUTO each OK line must be idle, a FAULTY line is taken
where it is idle and left out otherwise, and two FAULTY lines are both waited for.

The settings that take effect (`Bus.takeSettings`, R179): the bit rate and the line mode last accepted; both receivers wait for
idle, and open pairings close without judging. That a line's error kept for a pairing is dropped is the model's reading (log
15: DEDUCED). -/
def Obligations.OwnFramesAndTheirLosses : Prop :=
  (∀ s : State, s.mode = .running →
  (∀ r x on1 on2, s.frameBeginDue = some (r, x, on1, on2) →
    let fresh := ∀ y, r.kind = .boundary y → Position.distance ⟨y, 0⟩ (s.lane x).pos < 2 ^ 45
    let begins (v : BusLineState) (on : Bool) : BusLineState :=
      if on then { v with lineIdle := false, rx := .inBreak } else v
    (r.lost = true → ¬ fresh → exec .frameBegin s =
      .next { s with bus := { s.bus with request := none, drops := min (s.bus.drops + 1) 65535 } }) ∧
    (r.lost = false ∨ fresh → exec .frameBegin s = .next { s with bus := { s.bus with
      request := some { r with begun := true, lost := false, retry := r.retry || r.lost }
      tx := some ⟨x, s.bus.settings.station, on1, on2, 0, none⟩
      line1 := begins s.bus.line1 on1
      line2 := begins s.bus.line2 on2 } })) ∧
  (∀ t, s.bus.tx = some t →
    let settled (b : Bus) : Bus := if s.bus.deferred then b.takeSettings else b
    let lead := s.bus.settings.lead.getD t.lane
    let at_ (v : BusLineState) (on : Bool) : BusLineState := if on then { v with rx := .characters s.clock } else v
    let left (v : BusLineState) (on : Bool) : BusLineState := if on then { v with rx := .waitingIdle } else v
    (t.captured = none → 14 * s.bus.rate.unit ≤ t.age → (s.lane lead).crossing = false →
      exec .referenceInstant s = .next { s with bus := { s.bus with
        tx := some { t with lane := lead, captured := some ((s.lane lead).busFrame lead t.station) }
        line1 := at_ s.bus.line1 t.on1
        line2 := at_ s.bus.line2 t.on2 } }) ∧
    (∀ f, t.captured = some f → 244 * s.bus.rate.unit ≤ t.age →
      exec .frameSent s = .next { s with bus := settled { s.bus with
        sent := min (s.bus.sent + 1) 65535
        request := match s.bus.request with
          | some r => if r.begun then none else some r
          | none => none
        tx := none
        line1 := left s.bus.line1 t.on1
        line2 := left s.bus.line2 t.on2 } }))) ∧
  (∀ (s : State) (bit : Nat) (on1 on2 : Bool) (t : BusTx),
  s.mode = .running → s.lossPossible bit on1 on2 = true → s.bus.tx = some t →
  let settled (b : Bus) : Bus := if s.bus.deferred then b.takeSettings else b
  let left (v : BusLineState) (on : Bool) : BusLineState := if on then { v with rx := .waitingIdle } else v
  let released : Bus := { s.bus with
    tx := none
    line1 := left s.bus.line1 (t.on1 && !on1)
    line2 := left s.bus.line2 (t.on2 && !on2) }
  (∀ r, bit ≤ 26 → s.bus.request = some r → r.begun = true → r.retry = false →
    exec (.arbitrationLoss bit on1 on2) s = .next { s with bus := settled { released with
      losses := min (s.bus.losses + 1) 65535
      request := some { r with begun := false, lost := true } } }) ∧
  (∀ r, bit ≤ 26 → s.bus.request = some r → r.begun = true → r.retry = true →
    exec (.arbitrationLoss bit on1 on2) s = .next { s with bus := settled { released with
      losses := min (s.bus.losses + 1) 65535
      request := none
      drops := min (s.bus.drops + 1) 65535 } }) ∧
  (bit ≤ 26 → (∀ r, s.bus.request = some r → r.begun = false) →
    exec (.arbitrationLoss bit on1 on2) s = .next { s with bus := settled { released with
      losses := min (s.bus.losses + 1) 65535 } }) ∧
  (26 < bit → exec (.arbitrationLoss bit on1 on2) s = .next { State.post
      { s with link := { s.link with sticky := { s.link.sticky with idConflict := true } } }
      (.idConflict t.station .arbitration on1 on2) with
    bus := settled { released with settings := { released.settings with lead := none }, request := none } })) ∧
  (∀ (s : State) (r : TxRequest) (x : LaneId) (on1 on2 : Bool),
  let v := s.bus.line1
  let w := s.bus.line2
  s.frameBeginDue = some (r, x, on1, on2) ↔
    s.bus.tx = none ∧ s.bus.request = some r ∧ s.bus.settings.lead = some x ∧ match s.bus.mode with
      | .forced1 => v.lineIdle = true ∧ on1 = true ∧ on2 = false
      | .forced2 => w.lineIdle = true ∧ on1 = false ∧ on2 = true
      | .auto => (v.faulty = false ∨ w.faulty = true → v.lineIdle = true) ∧
        (w.faulty = false ∨ v.faulty = true → w.lineIdle = true) ∧ on1 = v.lineIdle ∧ on2 = w.lineIdle) ∧
  (∀ b : Bus,
  let waiting (v : BusLineState) : BusLineState := { v with rx := .waitingIdle, lastError := none }
  b.takeSettings = { b with
    rate := b.settings.rate
    mode := b.settings.mode
    deferred := false
    line1 := waiting b.line1
    line2 := waiting b.line2
    pairings := [] })

/-! ## The host line -/

/-- HOST_CHARACTER, HOST_LINE_IDLE and GAP_TIMEOUT (R182, R184): the framing states character by character with their
counts, the character error with its wait for idle, and the timeout of a partial frame. A frame received whole is
checked before the next character is taken; that it is held until then, and that a character error leaves the step of the
last character taken as it was, are the model's choices (log 16).

VERIFIED_FRAME (R183, R185): a frame whose CRC over LEN, TYPE, TAG and payload is right is placed as a request, as a
refusal behind 4 requests, or discarded with the overrun count behind 8 refusals too; a wrong CRC is counted. -/
def Obligations.HostFramingAndVerification : Prop :=
  (∀ (s : State) (v : Byte), s.mode = .running →
  let k := s.link
  let c := k.counts
  (exec .hostLineIdle s = .next { s with link := { k with waitIdle := false } }) ∧
  (k.rx ≠ .hunt → 192 < since s.clock k.lastChar → exec .gapTimeout s =
    .next { s with link := { k with rx := .hunt, counts := { c with gap := min (c.gap + 1) 65535 } } }) ∧
  (k.waitIdle = true → ∀ high, exec (.hostCharacter v high) s = .next s) ∧
  (k.waitIdle = false → k.complete ≠ none → ∀ high, ∃ t, exec .verifiedFrame s = .next t ∧
    exec (.hostCharacter v high) s = exec (.hostCharacter v high) t) ∧
  (k.waitIdle = false → k.complete = none →
    let next (rx : HostRx) : Host.Outcome State Fault Refusal :=
      .next { s with link := { k with rx := rx, lastChar := s.clock } }
    (exec (.hostCharacter v false) s = .next { s with link := { k with
      rx := .hunt
      waitIdle := true
      counts := { c with character := min (c.character + 1) 65535 } } }) ∧
    (k.rx = .hunt → v = 0xC5 → exec (.hostCharacter v true) s = next .length) ∧
    (k.rx = .hunt → v ≠ 0xC5 → exec (.hostCharacter v true) s = .next { s with link := { k with
      lastChar := s.clock
      counts := { c with sync := min (c.sync + 1) 65535 } } }) ∧
    (k.rx = .length → v.toNat ≤ 56 → exec (.hostCharacter v true) s = next (.header v.toNat)) ∧
    (k.rx = .length → 56 < v.toNat → exec (.hostCharacter v true) s = .next { s with link := { k with
      rx := .hunt
      lastChar := s.clock
      counts := { c with length := min (c.length + 1) 65535 } } }) ∧
    (∀ n, k.rx = .header n → exec (.hostCharacter v true) s = next (.headerTag n v)) ∧
    (∀ type, k.rx = .headerTag 0 type → exec (.hostCharacter v true) s = next (.check ⟨type, v, []⟩)) ∧
    (∀ n type, 0 < n → k.rx = .headerTag n type →
      exec (.hostCharacter v true) s = next (.payload n type v [])) ∧
    (∀ n type tag got, k.rx = .payload n type tag got → exec (.hostCharacter v true) s =
      next (if got.length + 1 < n then .payload n type tag (got ++ [v]) else .check ⟨type, tag, got ++ [v]⟩)) ∧
    (∀ f, k.rx = .check f → exec (.hostCharacter v true) s = next (.checkLow f v)) ∧
    (∀ f high, k.rx = .checkLow f high → exec (.hostCharacter v true) s = .next { s with link := { k with
      rx := .hunt
      lastChar := s.clock
      complete := some (f, high, v) } }))) ∧
  (∀ (s : State) (f : HostFrame) (high low : Byte),
  s.mode = .running → s.link.complete = some (f, high, low) →
  let k := s.link
  let c := k.counts
  let right := crcBytes (BitVec.ofNat 8 f.payload.length :: f.type :: f.tag :: f.payload) = [high, low]
  (¬ right → exec .verifiedFrame s = .next { s with link := { k with
    complete := none
    counts := { c with crc := min (c.crc + 1) 65535 } } }) ∧
  (right → requestsHeld k.requests < 4 → exec .verifiedFrame s = .next { s with link := { k with
    complete := none
    requests := k.requests ++ [.request f] } }) ∧
  (right → 4 ≤ requestsHeld k.requests → refusalsHeld k.requests < 8 → exec .verifiedFrame s =
    .next { s with link := { k with
      complete := none
      requests := k.requests ++ [.refusal f.type f.tag] } }) ∧
  (right → 4 ≤ requestsHeld k.requests → 8 ≤ refusalsHeld k.requests → exec .verifiedFrame s =
    .next { s with link := { k with
      complete := none
      counts := { c with overrun := min (c.overrun + 1) 65535 } } }))

/-- REPLY_BEGIN, NOTICE_BEGIN and HOST_FRAME_END (R187, R188): the idle transmitter, or one whose frame has ended, takes
the oldest reply; with no reply waiting and no RESET pending the oldest notice; and otherwise becomes idle. A frame that
ends between two phase steps is taken as ended at the later one (the model's choice, log 16).

The level of HTX (R181): high when idle; each character of a frame is a low start bit, the eight data bits, the
least significant first, and a high stop bit, the characters standing back to back. -/
def Obligations.TransmitterChoosesFrames : Prop := ∀ s : State, s.mode = .running →
  let k := s.link
  let ended := ∃ bytes age isReply, k.tx = .sending bytes age isReply false ∧ bytes.length * k.rate.charUnits ≤ age
  (∀ r rest, (k.tx = .idle ∨ ended) → k.replies = r :: rest → exec .replyBegin s =
    .next { s with link := { k with
      replies := rest
      tx := .sending (hostFrameBytes (r.type ||| 0x80) r.tag r.payload) 0 true r.resets } }) ∧
  (∀ n rest, (k.tx = .idle ∨ ended) → k.replies = [] → k.resetPending = false → k.notices = n :: rest →
    exec .noticeBegin s = .next { s with link := { k with
      notices := rest
      tx := .sending (hostFrameBytes 0x7F 0x00 n.payload) 0 false false } }) ∧
  (ended → k.replies = [] → (k.notices = [] ∨ k.resetPending = true) → exec .hostFrameEnd s =
    .next { s with link := { k with tx := .idle } }) ∧
  (k.tx = .idle → s.htx = true) ∧
  (∀ bytes age isReply resets (i : Nat) (v : Byte) (bit : Nat),
    let U := match k.rate with
      | .baud1000000 => 72
      | .baud115200 => 625
    k.tx = .sending bytes age isReply resets → bytes[i]? = some v → bit < 10 →
    (10 * i + bit) * U ≤ 10 * age → 10 * age < (10 * i + bit + 1) * U →
    s.htx = if bit = 0 then false else if bit = 9 then true else v.getLsbD (bit - 1))
end

