-- ==== Sys2Proof/Laws/Arith.lean ====
section
/-! SUPPORT. Laws of the tempo arithmetic: the ranges its results keep, distances between beats, and
the advance of a lane. -/

namespace Sys2Proof.Machine

/-! ## Clamps (R4, R9) -/

theorem clampNat_range {lo hi : Nat} (h : lo ≤ hi) (x : Nat) : lo ≤ clampNat lo hi x ∧ clampNat lo hi x ≤ hi := by
  unfold clampNat; omega

theorem clampNat_of_range {lo hi x : Nat} (h : lo ≤ x) (h' : x ≤ hi) : clampNat lo hi x = x := by
  unfold clampNat; omega

theorem clampInt_range {lo hi : Int} (h : lo ≤ hi) (x : Int) : lo ≤ clampInt lo hi x ∧ clampInt lo hi x ≤ hi := by
  unfold clampInt; omega

theorem clampInt_of_range {lo hi x : Int} (h : lo ≤ x) (h' : x ≤ hi) : clampInt lo hi x = x := by
  unfold clampInt; omega

/-- A clamped increment is a legal one (R4). -/
theorem incLegal_clampInc (i : Nat) : incLegal (clampInc i) :=
  clampNat_range (by decide) i

theorem clampInc_of_legal {i : Nat} (h : incLegal i) : clampInc i = i := clampNat_of_range h.1 h.2

theorem incLegal_tempoToIncrement (t : Nat) : incLegal (tempoToIncrement t) := incLegal_clampInc _

/-- An estimate is a legal increment, whatever the free value of an evidence window without a span is (R17). -/
theorem incLegal_estimateOf (m q s : Nat) : incLegal (estimateOf m q s) := incLegal_clampInc _

theorem incLegal_resetIncrement : incLegal resetIncrement := by unfold incLegal; decide

/-! ## The glide staircase (R6) -/

theorem glide_at_end {g : Glide} {j : Nat} (h : g.length ≤ j) : g.at j = g.target := by
  simp [Glide.at, Nat.not_lt.2 h]

/-- Every step of a staircase between legal increments is a legal increment. -/
theorem incLegal_glide_at {g : Glide} (h : incLegal g.start) (h' : incLegal g.target) (j : Nat) :
    incLegal (g.at j) := by
  unfold Glide.at
  split
  · rename_i hj
    obtain ⟨a, b⟩ := h
    obtain ⟨c, d⟩ := h'
    have hpos : (0 : Int) < g.length := by omega
    have hjl : (j : Int) ≤ g.length := by omega
    have h0 : (0 : Int) ≤ j := by omega
    rcases le_total (g.start : Int) g.target with hle | hle
    · have q0 : (0 : Int) ≤ ((g.target : Int) - g.start) * j := mul_nonneg (by omega) h0
      have q1 : ((g.target : Int) - g.start) * j ≤ ((g.target : Int) - g.start) * g.length :=
        mul_le_mul_of_nonneg_left hjl (by omega)
      have r0 := Int.tdiv_nonneg q0 hpos.le
      have r1 : (((g.target : Int) - g.start) * j).tdiv g.length ≤ (g.target : Int) - g.start := by
        rw [Int.tdiv_eq_ediv_of_nonneg q0]
        exact Int.ediv_le_of_le_mul hpos q1
      unfold incLegal; omega
    · have q0 : (0 : Int) ≤ ((g.start : Int) - g.target) * j := mul_nonneg (by omega) h0
      have q1 : ((g.start : Int) - g.target) * j ≤ ((g.start : Int) - g.target) * g.length :=
        mul_le_mul_of_nonneg_left hjl (by omega)
      have e : ((g.target : Int) - g.start) * j = -(((g.start : Int) - g.target) * j) := by ring
      rw [e, Int.neg_tdiv]
      have r0 := Int.tdiv_nonneg q0 hpos.le
      have r1 : (((g.start : Int) - g.target) * j).tdiv g.length ≤ (g.start : Int) - g.target := by
        rw [Int.tdiv_eq_ediv_of_nonneg q0]
        exact Int.ediv_le_of_le_mul hpos q1
      unfold incLegal; omega
  · exact h'

/-! ## Distances between beats (R2) -/

@[simp] theorem ahead_self (y : U32) : ahead y y = 0 := by simp [ahead]

theorem ahead_range (y z : U32) : -2 ^ 31 ≤ ahead y z ∧ ahead y z < 2 ^ 31 := by
  unfold ahead
  have h := BitVec.le_toInt (y - z)
  have h' := BitVec.toInt_lt (x := y - z)
  norm_num at h h' ⊢
  exact ⟨h, h'⟩

theorem ahead_succ (y : U32) : ahead (y + 1) y = 1 := by
  have : y + 1 - y = 1#32 := by bv_omega
  unfold ahead
  rw [this]
  decide

theorem roundHalfUp_exact {d : Nat} (h : 0 < d) (n : Nat) : roundHalfUp (n * d) d = n := by
  unfold roundHalfUp
  rw [show 2 * (n * d) + d = d + n * (2 * d) by ring, Nat.add_mul_div_right _ _ (by omega),
    Nat.div_eq_of_lt (by omega), Nat.zero_add]

theorem bump16_le (n : Nat) : bump16 n ≤ 65535 := Nat.min_le_right _ _

/-! ## The advance of a lane (R11, R20) -/

/-- A lane with no pull amount in the step takes its advance and nothing else. -/
theorem advanceLane_of_no_pull {s : State} {x : LaneId} (h : pullAmount (s.lane x).residual (s.lane x).pullRate = 0) :
    s.advanceLane x = s.setLane x { s.lane x with
      pos := (s.lane x).pos.advance (s.lane x).stepAmount
      crossing := false
      copiedPull := 0 } := by
  unfold State.advanceLane
  exact if_pos h

/-- The beginning of a lane's advance: nothing on a STOPPED lane, the mark of an outstanding carry, or the advance. -/
theorem beginAdvance_cases (s : State) (x : LaneId) :
    ((s.lane x).isRunning = false ∧ s.beginAdvance x = s) ∨
    ((s.lane x).isRunning = true ∧ (s.lane x).carries = true ∧
      s.beginAdvance x = s.setLane x { s.lane x with crossing := true }) ∨
    ((s.lane x).isRunning = true ∧ (s.lane x).carries = false ∧ s.beginAdvance x = s.advanceLane x) := by
  unfold State.beginAdvance
  cases hr : (s.lane x).isRunning <;> cases hc : (s.lane x).carries <;> simp only [hr, hc] <;> simp

end Sys2Proof.Machine
end

