-- ==== Sys2Proof/Laws/State.lean ====
section
/-! SUPPORT. The small lemmas of the state's updates: for each named update, what every field of the updated state
is, and reading back what was written. They let later proofs go without unfolding a record update. -/

namespace Sys2Proof.Machine

variable (s : State)

/-! ## `State.setLane` -/
@[simp] theorem setLane_clock (x : LaneId) (l : Lane) : (s.setLane x l).clock = s.clock := by cases x <;> rfl
@[simp] theorem setLane_mode (x : LaneId) (l : Lane) : (s.setLane x l).mode = s.mode := by cases x <;> rfl
@[simp] theorem setLane_tap (x : LaneId) (l : Lane) : (s.setLane x l).tap = s.tap := by cases x <;> rfl
@[simp] theorem setLane_ref (x : LaneId) (l : Lane) : (s.setLane x l).ref = s.ref := by cases x <;> rfl
@[simp] theorem setLane_busTrackers (x : LaneId) (l : Lane) : (s.setLane x l).busTrackers = s.busTrackers := by cases x <;> rfl
@[simp] theorem setLane_queue (x : LaneId) (l : Lane) : (s.setLane x l).queue = s.queue := by cases x <;> rfl
@[simp] theorem setLane_idCounter (x : LaneId) (l : Lane) : (s.setLane x l).idCounter = s.idCounter := by cases x <;> rfl
@[simp] theorem setLane_generation (x : LaneId) (l : Lane) : (s.setLane x l).generation = s.generation := by cases x <;> rfl
@[simp] theorem setLane_cues (x : LaneId) (l : Lane) : (s.setLane x l).cues = s.cues := by cases x <;> rfl
@[simp] theorem setLane_presets (x : LaneId) (l : Lane) : (s.setLane x l).presets = s.presets := by cases x <;> rfl
@[simp] theorem setLane_strobe (x : LaneId) (l : Lane) : (s.setLane x l).strobe = s.strobe := by cases x <;> rfl
@[simp] theorem setLane_pins (x : LaneId) (l : Lane) : (s.setLane x l).pins = s.pins := by cases x <;> rfl
@[simp] theorem setLane_channels (x : LaneId) (l : Lane) : (s.setLane x l).channels = s.channels := by cases x <;> rfl
@[simp] theorem setLane_breaks (x : LaneId) (l : Lane) : (s.setLane x l).breaks = s.breaks := by cases x <;> rfl
@[simp] theorem setLane_handovers (x : LaneId) (l : Lane) : (s.setLane x l).handovers = s.handovers := by cases x <;> rfl
@[simp] theorem setLane_known (x : LaneId) (l : Lane) : (s.setLane x l).known = s.known := by cases x <;> rfl
@[simp] theorem setLane_bus (x : LaneId) (l : Lane) : (s.setLane x l).bus = s.bus := by cases x <;> rfl
@[simp] theorem setLane_link (x : LaneId) (l : Lane) : (s.setLane x l).link = s.link := by cases x <;> rfl
@[simp] theorem setLane_pending (x : LaneId) (l : Lane) : (s.setLane x l).pending = s.pending := by cases x <;> rfl

/-! ## `State.modLane` -/
@[simp] theorem modLane_clock (x : LaneId) (f : Lane → Lane) : (s.modLane x f).clock = s.clock := by cases x <;> rfl
@[simp] theorem modLane_mode (x : LaneId) (f : Lane → Lane) : (s.modLane x f).mode = s.mode := by cases x <;> rfl
@[simp] theorem modLane_tap (x : LaneId) (f : Lane → Lane) : (s.modLane x f).tap = s.tap := by cases x <;> rfl
@[simp] theorem modLane_ref (x : LaneId) (f : Lane → Lane) : (s.modLane x f).ref = s.ref := by cases x <;> rfl
@[simp] theorem modLane_busTrackers (x : LaneId) (f : Lane → Lane) : (s.modLane x f).busTrackers = s.busTrackers := by cases x <;> rfl
@[simp] theorem modLane_queue (x : LaneId) (f : Lane → Lane) : (s.modLane x f).queue = s.queue := by cases x <;> rfl
@[simp] theorem modLane_idCounter (x : LaneId) (f : Lane → Lane) : (s.modLane x f).idCounter = s.idCounter := by cases x <;> rfl
@[simp] theorem modLane_generation (x : LaneId) (f : Lane → Lane) : (s.modLane x f).generation = s.generation := by cases x <;> rfl
@[simp] theorem modLane_cues (x : LaneId) (f : Lane → Lane) : (s.modLane x f).cues = s.cues := by cases x <;> rfl
@[simp] theorem modLane_presets (x : LaneId) (f : Lane → Lane) : (s.modLane x f).presets = s.presets := by cases x <;> rfl
@[simp] theorem modLane_strobe (x : LaneId) (f : Lane → Lane) : (s.modLane x f).strobe = s.strobe := by cases x <;> rfl
@[simp] theorem modLane_pins (x : LaneId) (f : Lane → Lane) : (s.modLane x f).pins = s.pins := by cases x <;> rfl
@[simp] theorem modLane_channels (x : LaneId) (f : Lane → Lane) : (s.modLane x f).channels = s.channels := by cases x <;> rfl
@[simp] theorem modLane_breaks (x : LaneId) (f : Lane → Lane) : (s.modLane x f).breaks = s.breaks := by cases x <;> rfl
@[simp] theorem modLane_handovers (x : LaneId) (f : Lane → Lane) : (s.modLane x f).handovers = s.handovers := by cases x <;> rfl
@[simp] theorem modLane_known (x : LaneId) (f : Lane → Lane) : (s.modLane x f).known = s.known := by cases x <;> rfl
@[simp] theorem modLane_bus (x : LaneId) (f : Lane → Lane) : (s.modLane x f).bus = s.bus := by cases x <;> rfl
@[simp] theorem modLane_link (x : LaneId) (f : Lane → Lane) : (s.modLane x f).link = s.link := by cases x <;> rfl
@[simp] theorem modLane_pending (x : LaneId) (f : Lane → Lane) : (s.modLane x f).pending = s.pending := by cases x <;> rfl

/-! ## `State.setChan` -/
@[simp] theorem setChan_clock (n : Fin 16) (c : Channel) : (s.setChan n c).clock = s.clock := rfl
@[simp] theorem setChan_mode (n : Fin 16) (c : Channel) : (s.setChan n c).mode = s.mode := rfl
@[simp] theorem setChan_laneA (n : Fin 16) (c : Channel) : (s.setChan n c).laneA = s.laneA := rfl
@[simp] theorem setChan_laneB (n : Fin 16) (c : Channel) : (s.setChan n c).laneB = s.laneB := rfl
@[simp] theorem setChan_tap (n : Fin 16) (c : Channel) : (s.setChan n c).tap = s.tap := rfl
@[simp] theorem setChan_ref (n : Fin 16) (c : Channel) : (s.setChan n c).ref = s.ref := rfl
@[simp] theorem setChan_busTrackers (n : Fin 16) (c : Channel) : (s.setChan n c).busTrackers = s.busTrackers := rfl
@[simp] theorem setChan_queue (n : Fin 16) (c : Channel) : (s.setChan n c).queue = s.queue := rfl
@[simp] theorem setChan_idCounter (n : Fin 16) (c : Channel) : (s.setChan n c).idCounter = s.idCounter := rfl
@[simp] theorem setChan_generation (n : Fin 16) (c : Channel) : (s.setChan n c).generation = s.generation := rfl
@[simp] theorem setChan_cues (n : Fin 16) (c : Channel) : (s.setChan n c).cues = s.cues := rfl
@[simp] theorem setChan_presets (n : Fin 16) (c : Channel) : (s.setChan n c).presets = s.presets := rfl
@[simp] theorem setChan_strobe (n : Fin 16) (c : Channel) : (s.setChan n c).strobe = s.strobe := rfl
@[simp] theorem setChan_pins (n : Fin 16) (c : Channel) : (s.setChan n c).pins = s.pins := rfl
@[simp] theorem setChan_breaks (n : Fin 16) (c : Channel) : (s.setChan n c).breaks = s.breaks := rfl
@[simp] theorem setChan_handovers (n : Fin 16) (c : Channel) : (s.setChan n c).handovers = s.handovers := rfl
@[simp] theorem setChan_known (n : Fin 16) (c : Channel) : (s.setChan n c).known = s.known := rfl
@[simp] theorem setChan_bus (n : Fin 16) (c : Channel) : (s.setChan n c).bus = s.bus := rfl
@[simp] theorem setChan_link (n : Fin 16) (c : Channel) : (s.setChan n c).link = s.link := rfl
@[simp] theorem setChan_pending (n : Fin 16) (c : Channel) : (s.setChan n c).pending = s.pending := rfl

/-! ## `State.modChan` -/
@[simp] theorem modChan_clock (n : Fin 16) (f : Channel → Channel) : (s.modChan n f).clock = s.clock := rfl
@[simp] theorem modChan_mode (n : Fin 16) (f : Channel → Channel) : (s.modChan n f).mode = s.mode := rfl
@[simp] theorem modChan_laneA (n : Fin 16) (f : Channel → Channel) : (s.modChan n f).laneA = s.laneA := rfl
@[simp] theorem modChan_laneB (n : Fin 16) (f : Channel → Channel) : (s.modChan n f).laneB = s.laneB := rfl
@[simp] theorem modChan_tap (n : Fin 16) (f : Channel → Channel) : (s.modChan n f).tap = s.tap := rfl
@[simp] theorem modChan_ref (n : Fin 16) (f : Channel → Channel) : (s.modChan n f).ref = s.ref := rfl
@[simp] theorem modChan_busTrackers (n : Fin 16) (f : Channel → Channel) : (s.modChan n f).busTrackers = s.busTrackers := rfl
@[simp] theorem modChan_queue (n : Fin 16) (f : Channel → Channel) : (s.modChan n f).queue = s.queue := rfl
@[simp] theorem modChan_idCounter (n : Fin 16) (f : Channel → Channel) : (s.modChan n f).idCounter = s.idCounter := rfl
@[simp] theorem modChan_generation (n : Fin 16) (f : Channel → Channel) : (s.modChan n f).generation = s.generation := rfl
@[simp] theorem modChan_cues (n : Fin 16) (f : Channel → Channel) : (s.modChan n f).cues = s.cues := rfl
@[simp] theorem modChan_presets (n : Fin 16) (f : Channel → Channel) : (s.modChan n f).presets = s.presets := rfl
@[simp] theorem modChan_strobe (n : Fin 16) (f : Channel → Channel) : (s.modChan n f).strobe = s.strobe := rfl
@[simp] theorem modChan_pins (n : Fin 16) (f : Channel → Channel) : (s.modChan n f).pins = s.pins := rfl
@[simp] theorem modChan_breaks (n : Fin 16) (f : Channel → Channel) : (s.modChan n f).breaks = s.breaks := rfl
@[simp] theorem modChan_handovers (n : Fin 16) (f : Channel → Channel) : (s.modChan n f).handovers = s.handovers := rfl
@[simp] theorem modChan_known (n : Fin 16) (f : Channel → Channel) : (s.modChan n f).known = s.known := rfl
@[simp] theorem modChan_bus (n : Fin 16) (f : Channel → Channel) : (s.modChan n f).bus = s.bus := rfl
@[simp] theorem modChan_link (n : Fin 16) (f : Channel → Channel) : (s.modChan n f).link = s.link := rfl
@[simp] theorem modChan_pending (n : Fin 16) (f : Channel → Channel) : (s.modChan n f).pending = s.pending := rfl

/-! ## `State.setBrk` -/
@[simp] theorem setBrk_clock (r : Fin 4) (b : Option BreakRecord) : (s.setBrk r b).clock = s.clock := rfl
@[simp] theorem setBrk_mode (r : Fin 4) (b : Option BreakRecord) : (s.setBrk r b).mode = s.mode := rfl
@[simp] theorem setBrk_laneA (r : Fin 4) (b : Option BreakRecord) : (s.setBrk r b).laneA = s.laneA := rfl
@[simp] theorem setBrk_laneB (r : Fin 4) (b : Option BreakRecord) : (s.setBrk r b).laneB = s.laneB := rfl
@[simp] theorem setBrk_tap (r : Fin 4) (b : Option BreakRecord) : (s.setBrk r b).tap = s.tap := rfl
@[simp] theorem setBrk_ref (r : Fin 4) (b : Option BreakRecord) : (s.setBrk r b).ref = s.ref := rfl
@[simp] theorem setBrk_busTrackers (r : Fin 4) (b : Option BreakRecord) : (s.setBrk r b).busTrackers = s.busTrackers := rfl
@[simp] theorem setBrk_queue (r : Fin 4) (b : Option BreakRecord) : (s.setBrk r b).queue = s.queue := rfl
@[simp] theorem setBrk_idCounter (r : Fin 4) (b : Option BreakRecord) : (s.setBrk r b).idCounter = s.idCounter := rfl
@[simp] theorem setBrk_generation (r : Fin 4) (b : Option BreakRecord) : (s.setBrk r b).generation = s.generation := rfl
@[simp] theorem setBrk_cues (r : Fin 4) (b : Option BreakRecord) : (s.setBrk r b).cues = s.cues := rfl
@[simp] theorem setBrk_presets (r : Fin 4) (b : Option BreakRecord) : (s.setBrk r b).presets = s.presets := rfl
@[simp] theorem setBrk_strobe (r : Fin 4) (b : Option BreakRecord) : (s.setBrk r b).strobe = s.strobe := rfl
@[simp] theorem setBrk_pins (r : Fin 4) (b : Option BreakRecord) : (s.setBrk r b).pins = s.pins := rfl
@[simp] theorem setBrk_channels (r : Fin 4) (b : Option BreakRecord) : (s.setBrk r b).channels = s.channels := rfl
@[simp] theorem setBrk_handovers (r : Fin 4) (b : Option BreakRecord) : (s.setBrk r b).handovers = s.handovers := rfl
@[simp] theorem setBrk_known (r : Fin 4) (b : Option BreakRecord) : (s.setBrk r b).known = s.known := rfl
@[simp] theorem setBrk_bus (r : Fin 4) (b : Option BreakRecord) : (s.setBrk r b).bus = s.bus := rfl
@[simp] theorem setBrk_link (r : Fin 4) (b : Option BreakRecord) : (s.setBrk r b).link = s.link := rfl
@[simp] theorem setBrk_pending (r : Fin 4) (b : Option BreakRecord) : (s.setBrk r b).pending = s.pending := rfl

/-! ## `State.modBrk` -/
@[simp] theorem modBrk_clock (r : Fin 4) (f : BreakRecord → BreakRecord) : (s.modBrk r f).clock = s.clock := rfl
@[simp] theorem modBrk_mode (r : Fin 4) (f : BreakRecord → BreakRecord) : (s.modBrk r f).mode = s.mode := rfl
@[simp] theorem modBrk_laneA (r : Fin 4) (f : BreakRecord → BreakRecord) : (s.modBrk r f).laneA = s.laneA := rfl
@[simp] theorem modBrk_laneB (r : Fin 4) (f : BreakRecord → BreakRecord) : (s.modBrk r f).laneB = s.laneB := rfl
@[simp] theorem modBrk_tap (r : Fin 4) (f : BreakRecord → BreakRecord) : (s.modBrk r f).tap = s.tap := rfl
@[simp] theorem modBrk_ref (r : Fin 4) (f : BreakRecord → BreakRecord) : (s.modBrk r f).ref = s.ref := rfl
@[simp] theorem modBrk_busTrackers (r : Fin 4) (f : BreakRecord → BreakRecord) : (s.modBrk r f).busTrackers = s.busTrackers := rfl
@[simp] theorem modBrk_queue (r : Fin 4) (f : BreakRecord → BreakRecord) : (s.modBrk r f).queue = s.queue := rfl
@[simp] theorem modBrk_idCounter (r : Fin 4) (f : BreakRecord → BreakRecord) : (s.modBrk r f).idCounter = s.idCounter := rfl
@[simp] theorem modBrk_generation (r : Fin 4) (f : BreakRecord → BreakRecord) : (s.modBrk r f).generation = s.generation := rfl
@[simp] theorem modBrk_cues (r : Fin 4) (f : BreakRecord → BreakRecord) : (s.modBrk r f).cues = s.cues := rfl
@[simp] theorem modBrk_presets (r : Fin 4) (f : BreakRecord → BreakRecord) : (s.modBrk r f).presets = s.presets := rfl
@[simp] theorem modBrk_strobe (r : Fin 4) (f : BreakRecord → BreakRecord) : (s.modBrk r f).strobe = s.strobe := rfl
@[simp] theorem modBrk_pins (r : Fin 4) (f : BreakRecord → BreakRecord) : (s.modBrk r f).pins = s.pins := rfl
@[simp] theorem modBrk_channels (r : Fin 4) (f : BreakRecord → BreakRecord) : (s.modBrk r f).channels = s.channels := rfl
@[simp] theorem modBrk_handovers (r : Fin 4) (f : BreakRecord → BreakRecord) : (s.modBrk r f).handovers = s.handovers := rfl
@[simp] theorem modBrk_known (r : Fin 4) (f : BreakRecord → BreakRecord) : (s.modBrk r f).known = s.known := rfl
@[simp] theorem modBrk_bus (r : Fin 4) (f : BreakRecord → BreakRecord) : (s.modBrk r f).bus = s.bus := rfl
@[simp] theorem modBrk_link (r : Fin 4) (f : BreakRecord → BreakRecord) : (s.modBrk r f).link = s.link := rfl
@[simp] theorem modBrk_pending (r : Fin 4) (f : BreakRecord → BreakRecord) : (s.modBrk r f).pending = s.pending := rfl

/-! ## `State.setHo` -/
@[simp] theorem setHo_clock (r : Fin 4) (h : Option HandoverRecord) : (s.setHo r h).clock = s.clock := rfl
@[simp] theorem setHo_mode (r : Fin 4) (h : Option HandoverRecord) : (s.setHo r h).mode = s.mode := rfl
@[simp] theorem setHo_laneA (r : Fin 4) (h : Option HandoverRecord) : (s.setHo r h).laneA = s.laneA := rfl
@[simp] theorem setHo_laneB (r : Fin 4) (h : Option HandoverRecord) : (s.setHo r h).laneB = s.laneB := rfl
@[simp] theorem setHo_tap (r : Fin 4) (h : Option HandoverRecord) : (s.setHo r h).tap = s.tap := rfl
@[simp] theorem setHo_ref (r : Fin 4) (h : Option HandoverRecord) : (s.setHo r h).ref = s.ref := rfl
@[simp] theorem setHo_busTrackers (r : Fin 4) (h : Option HandoverRecord) : (s.setHo r h).busTrackers = s.busTrackers := rfl
@[simp] theorem setHo_queue (r : Fin 4) (h : Option HandoverRecord) : (s.setHo r h).queue = s.queue := rfl
@[simp] theorem setHo_idCounter (r : Fin 4) (h : Option HandoverRecord) : (s.setHo r h).idCounter = s.idCounter := rfl
@[simp] theorem setHo_generation (r : Fin 4) (h : Option HandoverRecord) : (s.setHo r h).generation = s.generation := rfl
@[simp] theorem setHo_cues (r : Fin 4) (h : Option HandoverRecord) : (s.setHo r h).cues = s.cues := rfl
@[simp] theorem setHo_presets (r : Fin 4) (h : Option HandoverRecord) : (s.setHo r h).presets = s.presets := rfl
@[simp] theorem setHo_strobe (r : Fin 4) (h : Option HandoverRecord) : (s.setHo r h).strobe = s.strobe := rfl
@[simp] theorem setHo_pins (r : Fin 4) (h : Option HandoverRecord) : (s.setHo r h).pins = s.pins := rfl
@[simp] theorem setHo_channels (r : Fin 4) (h : Option HandoverRecord) : (s.setHo r h).channels = s.channels := rfl
@[simp] theorem setHo_breaks (r : Fin 4) (h : Option HandoverRecord) : (s.setHo r h).breaks = s.breaks := rfl
@[simp] theorem setHo_known (r : Fin 4) (h : Option HandoverRecord) : (s.setHo r h).known = s.known := rfl
@[simp] theorem setHo_bus (r : Fin 4) (h : Option HandoverRecord) : (s.setHo r h).bus = s.bus := rfl
@[simp] theorem setHo_link (r : Fin 4) (h : Option HandoverRecord) : (s.setHo r h).link = s.link := rfl
@[simp] theorem setHo_pending (r : Fin 4) (h : Option HandoverRecord) : (s.setHo r h).pending = s.pending := rfl

/-! ## `State.setBusTracker` -/
@[simp] theorem setBusTracker_clock (n : Fin 8) (t : BusTracker) : (s.setBusTracker n t).clock = s.clock := rfl
@[simp] theorem setBusTracker_mode (n : Fin 8) (t : BusTracker) : (s.setBusTracker n t).mode = s.mode := rfl
@[simp] theorem setBusTracker_laneA (n : Fin 8) (t : BusTracker) : (s.setBusTracker n t).laneA = s.laneA := rfl
@[simp] theorem setBusTracker_laneB (n : Fin 8) (t : BusTracker) : (s.setBusTracker n t).laneB = s.laneB := rfl
@[simp] theorem setBusTracker_tap (n : Fin 8) (t : BusTracker) : (s.setBusTracker n t).tap = s.tap := rfl
@[simp] theorem setBusTracker_ref (n : Fin 8) (t : BusTracker) : (s.setBusTracker n t).ref = s.ref := rfl
@[simp] theorem setBusTracker_queue (n : Fin 8) (t : BusTracker) : (s.setBusTracker n t).queue = s.queue := rfl
@[simp] theorem setBusTracker_idCounter (n : Fin 8) (t : BusTracker) : (s.setBusTracker n t).idCounter = s.idCounter := rfl
@[simp] theorem setBusTracker_generation (n : Fin 8) (t : BusTracker) : (s.setBusTracker n t).generation = s.generation := rfl
@[simp] theorem setBusTracker_cues (n : Fin 8) (t : BusTracker) : (s.setBusTracker n t).cues = s.cues := rfl
@[simp] theorem setBusTracker_presets (n : Fin 8) (t : BusTracker) : (s.setBusTracker n t).presets = s.presets := rfl
@[simp] theorem setBusTracker_strobe (n : Fin 8) (t : BusTracker) : (s.setBusTracker n t).strobe = s.strobe := rfl
@[simp] theorem setBusTracker_pins (n : Fin 8) (t : BusTracker) : (s.setBusTracker n t).pins = s.pins := rfl
@[simp] theorem setBusTracker_channels (n : Fin 8) (t : BusTracker) : (s.setBusTracker n t).channels = s.channels := rfl
@[simp] theorem setBusTracker_breaks (n : Fin 8) (t : BusTracker) : (s.setBusTracker n t).breaks = s.breaks := rfl
@[simp] theorem setBusTracker_handovers (n : Fin 8) (t : BusTracker) : (s.setBusTracker n t).handovers = s.handovers := rfl
@[simp] theorem setBusTracker_known (n : Fin 8) (t : BusTracker) : (s.setBusTracker n t).known = s.known := rfl
@[simp] theorem setBusTracker_bus (n : Fin 8) (t : BusTracker) : (s.setBusTracker n t).bus = s.bus := rfl
@[simp] theorem setBusTracker_link (n : Fin 8) (t : BusTracker) : (s.setBusTracker n t).link = s.link := rfl
@[simp] theorem setBusTracker_pending (n : Fin 8) (t : BusTracker) : (s.setBusTracker n t).pending = s.pending := rfl

/-! ## `State.modLink` -/
@[simp] theorem modLink_clock (f : Link → Link) : (s.modLink f).clock = s.clock := rfl
@[simp] theorem modLink_mode (f : Link → Link) : (s.modLink f).mode = s.mode := rfl
@[simp] theorem modLink_laneA (f : Link → Link) : (s.modLink f).laneA = s.laneA := rfl
@[simp] theorem modLink_laneB (f : Link → Link) : (s.modLink f).laneB = s.laneB := rfl
@[simp] theorem modLink_tap (f : Link → Link) : (s.modLink f).tap = s.tap := rfl
@[simp] theorem modLink_ref (f : Link → Link) : (s.modLink f).ref = s.ref := rfl
@[simp] theorem modLink_busTrackers (f : Link → Link) : (s.modLink f).busTrackers = s.busTrackers := rfl
@[simp] theorem modLink_queue (f : Link → Link) : (s.modLink f).queue = s.queue := rfl
@[simp] theorem modLink_idCounter (f : Link → Link) : (s.modLink f).idCounter = s.idCounter := rfl
@[simp] theorem modLink_generation (f : Link → Link) : (s.modLink f).generation = s.generation := rfl
@[simp] theorem modLink_cues (f : Link → Link) : (s.modLink f).cues = s.cues := rfl
@[simp] theorem modLink_presets (f : Link → Link) : (s.modLink f).presets = s.presets := rfl
@[simp] theorem modLink_strobe (f : Link → Link) : (s.modLink f).strobe = s.strobe := rfl
@[simp] theorem modLink_pins (f : Link → Link) : (s.modLink f).pins = s.pins := rfl
@[simp] theorem modLink_channels (f : Link → Link) : (s.modLink f).channels = s.channels := rfl
@[simp] theorem modLink_breaks (f : Link → Link) : (s.modLink f).breaks = s.breaks := rfl
@[simp] theorem modLink_handovers (f : Link → Link) : (s.modLink f).handovers = s.handovers := rfl
@[simp] theorem modLink_known (f : Link → Link) : (s.modLink f).known = s.known := rfl
@[simp] theorem modLink_bus (f : Link → Link) : (s.modLink f).bus = s.bus := rfl
@[simp] theorem modLink_pending (f : Link → Link) : (s.modLink f).pending = s.pending := rfl

/-! ## `State.modSticky` -/
@[simp] theorem modSticky_clock (f : StickyFlags → StickyFlags) : (s.modSticky f).clock = s.clock := rfl
@[simp] theorem modSticky_mode (f : StickyFlags → StickyFlags) : (s.modSticky f).mode = s.mode := rfl
@[simp] theorem modSticky_laneA (f : StickyFlags → StickyFlags) : (s.modSticky f).laneA = s.laneA := rfl
@[simp] theorem modSticky_laneB (f : StickyFlags → StickyFlags) : (s.modSticky f).laneB = s.laneB := rfl
@[simp] theorem modSticky_tap (f : StickyFlags → StickyFlags) : (s.modSticky f).tap = s.tap := rfl
@[simp] theorem modSticky_ref (f : StickyFlags → StickyFlags) : (s.modSticky f).ref = s.ref := rfl
@[simp] theorem modSticky_busTrackers (f : StickyFlags → StickyFlags) : (s.modSticky f).busTrackers = s.busTrackers := rfl
@[simp] theorem modSticky_queue (f : StickyFlags → StickyFlags) : (s.modSticky f).queue = s.queue := rfl
@[simp] theorem modSticky_idCounter (f : StickyFlags → StickyFlags) : (s.modSticky f).idCounter = s.idCounter := rfl
@[simp] theorem modSticky_generation (f : StickyFlags → StickyFlags) : (s.modSticky f).generation = s.generation := rfl
@[simp] theorem modSticky_cues (f : StickyFlags → StickyFlags) : (s.modSticky f).cues = s.cues := rfl
@[simp] theorem modSticky_presets (f : StickyFlags → StickyFlags) : (s.modSticky f).presets = s.presets := rfl
@[simp] theorem modSticky_strobe (f : StickyFlags → StickyFlags) : (s.modSticky f).strobe = s.strobe := rfl
@[simp] theorem modSticky_pins (f : StickyFlags → StickyFlags) : (s.modSticky f).pins = s.pins := rfl
@[simp] theorem modSticky_channels (f : StickyFlags → StickyFlags) : (s.modSticky f).channels = s.channels := rfl
@[simp] theorem modSticky_breaks (f : StickyFlags → StickyFlags) : (s.modSticky f).breaks = s.breaks := rfl
@[simp] theorem modSticky_handovers (f : StickyFlags → StickyFlags) : (s.modSticky f).handovers = s.handovers := rfl
@[simp] theorem modSticky_known (f : StickyFlags → StickyFlags) : (s.modSticky f).known = s.known := rfl
@[simp] theorem modSticky_bus (f : StickyFlags → StickyFlags) : (s.modSticky f).bus = s.bus := rfl
@[simp] theorem modSticky_pending (f : StickyFlags → StickyFlags) : (s.modSticky f).pending = s.pending := rfl

/-! ## `State.modCounts` -/
@[simp] theorem modCounts_clock (f : LinkCounts → LinkCounts) : (s.modCounts f).clock = s.clock := rfl
@[simp] theorem modCounts_mode (f : LinkCounts → LinkCounts) : (s.modCounts f).mode = s.mode := rfl
@[simp] theorem modCounts_laneA (f : LinkCounts → LinkCounts) : (s.modCounts f).laneA = s.laneA := rfl
@[simp] theorem modCounts_laneB (f : LinkCounts → LinkCounts) : (s.modCounts f).laneB = s.laneB := rfl
@[simp] theorem modCounts_tap (f : LinkCounts → LinkCounts) : (s.modCounts f).tap = s.tap := rfl
@[simp] theorem modCounts_ref (f : LinkCounts → LinkCounts) : (s.modCounts f).ref = s.ref := rfl
@[simp] theorem modCounts_busTrackers (f : LinkCounts → LinkCounts) : (s.modCounts f).busTrackers = s.busTrackers := rfl
@[simp] theorem modCounts_queue (f : LinkCounts → LinkCounts) : (s.modCounts f).queue = s.queue := rfl
@[simp] theorem modCounts_idCounter (f : LinkCounts → LinkCounts) : (s.modCounts f).idCounter = s.idCounter := rfl
@[simp] theorem modCounts_generation (f : LinkCounts → LinkCounts) : (s.modCounts f).generation = s.generation := rfl
@[simp] theorem modCounts_cues (f : LinkCounts → LinkCounts) : (s.modCounts f).cues = s.cues := rfl
@[simp] theorem modCounts_presets (f : LinkCounts → LinkCounts) : (s.modCounts f).presets = s.presets := rfl
@[simp] theorem modCounts_strobe (f : LinkCounts → LinkCounts) : (s.modCounts f).strobe = s.strobe := rfl
@[simp] theorem modCounts_pins (f : LinkCounts → LinkCounts) : (s.modCounts f).pins = s.pins := rfl
@[simp] theorem modCounts_channels (f : LinkCounts → LinkCounts) : (s.modCounts f).channels = s.channels := rfl
@[simp] theorem modCounts_breaks (f : LinkCounts → LinkCounts) : (s.modCounts f).breaks = s.breaks := rfl
@[simp] theorem modCounts_handovers (f : LinkCounts → LinkCounts) : (s.modCounts f).handovers = s.handovers := rfl
@[simp] theorem modCounts_known (f : LinkCounts → LinkCounts) : (s.modCounts f).known = s.known := rfl
@[simp] theorem modCounts_bus (f : LinkCounts → LinkCounts) : (s.modCounts f).bus = s.bus := rfl
@[simp] theorem modCounts_pending (f : LinkCounts → LinkCounts) : (s.modCounts f).pending = s.pending := rfl

/-! ## `State.modBus` -/
@[simp] theorem modBus_clock (f : Bus → Bus) : (s.modBus f).clock = s.clock := rfl
@[simp] theorem modBus_mode (f : Bus → Bus) : (s.modBus f).mode = s.mode := rfl
@[simp] theorem modBus_laneA (f : Bus → Bus) : (s.modBus f).laneA = s.laneA := rfl
@[simp] theorem modBus_laneB (f : Bus → Bus) : (s.modBus f).laneB = s.laneB := rfl
@[simp] theorem modBus_tap (f : Bus → Bus) : (s.modBus f).tap = s.tap := rfl
@[simp] theorem modBus_ref (f : Bus → Bus) : (s.modBus f).ref = s.ref := rfl
@[simp] theorem modBus_busTrackers (f : Bus → Bus) : (s.modBus f).busTrackers = s.busTrackers := rfl
@[simp] theorem modBus_queue (f : Bus → Bus) : (s.modBus f).queue = s.queue := rfl
@[simp] theorem modBus_idCounter (f : Bus → Bus) : (s.modBus f).idCounter = s.idCounter := rfl
@[simp] theorem modBus_generation (f : Bus → Bus) : (s.modBus f).generation = s.generation := rfl
@[simp] theorem modBus_cues (f : Bus → Bus) : (s.modBus f).cues = s.cues := rfl
@[simp] theorem modBus_presets (f : Bus → Bus) : (s.modBus f).presets = s.presets := rfl
@[simp] theorem modBus_strobe (f : Bus → Bus) : (s.modBus f).strobe = s.strobe := rfl
@[simp] theorem modBus_pins (f : Bus → Bus) : (s.modBus f).pins = s.pins := rfl
@[simp] theorem modBus_channels (f : Bus → Bus) : (s.modBus f).channels = s.channels := rfl
@[simp] theorem modBus_breaks (f : Bus → Bus) : (s.modBus f).breaks = s.breaks := rfl
@[simp] theorem modBus_handovers (f : Bus → Bus) : (s.modBus f).handovers = s.handovers := rfl
@[simp] theorem modBus_known (f : Bus → Bus) : (s.modBus f).known = s.known := rfl
@[simp] theorem modBus_link (f : Bus → Bus) : (s.modBus f).link = s.link := rfl
@[simp] theorem modBus_pending (f : Bus → Bus) : (s.modBus f).pending = s.pending := rfl

/-! ## `State.modLine` -/
@[simp] theorem modLine_clock (l : BusLine) (f : BusLineState → BusLineState) : (s.modLine l f).clock = s.clock := rfl
@[simp] theorem modLine_mode (l : BusLine) (f : BusLineState → BusLineState) : (s.modLine l f).mode = s.mode := rfl
@[simp] theorem modLine_laneA (l : BusLine) (f : BusLineState → BusLineState) : (s.modLine l f).laneA = s.laneA := rfl
@[simp] theorem modLine_laneB (l : BusLine) (f : BusLineState → BusLineState) : (s.modLine l f).laneB = s.laneB := rfl
@[simp] theorem modLine_tap (l : BusLine) (f : BusLineState → BusLineState) : (s.modLine l f).tap = s.tap := rfl
@[simp] theorem modLine_ref (l : BusLine) (f : BusLineState → BusLineState) : (s.modLine l f).ref = s.ref := rfl
@[simp] theorem modLine_busTrackers (l : BusLine) (f : BusLineState → BusLineState) : (s.modLine l f).busTrackers = s.busTrackers := rfl
@[simp] theorem modLine_queue (l : BusLine) (f : BusLineState → BusLineState) : (s.modLine l f).queue = s.queue := rfl
@[simp] theorem modLine_idCounter (l : BusLine) (f : BusLineState → BusLineState) : (s.modLine l f).idCounter = s.idCounter := rfl
@[simp] theorem modLine_generation (l : BusLine) (f : BusLineState → BusLineState) : (s.modLine l f).generation = s.generation := rfl
@[simp] theorem modLine_cues (l : BusLine) (f : BusLineState → BusLineState) : (s.modLine l f).cues = s.cues := rfl
@[simp] theorem modLine_presets (l : BusLine) (f : BusLineState → BusLineState) : (s.modLine l f).presets = s.presets := rfl
@[simp] theorem modLine_strobe (l : BusLine) (f : BusLineState → BusLineState) : (s.modLine l f).strobe = s.strobe := rfl
@[simp] theorem modLine_pins (l : BusLine) (f : BusLineState → BusLineState) : (s.modLine l f).pins = s.pins := rfl
@[simp] theorem modLine_channels (l : BusLine) (f : BusLineState → BusLineState) : (s.modLine l f).channels = s.channels := rfl
@[simp] theorem modLine_breaks (l : BusLine) (f : BusLineState → BusLineState) : (s.modLine l f).breaks = s.breaks := rfl
@[simp] theorem modLine_handovers (l : BusLine) (f : BusLineState → BusLineState) : (s.modLine l f).handovers = s.handovers := rfl
@[simp] theorem modLine_known (l : BusLine) (f : BusLineState → BusLineState) : (s.modLine l f).known = s.known := rfl
@[simp] theorem modLine_link (l : BusLine) (f : BusLineState → BusLineState) : (s.modLine l f).link = s.link := rfl
@[simp] theorem modLine_pending (l : BusLine) (f : BusLineState → BusLineState) : (s.modLine l f).pending = s.pending := rfl

/-! ## `State.retime` -/
@[simp] theorem retime_clock (id : Nat) (timing : LaneId) (due : Due) : (s.retime id timing due).clock = s.clock := rfl
@[simp] theorem retime_mode (id : Nat) (timing : LaneId) (due : Due) : (s.retime id timing due).mode = s.mode := rfl
@[simp] theorem retime_laneA (id : Nat) (timing : LaneId) (due : Due) : (s.retime id timing due).laneA = s.laneA := rfl
@[simp] theorem retime_laneB (id : Nat) (timing : LaneId) (due : Due) : (s.retime id timing due).laneB = s.laneB := rfl
@[simp] theorem retime_tap (id : Nat) (timing : LaneId) (due : Due) : (s.retime id timing due).tap = s.tap := rfl
@[simp] theorem retime_ref (id : Nat) (timing : LaneId) (due : Due) : (s.retime id timing due).ref = s.ref := rfl
@[simp] theorem retime_busTrackers (id : Nat) (timing : LaneId) (due : Due) : (s.retime id timing due).busTrackers = s.busTrackers := rfl
@[simp] theorem retime_idCounter (id : Nat) (timing : LaneId) (due : Due) : (s.retime id timing due).idCounter = s.idCounter := rfl
@[simp] theorem retime_generation (id : Nat) (timing : LaneId) (due : Due) : (s.retime id timing due).generation = s.generation := rfl
@[simp] theorem retime_cues (id : Nat) (timing : LaneId) (due : Due) : (s.retime id timing due).cues = s.cues := rfl
@[simp] theorem retime_presets (id : Nat) (timing : LaneId) (due : Due) : (s.retime id timing due).presets = s.presets := rfl
@[simp] theorem retime_strobe (id : Nat) (timing : LaneId) (due : Due) : (s.retime id timing due).strobe = s.strobe := rfl
@[simp] theorem retime_pins (id : Nat) (timing : LaneId) (due : Due) : (s.retime id timing due).pins = s.pins := rfl
@[simp] theorem retime_channels (id : Nat) (timing : LaneId) (due : Due) : (s.retime id timing due).channels = s.channels := rfl
@[simp] theorem retime_breaks (id : Nat) (timing : LaneId) (due : Due) : (s.retime id timing due).breaks = s.breaks := rfl
@[simp] theorem retime_handovers (id : Nat) (timing : LaneId) (due : Due) : (s.retime id timing due).handovers = s.handovers := rfl
@[simp] theorem retime_known (id : Nat) (timing : LaneId) (due : Due) : (s.retime id timing due).known = s.known := rfl
@[simp] theorem retime_bus (id : Nat) (timing : LaneId) (due : Due) : (s.retime id timing due).bus = s.bus := rfl
@[simp] theorem retime_link (id : Nat) (timing : LaneId) (due : Due) : (s.retime id timing due).link = s.link := rfl
@[simp] theorem retime_pending (id : Nat) (timing : LaneId) (due : Due) : (s.retime id timing due).pending = s.pending := rfl

/-! ## `State.removeEntry` -/
@[simp] theorem removeEntry_clock (id : Nat) : (s.removeEntry id).clock = s.clock := rfl
@[simp] theorem removeEntry_mode (id : Nat) : (s.removeEntry id).mode = s.mode := rfl
@[simp] theorem removeEntry_laneA (id : Nat) : (s.removeEntry id).laneA = s.laneA := rfl
@[simp] theorem removeEntry_laneB (id : Nat) : (s.removeEntry id).laneB = s.laneB := rfl
@[simp] theorem removeEntry_tap (id : Nat) : (s.removeEntry id).tap = s.tap := rfl
@[simp] theorem removeEntry_ref (id : Nat) : (s.removeEntry id).ref = s.ref := rfl
@[simp] theorem removeEntry_busTrackers (id : Nat) : (s.removeEntry id).busTrackers = s.busTrackers := rfl
@[simp] theorem removeEntry_idCounter (id : Nat) : (s.removeEntry id).idCounter = s.idCounter := rfl
@[simp] theorem removeEntry_cues (id : Nat) : (s.removeEntry id).cues = s.cues := rfl
@[simp] theorem removeEntry_presets (id : Nat) : (s.removeEntry id).presets = s.presets := rfl
@[simp] theorem removeEntry_strobe (id : Nat) : (s.removeEntry id).strobe = s.strobe := rfl
@[simp] theorem removeEntry_pins (id : Nat) : (s.removeEntry id).pins = s.pins := rfl
@[simp] theorem removeEntry_channels (id : Nat) : (s.removeEntry id).channels = s.channels := rfl
@[simp] theorem removeEntry_breaks (id : Nat) : (s.removeEntry id).breaks = s.breaks := rfl
@[simp] theorem removeEntry_handovers (id : Nat) : (s.removeEntry id).handovers = s.handovers := rfl
@[simp] theorem removeEntry_known (id : Nat) : (s.removeEntry id).known = s.known := rfl
@[simp] theorem removeEntry_bus (id : Nat) : (s.removeEntry id).bus = s.bus := rfl
@[simp] theorem removeEntry_link (id : Nat) : (s.removeEntry id).link = s.link := rfl
@[simp] theorem removeEntry_pending (id : Nat) : (s.removeEntry id).pending = s.pending := rfl

/-! ## `State.addEntry` -/
@[simp] theorem addEntry_clock (m : Maker) (x : LaneId) (d : Due) (c : Change) : (s.addEntry m x d c).clock = s.clock := rfl
@[simp] theorem addEntry_mode (m : Maker) (x : LaneId) (d : Due) (c : Change) : (s.addEntry m x d c).mode = s.mode := rfl
@[simp] theorem addEntry_laneA (m : Maker) (x : LaneId) (d : Due) (c : Change) : (s.addEntry m x d c).laneA = s.laneA := rfl
@[simp] theorem addEntry_laneB (m : Maker) (x : LaneId) (d : Due) (c : Change) : (s.addEntry m x d c).laneB = s.laneB := rfl
@[simp] theorem addEntry_tap (m : Maker) (x : LaneId) (d : Due) (c : Change) : (s.addEntry m x d c).tap = s.tap := rfl
@[simp] theorem addEntry_ref (m : Maker) (x : LaneId) (d : Due) (c : Change) : (s.addEntry m x d c).ref = s.ref := rfl
@[simp] theorem addEntry_busTrackers (m : Maker) (x : LaneId) (d : Due) (c : Change) : (s.addEntry m x d c).busTrackers = s.busTrackers := rfl
@[simp] theorem addEntry_cues (m : Maker) (x : LaneId) (d : Due) (c : Change) : (s.addEntry m x d c).cues = s.cues := rfl
@[simp] theorem addEntry_presets (m : Maker) (x : LaneId) (d : Due) (c : Change) : (s.addEntry m x d c).presets = s.presets := rfl
@[simp] theorem addEntry_strobe (m : Maker) (x : LaneId) (d : Due) (c : Change) : (s.addEntry m x d c).strobe = s.strobe := rfl
@[simp] theorem addEntry_pins (m : Maker) (x : LaneId) (d : Due) (c : Change) : (s.addEntry m x d c).pins = s.pins := rfl
@[simp] theorem addEntry_channels (m : Maker) (x : LaneId) (d : Due) (c : Change) : (s.addEntry m x d c).channels = s.channels := rfl
@[simp] theorem addEntry_breaks (m : Maker) (x : LaneId) (d : Due) (c : Change) : (s.addEntry m x d c).breaks = s.breaks := rfl
@[simp] theorem addEntry_handovers (m : Maker) (x : LaneId) (d : Due) (c : Change) : (s.addEntry m x d c).handovers = s.handovers := rfl
@[simp] theorem addEntry_known (m : Maker) (x : LaneId) (d : Due) (c : Change) : (s.addEntry m x d c).known = s.known := rfl
@[simp] theorem addEntry_bus (m : Maker) (x : LaneId) (d : Due) (c : Change) : (s.addEntry m x d c).bus = s.bus := rfl
@[simp] theorem addEntry_link (m : Maker) (x : LaneId) (d : Due) (c : Change) : (s.addEntry m x d c).link = s.link := rfl
@[simp] theorem addEntry_pending (m : Maker) (x : LaneId) (d : Due) (c : Change) : (s.addEntry m x d c).pending = s.pending := rfl

/-! ## `State.bumpGeneration` -/
@[simp] theorem bumpGeneration_clock : (s.bumpGeneration).clock = s.clock := rfl
@[simp] theorem bumpGeneration_mode : (s.bumpGeneration).mode = s.mode := rfl
@[simp] theorem bumpGeneration_laneA : (s.bumpGeneration).laneA = s.laneA := rfl
@[simp] theorem bumpGeneration_laneB : (s.bumpGeneration).laneB = s.laneB := rfl
@[simp] theorem bumpGeneration_tap : (s.bumpGeneration).tap = s.tap := rfl
@[simp] theorem bumpGeneration_ref : (s.bumpGeneration).ref = s.ref := rfl
@[simp] theorem bumpGeneration_busTrackers : (s.bumpGeneration).busTrackers = s.busTrackers := rfl
@[simp] theorem bumpGeneration_queue : (s.bumpGeneration).queue = s.queue := rfl
@[simp] theorem bumpGeneration_idCounter : (s.bumpGeneration).idCounter = s.idCounter := rfl
@[simp] theorem bumpGeneration_cues : (s.bumpGeneration).cues = s.cues := rfl
@[simp] theorem bumpGeneration_presets : (s.bumpGeneration).presets = s.presets := rfl
@[simp] theorem bumpGeneration_strobe : (s.bumpGeneration).strobe = s.strobe := rfl
@[simp] theorem bumpGeneration_pins : (s.bumpGeneration).pins = s.pins := rfl
@[simp] theorem bumpGeneration_channels : (s.bumpGeneration).channels = s.channels := rfl
@[simp] theorem bumpGeneration_breaks : (s.bumpGeneration).breaks = s.breaks := rfl
@[simp] theorem bumpGeneration_handovers : (s.bumpGeneration).handovers = s.handovers := rfl
@[simp] theorem bumpGeneration_known : (s.bumpGeneration).known = s.known := rfl
@[simp] theorem bumpGeneration_bus : (s.bumpGeneration).bus = s.bus := rfl
@[simp] theorem bumpGeneration_link : (s.bumpGeneration).link = s.link := rfl
@[simp] theorem bumpGeneration_pending : (s.bumpGeneration).pending = s.pending := rfl

/-! ## `State.ripenJoins` -/
@[simp] theorem ripenJoins_clock (x : LaneId) : (s.ripenJoins x).clock = s.clock := rfl
@[simp] theorem ripenJoins_mode (x : LaneId) : (s.ripenJoins x).mode = s.mode := rfl
@[simp] theorem ripenJoins_laneA (x : LaneId) : (s.ripenJoins x).laneA = s.laneA := rfl
@[simp] theorem ripenJoins_laneB (x : LaneId) : (s.ripenJoins x).laneB = s.laneB := rfl
@[simp] theorem ripenJoins_tap (x : LaneId) : (s.ripenJoins x).tap = s.tap := rfl
@[simp] theorem ripenJoins_ref (x : LaneId) : (s.ripenJoins x).ref = s.ref := rfl
@[simp] theorem ripenJoins_busTrackers (x : LaneId) : (s.ripenJoins x).busTrackers = s.busTrackers := rfl
@[simp] theorem ripenJoins_idCounter (x : LaneId) : (s.ripenJoins x).idCounter = s.idCounter := rfl
@[simp] theorem ripenJoins_generation (x : LaneId) : (s.ripenJoins x).generation = s.generation := rfl
@[simp] theorem ripenJoins_cues (x : LaneId) : (s.ripenJoins x).cues = s.cues := rfl
@[simp] theorem ripenJoins_presets (x : LaneId) : (s.ripenJoins x).presets = s.presets := rfl
@[simp] theorem ripenJoins_strobe (x : LaneId) : (s.ripenJoins x).strobe = s.strobe := rfl
@[simp] theorem ripenJoins_pins (x : LaneId) : (s.ripenJoins x).pins = s.pins := rfl
@[simp] theorem ripenJoins_channels (x : LaneId) : (s.ripenJoins x).channels = s.channels := rfl
@[simp] theorem ripenJoins_breaks (x : LaneId) : (s.ripenJoins x).breaks = s.breaks := rfl
@[simp] theorem ripenJoins_handovers (x : LaneId) : (s.ripenJoins x).handovers = s.handovers := rfl
@[simp] theorem ripenJoins_known (x : LaneId) : (s.ripenJoins x).known = s.known := rfl
@[simp] theorem ripenJoins_bus (x : LaneId) : (s.ripenJoins x).bus = s.bus := rfl
@[simp] theorem ripenJoins_link (x : LaneId) : (s.ripenJoins x).link = s.link := rfl
@[simp] theorem ripenJoins_pending (x : LaneId) : (s.ripenJoins x).pending = s.pending := rfl

/-! ## `State.takeHead` -/
@[simp] theorem takeHead_clock : (s.takeHead).clock = s.clock := rfl
@[simp] theorem takeHead_mode : (s.takeHead).mode = s.mode := rfl
@[simp] theorem takeHead_laneA : (s.takeHead).laneA = s.laneA := rfl
@[simp] theorem takeHead_laneB : (s.takeHead).laneB = s.laneB := rfl
@[simp] theorem takeHead_tap : (s.takeHead).tap = s.tap := rfl
@[simp] theorem takeHead_ref : (s.takeHead).ref = s.ref := rfl
@[simp] theorem takeHead_busTrackers : (s.takeHead).busTrackers = s.busTrackers := rfl
@[simp] theorem takeHead_queue : (s.takeHead).queue = s.queue := rfl
@[simp] theorem takeHead_idCounter : (s.takeHead).idCounter = s.idCounter := rfl
@[simp] theorem takeHead_generation : (s.takeHead).generation = s.generation := rfl
@[simp] theorem takeHead_cues : (s.takeHead).cues = s.cues := rfl
@[simp] theorem takeHead_presets : (s.takeHead).presets = s.presets := rfl
@[simp] theorem takeHead_strobe : (s.takeHead).strobe = s.strobe := rfl
@[simp] theorem takeHead_pins : (s.takeHead).pins = s.pins := rfl
@[simp] theorem takeHead_channels : (s.takeHead).channels = s.channels := rfl
@[simp] theorem takeHead_breaks : (s.takeHead).breaks = s.breaks := rfl
@[simp] theorem takeHead_handovers : (s.takeHead).handovers = s.handovers := rfl
@[simp] theorem takeHead_known : (s.takeHead).known = s.known := rfl
@[simp] theorem takeHead_bus : (s.takeHead).bus = s.bus := rfl
@[simp] theorem takeHead_pending : (s.takeHead).pending = s.pending := rfl

/-! ## `State.reply` -/
@[simp] theorem reply_clock (type tag : Byte) (p : List Byte) (z : Bool) : (s.reply type tag p z).clock = s.clock := rfl
@[simp] theorem reply_mode (type tag : Byte) (p : List Byte) (z : Bool) : (s.reply type tag p z).mode = s.mode := rfl
@[simp] theorem reply_laneA (type tag : Byte) (p : List Byte) (z : Bool) : (s.reply type tag p z).laneA = s.laneA := rfl
@[simp] theorem reply_laneB (type tag : Byte) (p : List Byte) (z : Bool) : (s.reply type tag p z).laneB = s.laneB := rfl
@[simp] theorem reply_tap (type tag : Byte) (p : List Byte) (z : Bool) : (s.reply type tag p z).tap = s.tap := rfl
@[simp] theorem reply_ref (type tag : Byte) (p : List Byte) (z : Bool) : (s.reply type tag p z).ref = s.ref := rfl
@[simp] theorem reply_busTrackers (type tag : Byte) (p : List Byte) (z : Bool) : (s.reply type tag p z).busTrackers = s.busTrackers := rfl
@[simp] theorem reply_queue (type tag : Byte) (p : List Byte) (z : Bool) : (s.reply type tag p z).queue = s.queue := rfl
@[simp] theorem reply_idCounter (type tag : Byte) (p : List Byte) (z : Bool) : (s.reply type tag p z).idCounter = s.idCounter := rfl
@[simp] theorem reply_generation (type tag : Byte) (p : List Byte) (z : Bool) : (s.reply type tag p z).generation = s.generation := rfl
@[simp] theorem reply_cues (type tag : Byte) (p : List Byte) (z : Bool) : (s.reply type tag p z).cues = s.cues := rfl
@[simp] theorem reply_presets (type tag : Byte) (p : List Byte) (z : Bool) : (s.reply type tag p z).presets = s.presets := rfl
@[simp] theorem reply_strobe (type tag : Byte) (p : List Byte) (z : Bool) : (s.reply type tag p z).strobe = s.strobe := rfl
@[simp] theorem reply_pins (type tag : Byte) (p : List Byte) (z : Bool) : (s.reply type tag p z).pins = s.pins := rfl
@[simp] theorem reply_channels (type tag : Byte) (p : List Byte) (z : Bool) : (s.reply type tag p z).channels = s.channels := rfl
@[simp] theorem reply_breaks (type tag : Byte) (p : List Byte) (z : Bool) : (s.reply type tag p z).breaks = s.breaks := rfl
@[simp] theorem reply_handovers (type tag : Byte) (p : List Byte) (z : Bool) : (s.reply type tag p z).handovers = s.handovers := rfl
@[simp] theorem reply_known (type tag : Byte) (p : List Byte) (z : Bool) : (s.reply type tag p z).known = s.known := rfl
@[simp] theorem reply_bus (type tag : Byte) (p : List Byte) (z : Bool) : (s.reply type tag p z).bus = s.bus := rfl
@[simp] theorem reply_pending (type tag : Byte) (p : List Byte) (z : Bool) : (s.reply type tag p z).pending = s.pending := rfl

/-! ## `State.post` -/
@[simp] theorem post_clock (n : NoticeBody) : (s.post n).clock = s.clock := by simp only [State.post]; split <;> (try split) <;> rfl
@[simp] theorem post_mode (n : NoticeBody) : (s.post n).mode = s.mode := by simp only [State.post]; split <;> (try split) <;> rfl
@[simp] theorem post_laneA (n : NoticeBody) : (s.post n).laneA = s.laneA := by simp only [State.post]; split <;> (try split) <;> rfl
@[simp] theorem post_laneB (n : NoticeBody) : (s.post n).laneB = s.laneB := by simp only [State.post]; split <;> (try split) <;> rfl
@[simp] theorem post_tap (n : NoticeBody) : (s.post n).tap = s.tap := by simp only [State.post]; split <;> (try split) <;> rfl
@[simp] theorem post_ref (n : NoticeBody) : (s.post n).ref = s.ref := by simp only [State.post]; split <;> (try split) <;> rfl
@[simp] theorem post_busTrackers (n : NoticeBody) : (s.post n).busTrackers = s.busTrackers := by simp only [State.post]; split <;> (try split) <;> rfl
@[simp] theorem post_queue (n : NoticeBody) : (s.post n).queue = s.queue := by simp only [State.post]; split <;> (try split) <;> rfl
@[simp] theorem post_idCounter (n : NoticeBody) : (s.post n).idCounter = s.idCounter := by simp only [State.post]; split <;> (try split) <;> rfl
@[simp] theorem post_generation (n : NoticeBody) : (s.post n).generation = s.generation := by simp only [State.post]; split <;> (try split) <;> rfl
@[simp] theorem post_cues (n : NoticeBody) : (s.post n).cues = s.cues := by simp only [State.post]; split <;> (try split) <;> rfl
@[simp] theorem post_presets (n : NoticeBody) : (s.post n).presets = s.presets := by simp only [State.post]; split <;> (try split) <;> rfl
@[simp] theorem post_strobe (n : NoticeBody) : (s.post n).strobe = s.strobe := by simp only [State.post]; split <;> (try split) <;> rfl
@[simp] theorem post_pins (n : NoticeBody) : (s.post n).pins = s.pins := by simp only [State.post]; split <;> (try split) <;> rfl
@[simp] theorem post_channels (n : NoticeBody) : (s.post n).channels = s.channels := by simp only [State.post]; split <;> (try split) <;> rfl
@[simp] theorem post_breaks (n : NoticeBody) : (s.post n).breaks = s.breaks := by simp only [State.post]; split <;> (try split) <;> rfl
@[simp] theorem post_handovers (n : NoticeBody) : (s.post n).handovers = s.handovers := by simp only [State.post]; split <;> (try split) <;> rfl
@[simp] theorem post_known (n : NoticeBody) : (s.post n).known = s.known := by simp only [State.post]; split <;> (try split) <;> rfl
@[simp] theorem post_bus (n : NoticeBody) : (s.post n).bus = s.bus := by simp only [State.post]; split <;> (try split) <;> rfl
@[simp] theorem post_pending (n : NoticeBody) : (s.post n).pending = s.pending := by simp only [State.post]; split <;> (try split) <;> rfl

/-! ## Reading what was written -/
@[simp] theorem lane_setLane_same (x : LaneId) (l : Lane) : (s.setLane x l).lane x = l := by cases x <;> rfl

@[simp] theorem lane_setLane_other (x : LaneId) (l : Lane) : (s.setLane x l).lane (otherLane x) = s.lane (otherLane x) := by
  cases x <;> rfl

@[simp] theorem lane_setLane_other' (x : LaneId) (l : Lane) : (s.setLane (otherLane x) l).lane x = s.lane x := by
  cases x <;> rfl

theorem lane_setLane (x y : LaneId) (l : Lane) : (s.setLane x l).lane y = if y = x then l else s.lane y := by
  cases x <;> cases y <;> rfl

@[simp] theorem lane_modLane_same (x : LaneId) (f : Lane → Lane) : (s.modLane x f).lane x = f (s.lane x) := by
  cases x <;> rfl

@[simp] theorem lane_modLane_other (x : LaneId) (f : Lane → Lane) :
    (s.modLane x f).lane (otherLane x) = s.lane (otherLane x) := by cases x <;> rfl

@[simp] theorem lane_modLane_other' (x : LaneId) (f : Lane → Lane) :
    (s.modLane (otherLane x) f).lane x = s.lane x := by cases x <;> rfl

@[simp] theorem otherLane_otherLane (x : LaneId) : otherLane (otherLane x) = x := by cases x <;> rfl

theorem otherLane_ne (x : LaneId) : otherLane x ≠ x := by cases x <;> decide

@[simp] theorem setLane_lane (x : LaneId) : s.setLane x (s.lane x) = s := by cases x <;> rfl

theorem lane_eq_of_lanes {s t : State} (a : t.laneA = s.laneA) (b : t.laneB = s.laneB) (x : LaneId) :
    t.lane x = s.lane x := by cases x <;> assumption

@[simp] theorem chan_setChan_same (n : Fin 16) (c : Channel) : (s.setChan n c).chan n = c := by
  simp [State.setChan, State.chan]

theorem chan_setChan_ne (n m : Fin 16) (c : Channel) (h : m ≠ n) : (s.setChan n c).chan m = s.chan m := by
  have : n.val ≠ m.val := fun e => h (Fin.ext e.symm)
  simp [State.setChan, State.chan, Vector.getElem_set_ne, this]

theorem chan_setChan (n m : Fin 16) (c : Channel) : (s.setChan n c).chan m = if m = n then c else s.chan m := by
  by_cases h : m = n
  · subst h; simp
  · simp [h, chan_setChan_ne]

theorem chan_modChan (n m : Fin 16) (f : Channel → Channel) :
    (s.modChan n f).chan m = if m = n then f (s.chan n) else s.chan m := chan_setChan s n m _

@[simp] theorem chan_modChan_same (n : Fin 16) (f : Channel → Channel) : (s.modChan n f).chan n = f (s.chan n) := by
  simp [chan_modChan]

theorem chan_eq_of_channels {s t : State} (h : t.channels = s.channels) (n : Fin 16) : t.chan n = s.chan n := by
  simp [State.chan, h]

theorem brk_setBrk (r q : Fin 4) (b : Option BreakRecord) : (s.setBrk r b).brk q = if q = r then b else s.brk q := by
  by_cases h : q = r
  · subst h; simp [State.setBrk, State.brk]
  · have : r.val ≠ q.val := fun e => h (Fin.ext e.symm)
    simp [State.setBrk, State.brk, Vector.getElem_set_ne, this, h]

theorem ho_setHo (r q : Fin 4) (b : Option HandoverRecord) : (s.setHo r b).ho q = if q = r then b else s.ho q := by
  by_cases h : q = r
  · subst h; simp [State.setHo, State.ho]
  · have : r.val ≠ q.val := fun e => h (Fin.ext e.symm)
    simp [State.setHo, State.ho, Vector.getElem_set_ne, this, h]

theorem busTracker_setBusTracker (n m : Fin 8) (t : BusTracker) :
    (s.setBusTracker n t).busTracker m = if m = n then t else s.busTracker m := by
  by_cases h : m = n
  · subst h; simp [State.setBusTracker, State.busTracker]
  · have : n.val ≠ m.val := fun e => h (Fin.ext e.symm)
    simp [State.setBusTracker, State.busTracker, Vector.getElem_set_ne, this, h]

/-! ## Folds over channels, records and lanes -/
/-- What every channel's update keeps, the fold over the channels keeps. -/
theorem forChannels_keeps {P : State → Prop} {f : Fin 16 → State → State} (h : ∀ n t, P t → P (f n t)) :
    P s → P (s.forChannels f) := by
  unfold State.forChannels
  generalize allChannels = l
  induction l generalizing s with
  | nil => exact id
  | cons n l ih => exact fun hp => ih (f n s) (h n s hp)

/-- What every element's update keeps, a fold keeps. -/
theorem foldl_keeps {α : Type} {P : State → Prop} {f : State → α → State} (l : List α)
    (h : ∀ t a, a ∈ l → P t → P (f t a)) : P s → P (l.foldl f s) := by
  induction l generalizing s with
  | nil => exact id
  | cons a l ih =>
    exact fun hp => ih (f s a) (fun t b hb => h t b (List.mem_cons_of_mem _ hb)) (h s a List.mem_cons_self hp)

/-- A field that every channel's update leaves alone is left alone by the fold. -/
theorem forChannels_frame {α : Type} (field : State → α) {f : Fin 16 → State → State}
    (h : ∀ n t, field (f n t) = field t) : field (s.forChannels f) = field s :=
  forChannels_keeps (P := fun t => field t = field s) s (fun n t ht => (h n t).trans ht) rfl

/-- A fold in which each channel's update touches that channel alone, and depends on it alone, updates every
channel. -/
theorem forChannels_chan {f : Fin 16 → State → State} {g : Fin 16 → Channel → Channel}
    (h : ∀ n t m, (f n t).chan m = if m = n then g n (t.chan n) else t.chan m) (m : Fin 16) :
    (s.forChannels f).chan m = g m (s.chan m) := by
  unfold State.forChannels allChannels
  simp only [List.foldl_cons, List.foldl_nil, h]
  fin_cases m <;> rfl

end Sys2Proof.Machine
end

