-- ==== Sys2Proof/Laws/Channels.lean ====
section
/-! SUPPORT. What the operations on one channel leave alone, the running state they give it, and what a start, a stop
and a resume of a lane do to every channel. -/

namespace Sys2Proof.Machine

/-! ## Operations on one channel record -/

section
variable (c : Channel)

@[simp] theorem putSlot_cfg (i : SlotItem) : (c.putSlot i).cfg = c.cfg := by unfold Channel.putSlot; split <;> rfl
@[simp] theorem putSlot_running (i : SlotItem) : (c.putSlot i).running = c.running := by unfold Channel.putSlot; split <;> rfl
@[simp] theorem putSlot_fifo (i : SlotItem) : (c.putSlot i).fifo = c.fifo := by unfold Channel.putSlot; split <;> rfl
@[simp] theorem putSlot_brk (i : SlotItem) : (c.putSlot i).brk = c.brk := by unfold Channel.putSlot; split <;> rfl
@[simp] theorem putSlot_ho (i : SlotItem) : (c.putSlot i).ho = c.ho := by unfold Channel.putSlot; split <;> rfl
@[simp] theorem putSlot_level (i : SlotItem) : (c.putSlot i).level = c.level := by unfold Channel.putSlot; split <;> rfl
@[simp] theorem putSlot_emitted (i : SlotItem) : (c.putSlot i).emitted = c.emitted := by unfold Channel.putSlot; split <;> rfl

@[simp] theorem codePut_cfg (i : SlotItem) : (c.codePut i).cfg = c.cfg := by unfold Channel.codePut; split <;> simp
@[simp] theorem codePut_running (i : SlotItem) : (c.codePut i).running = c.running := by unfold Channel.codePut; split <;> simp
@[simp] theorem codePut_fifo (i : SlotItem) : (c.codePut i).fifo = c.fifo := by unfold Channel.codePut; split <;> simp
@[simp] theorem codePut_brk (i : SlotItem) : (c.codePut i).brk = c.brk := by unfold Channel.codePut; split <;> simp
@[simp] theorem codePut_ho (i : SlotItem) : (c.codePut i).ho = c.ho := by unfold Channel.codePut; split <;> simp
@[simp] theorem codePut_level (i : SlotItem) : (c.codePut i).level = c.level := by unfold Channel.codePut; split <;> simp
@[simp] theorem codePut_emitted (i : SlotItem) : (c.codePut i).emitted = c.emitted := by unfold Channel.codePut; split <;> simp

@[simp] theorem restartCounts_cfg (o : Position) : (c.restartCounts o).cfg = c.cfg := rfl
@[simp] theorem restartCounts_running (o : Position) : (c.restartCounts o).running = c.running := rfl
@[simp] theorem restartCounts_fifo (o : Position) : (c.restartCounts o).fifo = c.fifo := rfl
@[simp] theorem restartCounts_brk (o : Position) : (c.restartCounts o).brk = c.brk := rfl
@[simp] theorem restartCounts_ho (o : Position) : (c.restartCounts o).ho = c.ho := rfl
@[simp] theorem restartCounts_level (o : Position) : (c.restartCounts o).level = c.level := rfl
@[simp] theorem restartCounts_slot (o : Position) : (c.restartCounts o).slot = c.slot := rfl

@[simp] theorem startAt_cfg (o : Position) : (c.startAt o).cfg = c.cfg := by simp [Channel.startAt]
@[simp] theorem startAt_fifo (o : Position) : (c.startAt o).fifo = c.fifo := by simp [Channel.startAt]
@[simp] theorem startAt_brk (o : Position) : (c.startAt o).brk = c.brk := by simp [Channel.startAt]
@[simp] theorem startAt_ho (o : Position) : (c.startAt o).ho = c.ho := by simp [Channel.startAt]
@[simp] theorem startAt_level (o : Position) : (c.startAt o).level = c.level := by simp [Channel.startAt]

@[simp] theorem stop_cfg : (c.stop).cfg = c.cfg := by simp [Channel.stop]
@[simp] theorem stop_fifo : (c.stop).fifo = c.fifo := by simp [Channel.stop]
@[simp] theorem stop_brk : (c.stop).brk = c.brk := by simp [Channel.stop]
@[simp] theorem stop_ho : (c.stop).ho = c.ho := by simp [Channel.stop]
@[simp] theorem stop_level : (c.stop).level = c.level := by simp [Channel.stop]
@[simp] theorem stop_emitted : (c.stop).emitted = c.emitted := by simp [Channel.stop]

@[simp] theorem resume_cfg (p : Nat) : (c.resume p).cfg = c.cfg := by simp [Channel.resume]
@[simp] theorem resume_fifo (p : Nat) : (c.resume p).fifo = c.fifo := by simp [Channel.resume]
@[simp] theorem resume_brk (p : Nat) : (c.resume p).brk = c.brk := by simp [Channel.resume]
@[simp] theorem resume_ho (p : Nat) : (c.resume p).ho = c.ho := by simp [Channel.resume]
@[simp] theorem resume_level (p : Nat) : (c.resume p).level = c.level := by simp [Channel.resume]
@[simp] theorem resume_emitted (p : Nat) : (c.resume p).emitted = c.emitted := by simp [Channel.resume]

@[simp] theorem reorigin_cfg (y : Position) : (c.reorigin y).cfg = c.cfg := rfl
@[simp] theorem reorigin_running (y : Position) : (c.reorigin y).running = c.running := rfl
@[simp] theorem reorigin_fifo (y : Position) : (c.reorigin y).fifo = c.fifo := rfl
@[simp] theorem reorigin_brk (y : Position) : (c.reorigin y).brk = c.brk := rfl
@[simp] theorem reorigin_ho (y : Position) : (c.reorigin y).ho = c.ho := rfl
@[simp] theorem reorigin_level (y : Position) : (c.reorigin y).level = c.level := rfl
@[simp] theorem reorigin_emitted (y : Position) : (c.reorigin y).emitted = c.emitted := rfl
@[simp] theorem reorigin_slot (y : Position) : (c.reorigin y).slot = c.slot := rfl

@[simp] theorem cutLine_cfg (now : Nat) : (c.cutLine now).cfg = c.cfg := rfl
@[simp] theorem cutLine_running (now : Nat) : (c.cutLine now).running = c.running := rfl
@[simp] theorem cutLine_fifo (now : Nat) : (c.cutLine now).fifo = c.fifo := rfl
@[simp] theorem cutLine_brk (now : Nat) : (c.cutLine now).brk = c.brk := rfl
@[simp] theorem cutLine_ho (now : Nat) : (c.cutLine now).ho = c.ho := rfl
@[simp] theorem cutLine_emitted (now : Nat) : (c.cutLine now).emitted = c.emitted := rfl
@[simp] theorem cutLine_slot (now : Nat) : (c.cutLine now).slot = c.slot := rfl

@[simp] theorem clearCode_cfg : (c.clearCode).cfg = c.cfg := rfl
@[simp] theorem clearCode_running : (c.clearCode).running = c.running := rfl
@[simp] theorem clearCode_brk : (c.clearCode).brk = c.brk := rfl
@[simp] theorem clearCode_ho : (c.clearCode).ho = c.ho := rfl
@[simp] theorem clearCode_level : (c.clearCode).level = c.level := rfl
@[simp] theorem clearCode_emitted : (c.clearCode).emitted = c.emitted := rfl

@[simp] theorem beginPulse_cfg (now w : Nat) : (c.beginPulse now w).cfg = c.cfg := rfl
@[simp] theorem beginPulse_running (now w : Nat) : (c.beginPulse now w).running = c.running := rfl
@[simp] theorem beginPulse_fifo (now w : Nat) : (c.beginPulse now w).fifo = c.fifo := rfl
@[simp] theorem beginPulse_brk (now w : Nat) : (c.beginPulse now w).brk = c.brk := rfl
@[simp] theorem beginPulse_ho (now w : Nat) : (c.beginPulse now w).ho = c.ho := rfl
@[simp] theorem beginPulse_emitted (now w : Nat) : (c.beginPulse now w).emitted = c.emitted := rfl
@[simp] theorem beginPulse_slot (now w : Nat) : (c.beginPulse now w).slot = c.slot := rfl

@[simp] theorem startAt_running (o : Position) : (c.startAt o).running = true := by simp [Channel.startAt]

@[simp] theorem stop_running : c.stop.running = false := by simp [Channel.stop]

@[simp] theorem resume_running (p : Nat) : (c.resume p).running = true := by simp [Channel.resume]

/-! ### The leads and the switch mark of a phase step (R105, R108, R129) -/

@[simp] theorem putSlot_evalLead (i : SlotItem) : (c.putSlot i).evalLead = c.evalLead := by unfold Channel.putSlot; split <;> rfl
@[simp] theorem putSlot_reached (i : SlotItem) : (c.putSlot i).reached = c.reached := by unfold Channel.putSlot; split <;> rfl
@[simp] theorem putSlot_switched (i : SlotItem) : (c.putSlot i).switched = c.switched := by unfold Channel.putSlot; split <;> rfl
@[simp] theorem codePut_evalLead (i : SlotItem) : (c.codePut i).evalLead = c.evalLead := by unfold Channel.codePut; split <;> simp
@[simp] theorem codePut_reached (i : SlotItem) : (c.codePut i).reached = c.reached := by unfold Channel.codePut; split <;> simp
@[simp] theorem codePut_switched (i : SlotItem) : (c.codePut i).switched = c.switched := by unfold Channel.codePut; split <;> simp
@[simp] theorem restartCounts_evalLead (o : Position) : (c.restartCounts o).evalLead = c.evalLead := rfl
@[simp] theorem restartCounts_reached (o : Position) : (c.restartCounts o).reached = c.reached := rfl
@[simp] theorem restartCounts_switched (o : Position) : (c.restartCounts o).switched = c.switched := rfl
@[simp] theorem startAt_evalLead (o : Position) : (c.startAt o).evalLead = c.evalLead := by simp [Channel.startAt]
@[simp] theorem startAt_reached (o : Position) : (c.startAt o).reached = c.reached := by simp [Channel.startAt]
@[simp] theorem startAt_switched (o : Position) : (c.startAt o).switched = c.switched := by simp [Channel.startAt]
@[simp] theorem stop_evalLead : c.stop.evalLead = none := by simp [Channel.stop]
@[simp] theorem stop_reached : c.stop.reached = c.reached := by simp [Channel.stop]
@[simp] theorem stop_switched : c.stop.switched = c.switched := by simp [Channel.stop]
@[simp] theorem resume_evalLead (p : Nat) : (c.resume p).evalLead = c.evalLead := by simp [Channel.resume]
@[simp] theorem resume_reached (p : Nat) : (c.resume p).reached = c.reached := by simp [Channel.resume]
@[simp] theorem resume_switched (p : Nat) : (c.resume p).switched = c.switched := by simp [Channel.resume]
@[simp] theorem reorigin_evalLead (y : Position) : (c.reorigin y).evalLead = c.evalLead := rfl
@[simp] theorem reorigin_reached (y : Position) : (c.reorigin y).reached = c.reached := rfl
@[simp] theorem reorigin_switched (y : Position) : (c.reorigin y).switched = c.switched := rfl
@[simp] theorem cutLine_evalLead (now : Nat) : (c.cutLine now).evalLead = c.evalLead := rfl
@[simp] theorem cutLine_reached (now : Nat) : (c.cutLine now).reached = c.reached := rfl
@[simp] theorem cutLine_switched (now : Nat) : (c.cutLine now).switched = c.switched := rfl
@[simp] theorem clearCode_evalLead : c.clearCode.evalLead = c.evalLead := rfl
@[simp] theorem clearCode_reached : c.clearCode.reached = c.reached := rfl
@[simp] theorem clearCode_switched : c.clearCode.switched = c.switched := rfl
@[simp] theorem beginPulse_evalLead (now w : Nat) : (c.beginPulse now w).evalLead = c.evalLead := rfl
@[simp] theorem beginPulse_reached (now w : Nat) : (c.beginPulse now w).reached = c.reached := rfl
@[simp] theorem beginPulse_switched (now w : Nat) : (c.beginPulse now w).switched = c.switched := rfl
@[simp] theorem keepLead_cfg (lead : Nat) : (c.keepLead lead).cfg = c.cfg := by unfold Channel.keepLead; split <;> rfl
@[simp] theorem keepLead_running (lead : Nat) : (c.keepLead lead).running = c.running := by unfold Channel.keepLead; split <;> rfl
@[simp] theorem keepLead_fifo (lead : Nat) : (c.keepLead lead).fifo = c.fifo := by unfold Channel.keepLead; split <;> rfl
@[simp] theorem keepLead_brk (lead : Nat) : (c.keepLead lead).brk = c.brk := by unfold Channel.keepLead; split <;> rfl
@[simp] theorem keepLead_ho (lead : Nat) : (c.keepLead lead).ho = c.ho := by unfold Channel.keepLead; split <;> rfl
@[simp] theorem keepLead_level (lead : Nat) : (c.keepLead lead).level = c.level := by unfold Channel.keepLead; split <;> rfl
@[simp] theorem keepLead_emitted (lead : Nat) : (c.keepLead lead).emitted = c.emitted := by unfold Channel.keepLead; split <;> rfl
@[simp] theorem keepLead_slot (lead : Nat) : (c.keepLead lead).slot = c.slot := by unfold Channel.keepLead; split <;> rfl
@[simp] theorem keepLead_switched (lead : Nat) : (c.keepLead lead).switched = c.switched := by unfold Channel.keepLead; split <;> rfl
@[simp] theorem keepLead_evaluated (lead : Nat) : (c.keepLead lead).evaluated = c.evaluated := by unfold Channel.keepLead; split <;> rfl
@[simp] theorem keepLead_reached (lead : Nat) : (c.keepLead lead).reached = c.reached := by unfold Channel.keepLead; split <;> rfl

/-- Whatever lead an entry brings a RUNNING channel, the lead of the evaluation under way stays as it was (R105, R108). -/
theorem keepLead_lead (new : ChannelConfig) (run : c.running = true) (open_ : c.evaluated = false) :
    Channel.lead { c.keepLead new.lead with cfg := new } = c.lead := by
  unfold Channel.keepLead
  split
  · simp [Channel.lead]
  · simp_all [Channel.lead]

/-- A channel with no evaluation under way, and no lead kept for one, takes the new lead at once (R76). -/
theorem keepLead_lead_new (new : ChannelConfig) (idle : c.running = false ∨ c.evaluated = true) (h : c.evalLead = none) :
    Channel.lead { c.keepLead new.lead with cfg := new } = new.lead := by
  rcases idle with idle | idle <;> simp [Channel.keepLead, Channel.lead, idle, h]

/-- A POSITION gives way to a held transport item; anything else takes its place (R124). -/
theorem putSlot_slot (i : SlotItem) : (c.putSlot i).slot =
    match i, c.slot with
    | .position _, some .start => c.slot
    | .position _, some .stop => c.slot
    | .position _, some (.resume _) => c.slot
    | _, _ => some i := by
  unfold Channel.putSlot
  split <;> simp_all

/-- When the gap before a new pulse is served: 48 steps after the last pulse, or at once for a TICK channel without a pulse
since its last start (R18, R115, R120). -/
theorem gapServed_iff (now : Nat) : c.gapServed now = true ↔
    (∀ p, c.lastPulse = some p → 48 ≤ since now p.2) ∨
      c.cfg.function = .tick ∧ c.pulsed = false := by
  unfold Channel.gapServed
  cases c.lastPulse <;> simp [or_comm]

/-- The transmitter takes at most one character from the FIFO (R123). -/
theorem takeChar_fifo_length (age : Nat) : (c.takeChar age).fifo.length ≤ c.fifo.length := by
  unfold Channel.takeChar
  split <;> simp_all

end

/-! ## The channels of a lane (R112 to R114) -/

section
variable (s : State)

/-- A change made to the channels attached to lane `x`, where it keeps their configurations, changes exactly those. -/
theorem chan_forAttached (x : LaneId) (f : Channel → Channel) (n : Fin 16) :
    (s.forChannels fun n t => if t.attached x n then t.modChan n f else t).chan n =
      if s.attached x n then f (s.chan n) else s.chan n := by
  rw [forChannels_chan s (g := fun _ c => if c.cfg.enabled && c.cfg.lane == x then f c else c)]
  · rfl
  · intro n t m
    simp only [State.attached]
    by_cases h : ((t.chan n).cfg.enabled && (t.chan n).cfg.lane == x) = true
    · simp only [h, if_true, chan_modChan]
    · simp only [h, if_false, Bool.false_eq_true]
      split
      · rename_i e; rw [e]
      · rfl

theorem chan_startChannels (x : LaneId) (o : Position) (n : Fin 16) :
    (s.startChannels x o).chan n = if s.attached x n then (s.chan n).startAt o else s.chan n :=
  chan_forAttached s x _ n

theorem chan_stopChannels (x : LaneId) (n : Fin 16) :
    (s.stopChannels x).chan n = if s.attached x n then (s.chan n).stop else s.chan n := chan_forAttached s x _ n

theorem chan_resumeChannels (x : LaneId) (p : Nat) (n : Fin 16) :
    (s.resumeChannels x p).chan n = if s.attached x n then (s.chan n).resume p else s.chan n :=
  chan_forAttached s x _ n

/-- A change made to the channels attached to a lane changes nothing but channels. -/
theorem forAttached_frame {α : Type} (field : State → α) (x : LaneId) (f : Channel → Channel)
    (h : ∀ (t : State) (n : Fin 16) (c : Channel), field (t.setChan n c) = field t) :
    field (s.forChannels fun n t => if t.attached x n then t.modChan n f else t) = field s := by
  apply forChannels_frame s field
  intro n t
  split
  · exact h t n _
  · rfl

end

end Sys2Proof.Machine
end

