-- ==== Sys2Proof/Laws/Link.lean ====
section
/-! SUPPORT. What the shared operations of the host link can do: the head of the request queue, the handling of a
request, posting, the placing of a verified frame. -/

namespace Sys2Proof.Machine

variable {s : State}

/-! ## The running part (R195) -/

/-- The part is live exactly while its mode is running. -/
theorem live_eq_true : s.live = true ↔ s.mode = .running := by simp [State.live]

theorem whenLive_of_running {due : Bool} {f : State → State} (h : s.mode = .running) :
    s.whenLive due f = if due = true then f s else s := by
  simp [State.whenLive, live_eq_true.2 h]

/-! ## The head of the request queue (R186) -/

theorem head_of_requestAtHead {type tag : Byte} {p : List Byte} (h : RequestAtHead s type tag p) :
    s.head = some (.request ⟨type, tag, p⟩) := by
  obtain ⟨hm, hr, hp, hh, hq⟩ := h
  simp [State.head, State.mayHandle, State.live, replyCapacity, hm, hr, hp, hh, hq]

theorem requestAtHead_of_head {f : HostFrame} (h : s.head = some (.request f)) :
    RequestAtHead s f.type f.tag f.payload := by
  by_cases hc : s.mayHandle = true
  · simp only [State.mayHandle, State.live, replyCapacity, Bool.and_eq_true, beq_iff_eq, decide_eq_true_eq,
      Bool.not_eq_true'] at hc
    exact ⟨hc.1.1.1, hc.1.1.2, hc.1.2, hc.2, by simpa [State.head, State.mayHandle, State.live, replyCapacity, hc] using h⟩
  · simp [State.head, hc] at h

/-- A handled entry stood at the head while the reply queue had a free place. -/
theorem replies_lt_of_head {i : QueueItem} (h : s.head = some i) : s.link.replies.length < 4 := by
  by_cases hc : s.mayHandle = true
  · simp only [State.mayHandle, replyCapacity, Bool.and_eq_true, decide_eq_true_eq] at hc
    exact hc.1.1.2
  · simp [State.head, hc] at h

theorem headOf_of_requestAtHead {type tag : Byte} {p : List Byte} {mine : List Byte → Bool}
    (h : RequestAtHead s type tag p) (hm : mine p = true) : s.headOf type mine = some ⟨type, tag, p⟩ := by
  simp [State.headOf, head_of_requestAtHead h, hm]

theorem headOf_some {type : Byte} {mine : List Byte → Bool} {f : HostFrame} (h : s.headOf type mine = some f) :
    f.type = type ∧ mine f.payload = true ∧ RequestAtHead s type f.tag f.payload := by
  simp only [State.headOf] at h
  split at h
  · rename_i g hg
    split at h
    · rename_i hc
      simp only [Bool.and_eq_true, decide_eq_true_eq] at hc
      cases h
      exact ⟨hc.1, hc.2, hc.1 ▸ requestAtHead_of_head hg⟩
    · cases h
  · cases h

/-- What the handling of a request does (R186, R187): nothing where no request of the row stands at the head;
otherwise the head leaves and one reply is appended, BAD_LENGTH or that of the request's rule. -/
theorem handle_of_requestAtHead {type tag : Byte} {p : List Byte} {mine : List Byte → Bool} (len : Nat)
    (rule : List Byte → State → State × Answer) (h : RequestAtHead s type tag p) (hm : mine p = true) :
    s.handle type mine len rule =
      if p.length = len then answered (rule p s.takeHead).1 type tag (rule p s.takeHead).2.payload
      else answered s.takeHead type tag [0x11] := by
  simp only [State.handle, headOf_of_requestAtHead h hm, answered]
  split <;> rfl

theorem handle_cases {type : Byte} {mine : List Byte → Bool} {len : Nat} {rule : List Byte → State → State × Answer} :
    s.handle type mine len rule = s ∨ ∃ tag p, RequestAtHead s type tag p ∧ mine p = true ∧
      (p.length = len ∧
          s.handle type mine len rule = answered (rule p s.takeHead).1 type tag (rule p s.takeHead).2.payload ∨
        p.length ≠ len ∧ s.handle type mine len rule = answered s.takeHead type tag [0x11]) := by
  cases hf : s.headOf type mine with
  | none => exact .inl (by simp [State.handle, hf])
  | some f =>
    obtain ⟨rfl, hm, hr⟩ := headOf_some hf
    refine .inr ⟨f.tag, f.payload, hr, hm, ?_⟩
    by_cases hl : f.payload.length = len
    · exact .inl ⟨hl, by rw [handle_of_requestAtHead len rule hr hm, if_pos hl]⟩
    · exact .inr ⟨hl, by rw [handle_of_requestAtHead len rule hr hm, if_neg hl]⟩

@[simp] theorem takeHead_requests : s.takeHead.link.requests = s.link.requests.tail := rfl

@[simp] theorem takeHead_handled : s.takeHead.link.handled = true := rfl

@[simp] theorem takeHead_replies : s.takeHead.link.replies = s.link.replies := rfl

@[simp] theorem takeHead_notices : s.takeHead.link.notices = s.link.notices := rfl

@[simp] theorem takeHead_lane (x : LaneId) : s.takeHead.lane x = s.lane x := by cases x <;> rfl

@[simp] theorem takeHead_chan (n : Fin 16) : s.takeHead.chan n = s.chan n := rfl

@[simp] theorem takeHead_brk (r : Fin 4) : s.takeHead.brk r = s.brk r := rfl

@[simp] theorem takeHead_ho (r : Fin 4) : s.takeHead.ho r = s.ho r := rfl

@[simp] theorem takeHead_preset (i : Fin 16) : s.takeHead.preset i = s.preset i := rfl

@[simp] theorem takeHead_sourceLock (x : LaneId) : s.takeHead.sourceLock x = s.sourceLock x := by cases x <;> rfl

@[simp] theorem takeHead_dueOf (t : TakeMode) (x : LaneId) : s.takeHead.dueOf t x = s.dueOf t x := by
  cases t <;> cases x <;> rfl

@[simp] theorem takeHead_nextId : s.takeHead.nextId = s.nextId := rfl

theorem reply_replies (type tag : Byte) (p : List Byte) (z : Bool) :
    (s.reply type tag p z).link.replies = s.link.replies ++ [⟨type, tag, p, z⟩] := rfl

/-! ## Posting (R189) -/

/-- Posting touches the notice queue and NOTICE_OVERFLOW alone, and keeps the bound of the queue. -/
theorem post_link (n : NoticeBody) : (s.post n).link = { s.link with
    notices := (s.post n).link.notices
    sticky := (s.post n).link.sticky } := by
  simp only [State.post]; split <;> (try split) <;> rfl

theorem post_notices_length (n : NoticeBody) (h : s.link.notices.length ≤ 32) :
    (s.post n).link.notices.length ≤ 32 := by
  simp only [State.post]
  split
  · exact h
  · split
    · simp only [State.modLink, List.length_append, List.length_singleton]; omega
    · exact h

theorem post_eq_modLink (n : NoticeBody) : s.post n = { s with link := (s.post n).link } := by
  simp only [State.post]; split <;> (try split) <;> rfl

/-! ## Verified frames (R183, R185) -/

/-- Where a verified frame goes (R185). -/
theorem placeFrame_cases (f : HostFrame) :
    (requestsHeld s.link.requests < 4 ∧
      s.placeFrame f = s.modLink fun k => { k with requests := s.link.requests ++ [.request f] }) ∨
    (4 ≤ requestsHeld s.link.requests ∧ refusalsHeld s.link.requests < 8 ∧
      s.placeFrame f = s.modLink fun k => { k with requests := s.link.requests ++ [.refusal f.type f.tag] }) ∨
    (4 ≤ requestsHeld s.link.requests ∧ 8 ≤ refusalsHeld s.link.requests ∧
      s.placeFrame f = s.modCounts fun c => { c with overrun := bump16 c.overrun }) := by
  by_cases h : requestsHeld s.link.requests < 4
  · exact .inl ⟨h, by simp [State.placeFrame, requestCapacity, h]⟩
  · by_cases h' : refusalsHeld s.link.requests < 8
    · exact .inr (.inl ⟨by omega, h', by simp [State.placeFrame, requestCapacity, refusalCapacity, h, h']⟩)
    · exact .inr (.inr ⟨by omega, by omega, by simp [State.placeFrame, requestCapacity, refusalCapacity, h, h']⟩)

@[simp] theorem requestsHeld_append (q : List QueueItem) (i : QueueItem) :
    requestsHeld (q ++ [i]) = requestsHeld q + (match i with | .request _ => 1 | .refusal _ _ => 0) := by
  cases i <;> simp [requestsHeld, List.filter_append]

@[simp] theorem refusalsHeld_append (q : List QueueItem) (i : QueueItem) :
    refusalsHeld (q ++ [i]) = refusalsHeld q + (match i with | .request _ => 0 | .refusal _ _ => 1) := by
  cases i <;> simp [refusalsHeld, List.filter_append]

theorem requestsHeld_tail (q : List QueueItem) : requestsHeld q.tail ≤ requestsHeld q := by
  cases q with
  | nil => exact le_refl _
  | cons i q => cases i <;> simp [requestsHeld]

theorem refusalsHeld_tail (q : List QueueItem) : refusalsHeld q.tail ≤ refusalsHeld q := by
  cases q with
  | nil => exact le_refl _
  | cons i q => cases i <;> simp [refusalsHeld]

end Sys2Proof.Machine
end

