-- ==== Sys2Proof/Laws/Records.lean ====
section
/-! SUPPORT. Laws of the channel sets, and of the break and handover records: their members, the end of a record,
what the entry of a member does, and what a configuration and an entry's crossing leave of a channel. -/

namespace Sys2Proof.Machine

variable (s : State)

/-! ## Channel sets -/

theorem inSet_addTo (set : ChannelSet) (n m : Fin 16) :
    inSet (addTo set n) m = (inSet set m || decide (m = n)) := by
  simp only [inSet, addTo, BitVec.getLsbD_or, BitVec.getLsbD_ofNat]
  congr 1
  have h : Nat.testBit (2 ^ n.val) m.val = decide (n.val = m.val) := Nat.testBit_two_pow
  have hm : decide (m.val < 16) = true := by simp [m.isLt]
  rw [h, hm, Bool.true_and]
  simp [Fin.ext_iff, eq_comm]

theorem addTo_ne_zero (set : ChannelSet) (n : Fin 16) : addTo set n ≠ 0 := by
  intro h
  have := inSet_addTo set n n
  rw [h] at this
  simp [inSet] at this

/-- A channel stands in the set of the channels for which `p` holds exactly where `p` holds. -/
theorem inSet_setOf (p : Fin 16 → Bool) (n : Fin 16) : inSet (setOf p) n = p n := by
  have step (m : ChannelSet) (k : Fin 16) :
      inSet (if p k then addTo m k else m) n = (inSet m n || (p k && decide (n = k))) := by
    by_cases h : p k <;> simp [h, inSet_addTo]
  unfold setOf allChannels
  simp only [List.foldl_cons, List.foldl_nil, step]
  fin_cases n <;> simp [inSet]

theorem setOf_eq_zero (p : Fin 16 → Bool) : setOf p = 0 ↔ ∀ n, p n = false := by
  constructor
  · intro h n
    rw [← inSet_setOf p n, h]
    simp [inSet]
  · intro h
    have : p = fun _ => false := funext h
    subst this
    rfl

/-- `anyIn` asks for a channel of the set with the property. -/
theorem anyIn_eq_true (set : ChannelSet) (p : Fin 16 → Bool) :
    anyIn set p = true ↔ ∃ n, inSet set n = true ∧ p n = true := by
  have mem (n : Fin 16) : n ∈ allChannels := by fin_cases n <;> decide
  simp only [anyIn, List.any_eq_true, Bool.and_eq_true]
  exact ⟨fun ⟨n, _, h⟩ => ⟨n, h⟩, fun ⟨n, h⟩ => ⟨n, mem n, h⟩⟩

/-! ## The end of a record (R140, R153) -/

/-- A break record with a member left stands (R140). -/
theorem finishBreak_of_member {r : Fin 4} {n : Fin 16} (h : s.inBreakRecord r n = true) : s.finishBreak r = s := by
  unfold State.finishBreak
  split
  · rfl
  · rw [if_neg]
    intro e
    have := (setOf_eq_zero _).1 (beq_iff_eq.1 e) n
    simp_all

/-- A break record without members becomes FREE and posts BREAK_DONE (R140). -/
theorem finishBreak_of_empty {r : Fin 4} {b : BreakRecord} (hb : s.brk r = some b)
    (h : ∀ n, s.inBreakRecord r n = false) :
    s.finishBreak r = (s.setBrk r none).post (.breakDone r b.reason b.mode b.set b.completed) := by
  unfold State.finishBreak
  rw [hb]
  exact if_pos (beq_iff_eq.2 ((setOf_eq_zero _).2 h))

/-- A handover record with a member left stands (R153). -/
theorem finishHandover_of_member {r : Fin 4} {n : Fin 16} (h : s.inHandoverRecord r n = true) :
    s.finishHandover r = s := by
  unfold State.finishHandover
  split
  · rfl
  · rw [if_neg]
    intro e
    have := (setOf_eq_zero _).1 (beq_iff_eq.1 e) n
    simp_all

/-- A handover record without members becomes FREE and posts HANDOVER_DONE (R153). -/
theorem finishHandover_of_empty {r : Fin 4} {h : HandoverRecord} (hb : s.ho r = some h)
    (hm : ∀ n, s.inHandoverRecord r n = false) :
    s.finishHandover r = (s.setHo r none).post
      (.handoverDone r h.doneOutcome h.fromLane h.toLane h.set h.switched h.switchBeat) := by
  unfold State.finishHandover
  rw [hb]
  exact if_pos (beq_iff_eq.2 ((setOf_eq_zero _).2 hm))

/-! ## Reading a record after a change -/

@[simp] theorem brk_modChan (n : Fin 16) (f : Channel → Channel) (r : Fin 4) : (s.modChan n f).brk r = s.brk r := rfl

@[simp] theorem ho_modChan (n : Fin 16) (f : Channel → Channel) (r : Fin 4) : (s.modChan n f).ho r = s.ho r := rfl

@[simp] theorem chan_setBrk (r : Fin 4) (b : Option BreakRecord) (n : Fin 16) :
    (s.setBrk r b).chan n = s.chan n := rfl

@[simp] theorem chan_setHo (r : Fin 4) (h : Option HandoverRecord) (n : Fin 16) :
    (s.setHo r h).chan n = s.chan n := rfl

@[simp] theorem chan_post (b : NoticeBody) (n : Fin 16) : (s.post b).chan n = s.chan n := by simp [State.chan]

@[simp] theorem brk_post (b : NoticeBody) (r : Fin 4) : (s.post b).brk r = s.brk r := by simp [State.brk]

@[simp] theorem ho_post (b : NoticeBody) (r : Fin 4) : (s.post b).ho r = s.ho r := by simp [State.ho]

@[simp] theorem lane_post (b : NoticeBody) (x : LaneId) : (s.post b).lane x = s.lane x := by
  cases x <;> simp [State.lane]

theorem brk_modBrk (r q : Fin 4) (f : BreakRecord → BreakRecord) :
    (s.modBrk r f).brk q = if q = r then (s.brk r).map f else s.brk q := brk_setBrk s r q _

/-! ## Entering a break (R132) -/

@[simp] theorem clearMarks_cfg (c : Channel) : c.clearMarks.cfg = c.cfg := by unfold Channel.clearMarks; split <;> rfl

/-- The marks that `clearMarks` leaves: none on a CODE channel, those held before on any other. -/
theorem clearMarks_eq (c : Channel) : c.clearMarks = { c with
    barDue := if c.cfg.function = .code then false else c.barDue
    phraseDue := if c.cfg.function = .code then false else c.phraseDue } := by
  unfold Channel.clearMarks; split <;> rfl

/-- The entry actions of a MUTE (R133), field by field. -/
theorem breakEntered_mute (c : Channel) : c.breakEntered .mute = { c with
    pulseOwed := false
    fifo := if c.cfg.function = .code then [] else c.fifo
    barDue := if c.cfg.function = .code then false else c.barDue
    phraseDue := if c.cfg.function = .code then false else c.phraseDue } := by
  simp only [Channel.breakEntered, clearMarks_eq]; split <;> rfl

/-- The entry actions of a HALT (R136), field by field. -/
theorem breakEntered_halt (c : Channel) : c.breakEntered .halt = { c with
    pulseOwed := false
    owing := false
    barDue := if c.cfg.function = .code then false else c.barDue
    phraseDue := if c.cfg.function = .code then false else c.phraseDue
    slot := if c.cfg.function = .code then some .stop else c.slot } := by
  simp only [Channel.breakEntered, clearMarks_eq, Channel.codePut, Channel.putSlot]; split <;> rfl

/-- What the entry of a waiting member does: the member is IN_BREAK with the length and its mark, the mode's entry
actions are taken, and the record is ACTIVE. -/
theorem enterBreak_eq {n : Fin 16} {r : Fin 4} {once : Bool} {b : BreakRecord}
    (hc : (s.chan n).brk = some ⟨r, .waiting once⟩) (hb : s.brk r = some b) :
    s.enterBreak n =
      (s.modChan n fun c =>
        ({ c with brk := some ⟨r, .inBreak b.length (match b.due with
          | .beat y => if !once && c.cfg.lane == b.timing then y else (s.projection n).beat
          | _ => (s.projection n).beat)⟩ }).breakEntered b.mode).modBrk r fun b => { b with active := true } := by
  unfold State.enterBreak
  simp only [hc, hb]
  rfl

/-! ## What a configuration leaves of a channel (R76, R105) -/

@[simp] theorem chan_finishBreak (r : Fin 4) (n : Fin 16) : (s.finishBreak r).chan n = s.chan n := by
  unfold State.finishBreak
  split
  · rfl
  · split <;> simp

@[simp] theorem chan_finishHandover (r : Fin 4) (n : Fin 16) : (s.finishHandover r).chan n = s.chan n := by
  unfold State.finishHandover
  split
  · rfl
  · split <;> simp

/-- A channel that leaves its break record keeps all but the membership (R139). -/
theorem chan_leaveBreak (n : Fin 16) (by_ : LeaveBy) :
    (s.leaveBreak n by_).chan n = { s.chan n with brk := none } := by
  unfold State.leaveBreak
  split
  · next h => rw [← h]
  · next m h => simp [State.dropMember, h, State.modBrk]

/-- A channel that leaves its handover record keeps all but the membership (R154). -/
theorem chan_leaveHandover (n : Fin 16) : (s.leaveHandover n).chan n = { s.chan n with ho := none } := by
  unfold State.leaveHandover
  split
  · next h => rw [← h]
  · simp

@[simp] theorem remark_cfg (c : Channel) (p : Position) (y : U32) : (c.remark p y).cfg = c.cfg := by
  unfold Channel.remark; split <;> rfl

@[simp] theorem remark_reached (c : Channel) (p : Position) (y : U32) : (c.remark p y).reached = c.reached := by
  unfold Channel.remark; split <;> rfl

/-- A lane change leaves the configuration but for its lane, and the crossings known to be due (R76, R106). -/
theorem chan_laneChange (n : Fin 16) (x : LaneId) :
    ((s.laneChange n x).chan n).cfg = { (s.chan n).cfg with lane := x } ∧
      ((s.laneChange n x).chan n).reached = (s.chan n).reached := by
  have code (c : Channel) (p q : Bool) :
      (if p then c.codePut .start else if q then c.codePut .stop else c).cfg = c.cfg ∧
        (if p then c.codePut .start else if q then c.codePut .stop else c).reached = c.reached := by
    cases p <;> cases q <;> simp
  unfold State.laneChange
  dsimp only
  split
  all_goals simp only [chan_leaveBreak, chan_leaveHandover, chan_modChan, ite_true, remark_cfg, remark_reached, code,
    reorigin_cfg, reorigin_reached, and_self]

/-- A change of function gives the configuration, and leaves the crossings known to be due (R76, R105). -/
theorem chan_functionChange (n : Fin 16) (cfg : ChannelConfig) :
    ((s.functionChange n cfg).chan n).cfg = cfg ∧ ((s.functionChange n cfg).chan n).reached = (s.chan n).reached := by
  simp only [State.functionChange, chan_modChan, ite_true]
  split <;> split <;> split <;> simp [Channel.cutLine, Channel.clearCode]

/-- The configuration of a channel that stays enabled brings its lead, and leaves the crossings known to be due (R76, R105). -/
theorem reconfigure_lead_reached (n : Fin 16) (cfg : ChannelConfig) (at_ : ApplyAt) :
    ((s.reconfigure n cfg at_).chan n).cfg.lead = cfg.lead ∧
      ((s.reconfigure n cfg at_).chan n).reached = (s.chan n).reached := by
  have step (t : State) (h : (t.chan n).cfg.lead = cfg.lead ∧ (t.chan n).reached = (s.chan n).reached) :
      let u := if cfg.barCodes then t else t.modChan n fun c => { c with barDue := false, phraseDue := false }
      (u.chan n).cfg.lead = cfg.lead ∧ (u.chan n).reached = (s.chan n).reached := by
    intro u; simp only [u]; split <;> simp [h]
  unfold State.reconfigure
  dsimp only
  generalize ht : (if cfg.barCodes = true then _ else _ : State) = t
  have h : (t.chan n).cfg.lead = cfg.lead ∧ (t.chan n).reached = (s.chan n).reached := by
    rw [← ht]
    apply step
    split
    · simp
    · simp [chan_functionChange]
  split
  · simpa [chan_laneChange] using h
  · split
    · split <;> simp [State.reoriginAhead, h]
    · split <;> simp [State.reoriginAhead, h]
    · exact h

/-- Whatever a configuration does to a channel, the channel has its lead, and the crossings known to be due in the step stand
as they were (R76, R105). -/
theorem applyConfig_lead_reached (n : Fin 16) (cfg : ChannelConfig) (at_ : ApplyAt) :
    ((s.applyConfig n cfg at_).chan n).cfg.lead = cfg.lead ∧
      ((s.applyConfig n cfg at_).chan n).reached = (s.chan n).reached := by
  have lead : (if at_ = .switch then { cfg with lane := (s.chan n).cfg.lane } else cfg).lead = cfg.lead := by
    split <;> rfl
  unfold State.applyConfig
  dsimp only
  generalize (if at_ = ApplyAt.switch then _ else cfg : ChannelConfig) = new at lead ⊢
  split
  · unfold State.enableChannel
    dsimp only
    split <;> simp [lead]
  · simp [State.disableChannel, chan_leaveHandover, chan_leaveBreak, lead, Channel.cutLine, Channel.clearCode]
  · simp [lead]
  · rw [← lead]; exact reconfigure_lead_reached s n new at_

@[simp] theorem chan_postApplied (e : Entry) (applied : Bool) (n : Fin 16) :
    (s.postApplied e applied).chan n = s.chan n := by simp [State.postApplied]

/-- After an entry is applied at its crossing the channel has the entry's lead, and the crossings known to be due are those
that were due beside it (R76). -/
theorem applyCrossing_lead_reached {n : Fin 16} {e : Entry} {cfg : ChannelConfig} {y : U32}
    (hc : e.change = .channel n cfg) (hy : e.due = .beat y) :
    ((s.applyCrossing n e).chan n).cfg.lead = cfg.lead ∧
      ((s.applyCrossing n e).chan n).reached = s.reachedBeside n e := by
  unfold State.applyCrossing
  split
  · next hc' _ =>
    obtain ⟨rfl, rfl⟩ := Change.channel.inj (hc.symm.trans hc')
    simp [applyConfig_lead_reached]
  · next h => exact absurd hy (h _ _ _ hc)

/-! ## Due entries and counted beats (R76, R134) -/

/-- The entry that a channel's part 2 takes is one of the channel's, its projection has reached the due beat, and the
lanes that it reads have made their work of the step. -/
theorem crossingDue_some {n : Fin 16} {e : Entry} (h : s.crossingDue n = some e) :
    e ∈ s.channelEntries n ∧ s.entryReached n e = true ∧ s.entrySettled n e = true := by
  unfold State.crossingDue at h
  split at h
  · next d hd =>
    split at h
    · next hs =>
      cases h
      have hp := List.find?_some hd
      have ht : s.settledLane e.timing = true := by
        simp only [State.entrySettled, Bool.and_eq_true] at hs; exact hs.1.1
      exact ⟨List.mem_of_find?_eq_some hd, by simpa [State.entryOpen, ht] using hp, hs⟩
    · cases h
  · cases h

/-- What the count of a RUNNING member's beats can do: end the break, lower the beats remaining, or nothing. -/
theorem countBeats_cases (n : Fin 16) :
    (∃ y complete, s.breakEndAt n = some (y, complete) ∧ s.countBeats n = s.endMember n y complete) ∨
    (s.breakEndAt n = none ∧ s.countBeats n = s.countBreak n) ∨ s.countBeats n = s := by
  unfold State.countBeats
  split
  · cases h : s.breakEndAt n with
    | none => exact .inr (.inl ⟨rfl, rfl⟩)
    | some p => exact .inl ⟨p.1, p.2, rfl, rfl⟩
  · exact .inr (.inr rfl)

/-- What the count before a switch can do: nothing where the break would end, and otherwise the plain count. -/
theorem countBeforeSwitch_cases (n : Fin 16) :
    (s.breakEndAt n ≠ none ∧ s.countBeforeSwitch n = s) ∨
    (s.breakEndAt n = none ∧ s.countBeforeSwitch n = s.countBreak n) := by
  unfold State.countBeforeSwitch
  cases h : s.breakEndAt n <;> simp

/-- A due switch: the record's beat is reached on the to-lane, both lanes have made their work, and the evaluation is still
to be completed (R151). -/
theorem switchDue_some {n : Fin 16} (h : s.switchDue n = true) :
    ∃ y x, s.switchOf n = some (y, x) ∧ (s.chan n).running = true ∧ (s.chan n).evaluated = false ∧
      (s.lane x).isRunning = true ∧ s.settled n = true ∧ s.settledLane x = true ∧
      ((s.chan n).projectedOn (s.lane x)).reached y = true := by
  unfold State.switchDue at h
  split at h
  · next y x e =>
    simp only [State.unevaluated, Bool.and_eq_true, Bool.not_eq_true'] at h
    exact ⟨y, x, e, h.1.1.1.1.1, h.1.1.1.1.2, h.1.1.1.2, h.1.1.2, h.1.2, h.2⟩
  · cases h

/-- No event of part 2 of an evaluation is due once the evaluation is made (R108). -/
theorem not_due_of_evaluated {n : Fin 16} (h : (s.chan n).evaluated = true) :
    s.switchDue n = false ∧ s.holdDue n = false ∧ s.endOfBreakDue n = none := by
  have hu : s.unevaluated n = false := by simp [State.unevaluated, h]
  refine ⟨?_, ?_, ?_⟩
  · unfold State.switchDue; split <;> simp [hu]
  · unfold State.holdDue; split <;> simp [hu]
  · simp [State.endOfBreakDue, State.judged, hu]

/-- A boundary measures no record opened after it (R146). -/
theorem measureAll_later (k : KnownBoundary) (at_ : U32) (h : ∀ r, r ∈ k.later) : s.measureAll k at_ = s := by
  simp [State.measureAll, allRecords, h]

end Sys2Proof.Machine
end

