-- ==== Sys2Proof/Laws/Schedule.lean ====
section
/-! SUPPORT. What the operations of the pending-change queue do to its entries and their ids (R70, R72, R73). -/

namespace Sys2Proof.Machine

variable (s : State)

/-! ## Ids (R70) -/

/-- Fewer than `fuel` ids held: the first free id from `c` on is below 256 and is not held. -/
theorem freeId_lt (held : List Nat) (fuel c : Nat) (h : c < 256) : freeId held fuel c < 256 := by
  induction fuel generalizing c with
  | zero => exact h
  | succ n ih =>
    unfold freeId
    split
    · exact ih _ (Nat.mod_lt _ (by decide))
    · exact h

/-- The search passes over held ids only. -/
theorem freeId_passes (held : List Nat) (fuel c : Nat) (hc : c < 256)
    (h : freeId held fuel c ∈ held) : ∀ j < fuel, (c + j) % 256 ∈ held := by
  induction fuel generalizing c with
  | zero => intro j hj; omega
  | succ n ih =>
    unfold freeId at h
    split at h
    · rename_i hcc
      intro j hj
      cases j with
      | zero => simpa [Nat.mod_eq_of_lt hc] using hcc
      | succ j =>
        have := ih ((c + 1) % 256) (Nat.mod_lt _ (by decide)) h j (by omega)
        have e : ((c + 1) % 256 + j) % 256 = (c + (j + 1)) % 256 := by omega
        rwa [e] at this
    · rename_i hcc
      exact absurd h (by simpa using hcc)

/-- With fewer than 256 ids held the next id is not one of them (R70). -/
theorem freeId_not_mem (held : List Nat) (c : Nat) (hc : c < 256) (hl : held.length < 256) :
    freeId held 256 c ∉ held := by
  intro h
  have hp := freeId_passes held 256 c hc h
  have sub : Finset.range 256 ⊆ held.toFinset := by
    intro k hk
    have hk' : k < 256 := Finset.mem_range.1 hk
    have := hp ((k + 256 - c) % 256) (Nat.mod_lt _ (by decide))
    have e : (c + (k + 256 - c) % 256) % 256 = k := by omega
    rw [e] at this
    exact List.mem_toFinset.2 this
  have := (Finset.card_le_card sub).trans (List.toFinset_card_le held)
  simp at this
  omega

theorem nextId_lt : s.nextId < 256 := freeId_lt _ _ _ (Nat.mod_lt _ (by decide))

theorem nextId_fresh (h : s.queue.length < 256) : s.nextId ∉ s.queue.map (·.id) :=
  freeId_not_mem _ _ (Nat.mod_lt _ (by decide)) (by simpa using h)

/-! ## Entries made, removed, re-timed and discarded -/

/-- An entry made stands last, with the next id (R70, R73). -/
theorem addEntry_queue (m : Maker) (x : LaneId) (d : Due) (c : Change) :
    (s.addEntry m x d c).queue = s.queue ++ [⟨s.nextId, m, x, d, c⟩] := rfl

theorem addEntry_eq (m : Maker) (x : LaneId) (d : Due) (c : Change) :
    s.addEntry m x d c = { s with
      queue := (s.addEntry m x d c).queue
      idCounter := (s.nextId + 1) % 256
      generation := s.generation + 1 } := rfl

/-- The entry with the id is gone, the others stand in their order (R72). -/
theorem removeEntry_queue (id : Nat) : (s.removeEntry id).queue = s.queue.filter fun e => e.id != id := rfl

theorem removeEntry_length (id : Nat) : (s.removeEntry id).queue.length ≤ s.queue.length :=
  List.length_filter_le _ _

/-- Re-timing keeps every entry's place, id, maker and change (R73). -/
theorem retime_map (id : Nat) (x : LaneId) (d : Due) :
    (s.retime id x d).queue.map (fun e => (e.id, e.maker, e.change)) =
      s.queue.map fun e => (e.id, e.maker, e.change) := by
  simp only [State.retime, List.map_map]
  apply List.map_congr_left
  intro e _
  simp only [Function.comp]
  split <;> rfl

theorem retime_length (id : Nat) (x : LaneId) (d : Due) : (s.retime id x d).queue.length = s.queue.length := by
  simp [State.retime]

/-- Joins that come due keep their places, ids, makers and changes (R78). -/
theorem ripenJoins_map (x : LaneId) :
    (s.ripenJoins x).queue.map (fun e => (e.id, e.maker, e.change)) =
      s.queue.map fun e => (e.id, e.maker, e.change) := by
  simp only [State.ripenJoins, List.map_map]
  apply List.map_congr_left
  intro e _
  simp only [Function.comp]
  split <;> rfl

/-- A join entry is one that waits for some source (R78). -/
theorem joinsOn_isJoinOf {e : Entry} {x : LaneId} {k : SourceKind} (h : e.joinsOn x k = true) :
    e.isJoinOf x = true := by
  unfold Entry.joinsOn at h
  unfold Entry.isJoinOf
  split at h
  · rename_i w hw; simp [hw]
  · cases h

/-- A wait set anew keeps the entries' ids, makers and changes, and their number (R73, R84). -/
theorem setWait_length (e : Entry) (x : LaneId) (w : JoinWait) : (s.setWait e x w).queue.length = s.queue.length := by
  unfold State.setWait
  split
  · rfl
  · exact retime_length s e.id x _

/-- The entries a stop discards are those its lane times (R36, R83). -/
theorem discardTimed_queue (x : LaneId) :
    (s.discardTimed x).queue = s.queue.filter fun e => e.timing != x := by
  unfold State.discardTimed
  simp only
  split
  · rename_i h
    symm
    rw [List.filter_eq_self]
    intro e he
    have := List.eq_nil_of_length_eq_zero h
    have hn : ¬ (e.timing == x) = true := fun hx => by
      have : e ∈ s.queue.filter fun e => e.timing == x := List.mem_filter.2 ⟨he, hx⟩
      simp_all
    simpa using hn
  · rw [post_queue]
    rfl

/-! ## Due order (R73) -/

theorem insertDue_perm (h : U32) (e : Entry) (l : List Entry) : (insertDue h e l).Perm (e :: l) := by
  induction l with
  | nil => exact List.Perm.refl _
  | cons f rest ih =>
    unfold insertDue
    split
    · exact List.Perm.refl _
    · exact (ih.cons f).trans (List.Perm.swap e f rest)

/-- Due order has the entries themselves, each once (R73). -/
theorem sortDue_perm (h : U32) (l : List Entry) : (sortDue h l).Perm l := by
  induction l with
  | nil => exact List.Perm.refl _
  | cons e rest ih => exact (insertDue_perm h e _).trans (ih.cons e)

/-- The beat-due entries of a lane are entries of the queue timed by it (R73). -/
theorem mem_beatDue {x : LaneId} {e : Entry} :
    e ∈ s.beatDue x ↔ e ∈ s.queue ∧ e.timing = x ∧ e.isBeatDue = true := by
  unfold State.beatDue
  rw [(sortDue_perm _ _).mem_iff, List.mem_filter]
  simp

/-- A CHANNEL entry of channel `n` is an entry of the queue (R76). -/
theorem mem_queue_of_channelEntries {n : Fin 16} {e : Entry} (h : e ∈ s.channelEntries n) : e ∈ s.queue := by
  unfold State.channelEntries at h
  rcases List.mem_append.1 (List.mem_filter.1 h).1 with h | h
  · exact ((mem_beatDue s).1 h).1
  · exact ((mem_beatDue s).1 h).1

end Sys2Proof.Machine
end

