-- ==== Sys2Proof/Tests/Slice0.lean ====
section
/-! SUPPORT. The model's own tests: ill-formed commands refused, figures of the manual, one step of each command on
small states, and for each statement a state that meets its hypotheses (`witness_…`). Expected values are the
manual's figures, or worked out by hand from the rule named. -/

open Sys2Proof Sys2Proof.Machine

namespace Sys2Proof.Tests

set_option Elab.async false -- one theorem at a time: many kernel evaluations side by side exhaust the memory

/-! ## Ill-formed commands (WellFormed) -/

theorem test_wellFormed_short_copy : (Instr.validCopy .one (List.replicate 22 0)).wellFormed = false := by decide
theorem test_wellFormed_whole_copy : (Instr.validCopy .one (List.replicate 23 0)).wellFormed = true := by decide
theorem test_wellFormed_run_of_0 : (Instr.busDominantRunEnd .one 0).wellFormed = false := by decide
theorem test_wellFormed_run_of_15 : (Instr.busDominantRunEnd .two 15).wellFormed = false := by decide
theorem test_wellFormed_loss_in_break : (Instr.arbitrationLoss 11 true false).wellFormed = false := by decide
theorem test_wellFormed_loss_after_frame : (Instr.arbitrationLoss 244 true false).wellFormed = false := by decide
theorem test_wellFormed_loss_on_no_line : (Instr.arbitrationLoss 12 false false).wellFormed = false := by decide

/-! ## Words -/

theorem test_no_word_spells_a_command : decodeTableWord 16 0xC5 = none := rfl
theorem test_withFetchWord_keeps_the_queue : State.reset.withFetchWord 16 0xC5 = State.reset := rfl

/-! ## States for the tests -/

/-- The running part, a while after its release. -/
def live : State := { State.resetValues .running .baud1000000 ⟨0, false⟩ [] with clock := 400000 }

/-- A RUNNING lane at beat 10 + 0 in 4/8 meter: third beat of the third bar. -/
def runningLane : Lane := { Lane.reset with
  transport := .running
  pos := ⟨10, 0⟩
  beatInBar := 2
  barInPhrase := 2
  barCount := 2
  high := 10 }

/-- The part with lane A RUNNING. -/
def runA : State := live.setLane .a runningLane

/-- The part with both lanes RUNNING. -/
def runAB : State := runA.setLane .b runningLane

/-- Lane A a unit before beat 11, with the advance of this step still to be made. -/
def crossA : State := live.setLane .a { runningLane with pos := ⟨10, BitVec.ofNat 48 (2 ^ 48 - 1)⟩, crossing := true }

/-- The request with TYPE `type`, TAG 7 and payload `p` at the head of the queue. -/
def atHead (s : State) (type : Byte) (p : List Byte) : State :=
  { s with link := { s.link with requests := [.request ⟨type, 7, p⟩] } }

/-- The state after a command. -/
def after (c : Instr) (s : State) : State :=
  match exec c s with
  | .next t => t
  | _ => s

/-- The last reply's payload. -/
def replied (s : State) : List Byte := (s.link.replies.getLast?.map (·.payload)).getD []

/-- The notices posted. -/
def posted (s : State) : List NoticeBody := s.link.notices.map (·.body)

/-- A request that its row may handle stands at the head of the running part. -/
theorem head_atHead {s : State} {type : Byte} {p : List Byte} (h : s.mode = .running) (hr : s.link.replies = [])
    (hp : s.link.resetPending = false) (hh : s.link.handled = false) :
    RequestAtHead (atHead s type p) type 7 p :=
  ⟨h, by simp [atHead, hr], hp, hh, rfl⟩

/-! ## Arithmetic -/

/-- R162: the characters "1" to "9" leave the register at H'29B1. -/
theorem test_crc_check : crc [0x31, 0x32, 0x33, 0x34, 0x35, 0x36, 0x37, 0x38, 0x39] = 0x29B1#16 := by decide +kernel

/-- R4: the increments of 20, 120 and 300 BPM. -/
theorem test_increments : tempoToIncrement 20000 = 977343669 ∧ tempoToIncrement 120000 = 5864062015 ∧
    tempoToIncrement 300000 = 14660155037 ∧ tempoToIncrement 300001 = 14660155037 := by decide

/-- R18: the shortest period in range is just over 200 steps; a fixed width of 50 ms is clipped to the period less
48 steps, and one of 1 ms lasts 96 steps. -/
theorem test_pulse_width : beatUnits / (incMax * 96) = 200 ∧ pulseWidth .fixed 50 beatUnits (incMax * 96) = 152 ∧
    pulseWidth .fixed 1 beatUnits (incMax * 96) = 96 ∧ pulseWidth .ratio25 10 beatUnits (incMax * 96) = 50 := by decide

/-- R14: a lead of 250,000 µs is 24,000 phase steps. -/
theorem test_lead_steps : leadSteps 250000 = 24000 ∧ leadSteps 250000 * incMax = 351843720888000 ∧ leadSteps 5 = 0 ∧ leadSteps 6 = 1 := by
  decide

/-- R6: a glide of 4 beats from 100 to 90 goes down by truncated quarters. -/
theorem test_glide : (List.range 5).map (Glide.at ⟨100, 90, 4, 0⟩) = [100, 98, 95, 93, 90] := by decide

/-- R3: a move back by more than the position stops at beat 0 + 0. -/
theorem test_retreat : Position.retreat ⟨1, 5⟩ (2 ^ 48 + 6) = ⟨0, 0⟩ ∧
    Position.retreat ⟨1, 5⟩ 6 = ⟨0, BitVec.ofNat 48 (2 ^ 48 - 1)⟩ := by decide

/-! ## The block, reset and the phase step -/

theorem witness_StepTakesFrontCommand : ({ live with pending := [.tap, .identify] } : State).pending = [.tap, .identify] ∧
    State.reset.pending = [] := ⟨rfl, rfl⟩

theorem witness_CommandsAnswerNextAndKeepTheQueue : exec .tap live = .next (after .tap live) := rfl

/-- Every channel is a disabled GATE channel. -/
def gated : State := { live with
  channels := live.channels.map fun c => { c with cfg := { c.cfg with function := .gate } } }

theorem witness_EventsNotDueChangeNothing : State.reset.mode ≠ .running ∧ actsInReset .tap = false ∧
    (∀ n : Fin 16, gated.crossingDue n = none ∧ gated.entryOfBreakDue n = false ∧ gated.endOfBreakDue n = none ∧
      gated.holdDue n = false ∧ gated.switchDue n = false ∧ gated.tickPulseDue n = false ∧
      gated.pulseEndDue n = false ∧ gated.barPulseDue n = false ∧ gated.gateDue n = false ∧
      gated.tickCodeDue n = false ∧ gated.slotDue n = false ∧ (gated.chan n).charEnded = false ∧
      (gated.chan n).charDue = false) ∧
    (∀ x, x ∈ bothLanes → live.dueJoin x = none) ∧ live.refHoldoverDue = false ∧ live.refSearchingDue = false ∧
    (∀ n : Fin 8, live.busHoldoverDue n = false ∧ live.busSearchingDue n = false) ∧ live.overduePairing = none ∧
    live.frameBeginDue = none ∧ live.instantDue = false ∧ live.frameSentDue = false ∧
    live.lossPossible 12 true false = false ∧ live.link.complete = none ∧ live.gapDue = false ∧
    live.resetDue = false ∧ live.link.replies = [] ∧ live.link.noticeNext = false ∧ live.link.endsIdle = false := by
  decide +kernel

theorem witness_EventsNotDue_requests : ∀ row ∈ requestRows, ∀ tag p, row.mine p = true →
    ¬ RequestAtHead live row.type tag p := by
  rintro row - tag p - ⟨-, -, -, -, h⟩
  cases h

/-- The OK reply of a RESET, one character long, just sent. -/
def resetSent : State := { live with link := { live.link with tx := .sending [0] 72 true true } }

theorem witness_ResetsAndTheFirstStep : resetSent.mode = .running ∧ resetSent.link.tx = .sending [0] 72 true true ∧
    1 * resetSent.link.rate.charUnits ≤ 72 ∧
    (State.resetValues (.inReset .power 0) .baud115200 ⟨15, true⟩ []).mode = .inReset .power 0 ∧
    (State.resetValues (.inReset .request 96) .baud115200 ⟨15, true⟩ []).mode = .inReset .request 96 := by decide

/-- R195: a RESET lasts 96 phase steps; the strap is sampled at the release. -/
theorem test_reset_release : (after (.resetRelease true) { live with mode := .inReset .request 95 }).mode = .inReset .request 95 ∧
    (after (.resetRelease true) { live with mode := .inReset .request 96 }).mode = .released .request ∧
    (after (.resetRelease true) { live with mode := .inReset .power 0 }).link.rate = .baud115200 := by decide +kernel

/-- R195: READY is the first notice, posted at step time 1. -/
theorem test_first_step : (after .phaseStep State.reset).link.notices = [⟨.ready .power .baud1000000, 1⟩] := by decide +kernel

theorem test_reset_begins : (after .resetBegin resetSent).mode = .inReset .request 0 ∧
    (after .powerOnReset live).mode = .inReset .power 0 := by decide +kernel

/-- R195: a RESET's reset ends at its 96th phase step, the step that begins it counted, and is released by the next step
if nothing has released it. -/
theorem test_reset_lasts : (after .phaseStep resetSent).mode = .inReset .request 1 ∧
    (after .phaseStep { live with mode := .inReset .request 95 }).mode = .inReset .request 96 ∧
    posted (after .phaseStep { live with mode := .inReset .request 96 }) = [.ready .request .baud1000000] ∧
    (after .phaseStep { live with mode := .inReset .power 96 }).mode = .inReset .power 97 := by decide +kernel

theorem witness_PhaseStepAdvancesTime : live.mode = .running ∧ live.resetDue = false ∧ resetSent.resetDue = true := by
  decide +kernel

/-- A part with nothing left due: lane A RUNNING, 100 phase units short of a carry at the next step where `near` says so,
else at beat 10 + 0; a frame on the bus and on HTX, and a character on channel 14; channel 15 has been evaluated, its mark
two beats behind, and is in a MUTE break with two beats left where `mute` says so. -/
def settledPart (near mute : Bool) : State := { (((runA.setLane .a { runningLane with
      pos := ⟨10, if near then BitVec.ofNat 48 (2 ^ 48 - 100) else 0⟩ }).setBrk 3
        (some ⟨true, 0x8000, .mute, 2, .a, .beat 9, false, 0, false, false⟩)).setChan 14
      { Channel.reset with tx := .sending 0xD1 20 75 }).setChan 15 { Channel.reset with
        cfg := { ChannelConfig.reset with enabled := true, n := 1 }
        running := true
        origin := ⟨9, 0⟩
        emitted := if mute then 1 else 2
        mark := 8
        evaluated := true
        brk := if mute then some ⟨3, .inBreak 2 9⟩ else none } with
  bus := { live.bus with tx := some ⟨.a, 5, true, false, 300, none⟩ }
  link := { live.link with handled := true, tx := .sending [0, 1] 30 true false } }

theorem witness_PhaseStep_settled : (settledPart false true).resetDue = false ∧ (settledPart true false).resetDue = false ∧
    (settledPart true false).closeStep = settledPart true false ∧
    (settledPart false true).closeStep = settledPart false true ∧ (settledPart false true).muted 15 = true ∧
    ((settledPart false true).tickClock.beginAdvance .a).atPartFive 15 = true ∧
    ((settledPart false false).tickClock.beginAdvance .a).tickPulseDue 15 = false := by decide +kernel

/-- R20, R122, R133, R134, R173, R188: a phase step moves a RUNNING lane by its increment, or leaves it before its carry, and
what is being sent goes on by one step; a muted channel counts its tick, its crossing and the beat of its break without
output. -/
theorem test_phase_step : (after .phaseStep (settledPart false true)).laneA.pos = ⟨10, BitVec.ofNat 48 resetIncrement⟩ ∧
    (after .phaseStep (settledPart true true)).laneA.pos = (settledPart true true).laneA.pos ∧
    (after .phaseStep (settledPart true true)).laneA.crossing = true ∧
    (after .phaseStep (settledPart false true)).bus.tx.map (·.age) = some 425 ∧
    (after .phaseStep (settledPart false true)).link.tx = .sending [0, 1] 105 true false ∧
    ((after .phaseStep (settledPart false true)).chan 14).tx = .sending 0xD1 23 75 ∧
    ((after .phaseStep (settledPart false true)).chan 15).emitted = 2 ∧
    ((after .phaseStep (settledPart false true)).chan 15).mark = 10 ∧
    ((after .phaseStep (settledPart false true)).chan 15).brk = some ⟨3, .inBreak 1 10⟩ ∧
    ((after .phaseStep (settledPart false true)).chan 15).level = false := by decide +kernel

/-- R1: the step time wraps. -/
theorem test_phase_step_wraps : (after .phaseStep { live with clock := 2 ^ 32 - 1 }).stepTime = 0 := by decide +kernel

theorem witness_PhaseStepAdvancesTime_stopped : live.mode = .running ∧ live.resetDue = false ∧ (live.lane .a).transport = .stopped ∧
    live.queue = [] ∧ live.link.requests = [] ∧ live.link.complete = none := by decide +kernel

/-! ## Invariants -/

/-- A tempo change waiting at beat 11 of lane A. -/
def tempoEntry (id : Nat) : Entry := ⟨id, .host, .a, .beat 11, .tempo .a 977343669 0⟩

/-- The part with 24 entries waiting. -/
def fullQueue : State := { runA with queue := (List.range 24).map tempoEntry, idCounter := 24 }

theorem witness_QueueBoundAndIdsKept : fullQueue.queueBounded ∧ fullQueue.idsDistinct ∧
    step fullQueue = .next fullQueue := by
  refine ⟨?_, ?_, rfl⟩
  · unfold State.queueBounded; decide
  · unfold State.idsDistinct; decide

theorem witness_LinkBoundsKept : live.linkBounded ∧ step live = .next live := by
  refine ⟨?_, rfl⟩
  unfold State.linkBounded; decide

theorem witness_CodeFifoBoundsKept : live.fifosBounded ∧ step live = .next live := by
  refine ⟨?_, rfl⟩
  unfold State.fifosBounded; decide

theorem witness_NoMutualFollowingKept : runAB.noMutualFollowing ∧ step runAB = .next runAB := by
  refine ⟨?_, rfl⟩
  unfold State.noMutualFollowing; decide

theorem witness_RunningStatesKept : runA.runningAgrees ∧ step runA = .next runA := by
  refine ⟨?_, rfl⟩
  unfold State.runningAgrees; decide

theorem witness_MetersKept : fullQueue.metersLegal ∧ step fullQueue = .next fullQueue := by
  refine ⟨⟨?_, ?_, ?_⟩, rfl⟩
  · unfold Lane.countersLegal meterLegal; decide
  · unfold Lane.countersLegal meterLegal; decide
  · intro e he
    obtain ⟨k, -, rfl⟩ := List.mem_map.1 he
    trivial

theorem witness_TemposKept : fullQueue.temposLegal ∧ step fullQueue = .next fullQueue := by
  refine ⟨⟨⟨?_, trivial⟩, ⟨?_, trivial⟩, trivial, trivial, ?_, ?_, ?_⟩, rfl⟩
  · unfold incLegal; decide
  · unfold incLegal; decide
  · intro n; fin_cases n <;> trivial
  · intro p; fin_cases p <;> (unfold incLegal; decide)
  · intro e he
    obtain ⟨k, -, rfl⟩ := List.mem_map.1 he
    show incLegal 977343669
    unfold incLegal; decide

/-! ## Lanes -/

theorem witness_TempoConversionRoundTrip : (20000 ≤ 300000 ∧ 300000 ≤ 300000) ∧ 19999 < 20000 ∧ 300000 < 300001 := by
  decide

theorem witness_LaneAdvance : (live.lane .a).transport = .stopped ∧
    ((runA.lane .a).transport = .running ∧ (runA.lane .a).pos.phase.toNat + (runA.lane .a).stepAmount < 2 ^ 48) ∧
    ((crossA.lane .a).transport = .running ∧
      2 ^ 48 ≤ (crossA.lane .a).pos.phase.toNat + (crossA.lane .a).stepAmount) := by decide +kernel

/-- Lane A pulled back by 7 units a step, its residual one unit outside the aligned limit or `r` units. -/
def pulled (r : Int) : State := runA.modLane .a fun l => { l with
  pos := ⟨10, 100⟩
  residual := r
  pullRate := -7
  source := .reference
  follow := .following }

theorem witness_LaneAdvance_residual : ((pulled (-5)).lane .a).transport = .running ∧
    ((pulled (-5)).lane .a).residual.sign * (min 7 5 : Nat) = -5 ∧ (pulled (-5)).laneA.stepAmount = resetIncrement - 5 ∧
    ((pulled (-5)).lane .a).pos.phase.toNat + (pulled (-5)).laneA.stepAmount < 2 ^ 48 := by decide +kernel

/-- R11, R12: the pull is at most the residual and takes its sign; the step that brings the residual within 1/256 beat sets
the aligned flag and posts ALIGNED, and no other does. -/
theorem test_pull : ((pulled (-5)).beginAdvance .a).laneA.pos = ⟨10, BitVec.ofNat 48 (100 + resetIncrement - 5)⟩ ∧
    ((pulled (-5)).beginAdvance .a).laneA.residual = 0 ∧
    ((pulled (-2 ^ 40 - 8)).beginAdvance .a).laneA.residual = -2 ^ 40 - 1 ∧
    posted ((pulled (-2 ^ 40 - 8)).beginAdvance .a) = [] ∧ posted ((pulled (-2 ^ 40 - 7)).beginAdvance .a) = [.aligned .a] ∧
    ((pulled (-2 ^ 40 - 7)).beginAdvance .a).laneA.aligned = true ∧ posted ((pulled 0).beginAdvance .a) = [] := by
  decide +kernel

theorem witness_BoundaryCounting : runningLane.countersLegal ∧ runningLane.beatInBar + 1 ≠ runningLane.beatsPerBar ∧
    ({ runningLane with beatInBar := 3 } : Lane).countersLegal ∧
    ({ runningLane with beatInBar := 3, barInPhrase := 7 } : Lane).countersLegal ∧
    ({ runningLane with beatsPerBar := 1, barsPerPhrase := 1, beatInBar := 0, barInPhrase := 0 } : Lane).countersLegal := by
  unfold Lane.countersLegal meterLegal; decide

/-- R22: the last beat of a phrase of 8 bars of 4 beats is followed by a new phrase. -/
theorem test_count : (Lane.count { runningLane with beatInBar := 3, barInPhrase := 7 }).phraseCount = 1 ∧
    (Lane.count { runningLane with beatInBar := 3 }).barInPhrase = 3 ∧ (Lane.count runningLane).beatInBar = 3 := by decide

/-- Lane A about to cross into beat 11 again, which was announced before. -/
def silentA : State := crossA.modLane .a fun l => { l with high := 11 }

theorem witness_SilentBoundary : silentA.mode = .running ∧ (silentA.lane .a).transport = .running ∧
    (silentA.lane .a).crossing = true ∧ 2 ^ 48 ≤ (silentA.lane .a).pos.phase.toNat + (silentA.lane .a).stepAmount ∧
    ahead ((silentA.lane .a).pos.advance (silentA.lane .a).stepAmount).beat (silentA.lane .a).high ≤ 0 := by
  decide +kernel

/-- R21: a boundary at H is counted and nothing else. -/
theorem test_silent_boundary : (after (.silentBoundary .a) silentA).laneA.beatInBar = 3 ∧
    (after (.silentBoundary .a) silentA).laneA.pos.beat = 11 ∧ posted (after (.silentBoundary .a) silentA) = [] := by
  decide +kernel

theorem witness_AnnouncedBoundaryOfFreeLane : crossA.mode = .running ∧ (crossA.lane .a).transport = .running ∧
    (crossA.lane .a).crossing = true ∧ (crossA.lane .a).source = .free ∧ (crossA.lane .a).follow = .free ∧
    (crossA.lane .a).residual = 0 ∧ 2 ^ 48 ≤ (crossA.lane .a).pos.phase.toNat + (crossA.lane .a).increment ∧
    0 < ahead ((crossA.lane .a).pos.advance (crossA.lane .a).increment).beat (crossA.lane .a).high ∧
    crossA.known = [] ∧ (crossA.lane .b).crossing = false ∧ (crossA.lane .b).source ≠ .lane ∧ crossA.queue = [] := by
  decide +kernel

/-- Lane A a unit before the bar start at beat 12, leading the bus, in a glide of one beat, with BAR enabled. -/
def barA : State := { crossA.modLane .a fun l => { l with
    pos := ⟨11, BitVec.ofNat 48 (2 ^ 48 - 1)⟩
    beatInBar := 3
    high := 11
    glide := some ⟨resetIncrement, 977343669, 1, 0⟩ } with
  bus := { Bus.reset with settings := ⟨.k500, .auto, some .a, 5⟩ }
  link := { live.link with mask := 0x003FFFFE#32 } }

/-- R6, R22, R23, R26, R172: the boundary at beat 12 starts bar 3, ends the glide, and makes the transmit request. -/
theorem test_announced_boundary : posted (after (.announcedBoundary .a) barA) = [.glideDone .a, .bar .a 3] ∧
    (after (.announcedBoundary .a) barA).laneA.high = 12 ∧
    (after (.announcedBoundary .a) barA).laneA.increment = 977343669 ∧
    (after (.announcedBoundary .a) barA).bus.request = some ⟨.boundary 12, false, false, false⟩ := by decide +kernel

theorem witness_TakeModesResolveAboveH : runningLane.countersLegal ∧ -2 ^ 30 < ahead runningLane.high runningLane.pos.beat ∧
    ahead runningLane.high runningLane.pos.beat < 2 ^ 30 := by
  unfold Lane.countersLegal meterLegal; decide

/-- R71: from the third beat of the third bar, beat 10: the next bar starts at 12 and the next phrase at 32; two bars
ahead is 16. With H at 12 the next bar is that at 16. -/
theorem test_take_modes : TakeMode.nextBar.dueBeat runningLane = 12 ∧ TakeMode.nextPhrase.dueBeat runningLane = 32 ∧
    (TakeMode.afterBars 2).dueBeat runningLane = 16 ∧
    TakeMode.nextBar.dueBeat { runningLane with high := 12 } = 16 := by decide +kernel

/-! ## The request queue -/

theorem witness_RefusedRequestsChangeNothing : (⟨.setCue, 0x2B, anyPayload, 2⟩ : RequestRow) ∈ requestRows ∧
    RequestAtHead (atHead live 0x2B [5, 0]) 0x2B 7 [5, 0] ∧ anyPayload [5, 0] = true :=
  ⟨by simp [requestRows], head_atHead rfl rfl rfl rfl, rfl⟩

theorem witness_WrongLengths : (⟨.setCue, 0x2B, anyPayload, 2⟩ : RequestRow) ∈ requestRows ∧
    RequestAtHead (atHead live 0x2B [1]) 0x2B 7 [1] ∧ anyPayload [1] = true ∧ [1].length ≠ 2 :=
  ⟨by simp [requestRows], head_atHead rfl rfl rfl rfl, rfl, by decide⟩

/-- A refusal at the head of the queue. -/
def refusalHead : State := { live with link := { live.link with requests := [.refusal 0x10 9] } }

theorem witness_UnknownTypesAndRefusals : RequestAtHead (atHead live 0x05 []) 0x05 7 [] ∧ (0x05 : Byte) ∉ catalogueTypes ∧
    refusalHead.mode = .running ∧ refusalHead.link.replies.length < 4 ∧ refusalHead.link.resetPending = false ∧
    refusalHead.link.handled = false ∧ refusalHead.link.requests.head? = some (.refusal 0x10 9) :=
  ⟨head_atHead rfl rfl rfl rfl, by decide, rfl, by decide, rfl, rfl, rfl⟩

/-- R186: BAD_LENGTH, BAD_TYPE and LINK_BUSY. -/
theorem test_bad_requests : replied (after .setCue (atHead live 0x2B [1])) = [0x11] ∧
    replied (after .unknownTypeRequest (atHead live 0x05 [])) = [0x10] ∧
    replied (after .linkBusy refusalHead) = [0x30] := by decide +kernel

theorem witness_Reads : RequestAtHead (atHead live 0x01 []) 0x01 7 [] ∧
    RequestAtHead (atHead live 0x16 [1, 2]) 0x16 7 [1, 2] ∧ RequestAtHead (atHead live 0x20 [23]) 0x20 7 [23] ∧
    RequestAtHead (atHead live 0x29 [15]) 0x29 7 [15] ∧ RequestAtHead (atHead live 0x31 [15, 2]) 0x31 7 [15, 2] ∧
    RequestAtHead (atHead live 0x3A [11]) 0x3A 7 [11] ∧ RequestAtHead (atHead live 0x4A [3]) 0x4A 7 [3] ∧
    RequestAtHead (atHead live 0x52 [2, 7]) 0x52 7 [2, 7] ∧ RequestAtHead (atHead live 0x03 []) 0x03 7 [] :=
  ⟨head_atHead rfl rfl rfl rfl, head_atHead rfl rfl rfl rfl, head_atHead rfl rfl rfl rfl, head_atHead rfl rfl rfl rfl,
    head_atHead rfl rfl rfl rfl, head_atHead rfl rfl rfl rfl, head_atHead rfl rfl rfl rfl, head_atHead rfl rfl rfl rfl,
    head_atHead rfl rfl rfl rfl⟩

/-- R193: part number H'2160, 2 lanes, 16 channels, payloads up to 56. -/
theorem test_identify : replied (after .identify (atHead live 0x01 [])) = [0x00, 0x21, 0x60, 0x01, 2, 16, 0, 56] := by
  decide +kernel

/-- Out-of-range pages and indices are refused (R41, R84, R89, R107, R141, R157, R180). -/
theorem test_reads_refused : replied (after .readLane (atHead live 0x16 [0, 3])) = [0x12] ∧
    replied (after .listChanges (atHead live 0x20 [24])) = [0x12] ∧
    replied (after .readPreset (atHead live 0x29 [16])) = [0x12] ∧
    replied (after .readChannel (atHead live 0x31 [16, 0])) = [0x12] ∧
    replied (after .readBreaks (atHead live 0x3A [12])) = [0x12] ∧
    replied (after .readHandovers (atHead live 0x4A [4])) = [0x12] ∧
    replied (after .readBus (atHead live 0x52 [2, 8])) = [0x12] := by decide +kernel

/-- The lengths of the reading replies (sections 11.3 and 11.5) at the last index each takes. -/
theorem test_reads_answered : ((replied (after .readPreset (atHead live 0x29 [15]))).take 6 = [0x00, 0x01, 0x5D, 0x86, 0x7C, 0x3F]) ∧
    (replied (after .listChanges (atHead fullQueue 0x20 [0]))).take 5 = [0x00, 24, 0, 0, 2] ∧
    (replied (after .readChannel (atHead live 0x31 [15, 2]))).take 2 = [0x00, 15] ∧
    (replied (after .readBreaks (atHead live 0x3A [11]))).take 2 = [0x00, 11] ∧
    (replied (after .readHandovers (atHead live 0x4A [3]))).take 2 = [0x00, 3] ∧
    (replied (after .readLane (atHead live 0x16 [1, 0]))).take 2 = [0x00, 1] ∧
    (replied (after .readBus (atHead live 0x52 [2, 7]))).take 2 = [0x00, 7] := by decide +kernel

/-- R192: STATUS clears the sticky flags it returns. -/
theorem test_status : (after .status (atHead { live with link := { live.link with sticky := ⟨true, true, true, true, true, true⟩ } }
    0x03 [])).link.sticky = .clear := by decide +kernel

theorem witness_NoticeMaskAndPosting : RequestAtHead (atHead live 0x04 [0, 0x3F, 0xFF, 0xFE]) 0x04 7 [0, 0x3F, 0xFF, 0xFE] ∧
    enabledBy live.link.mask (.bar .a 0) = false ∧ enabledBy live.link.mask (.glideDone .a) = true ∧
    live.link.notices.length < 32 ∧
    32 ≤ ({ live.link with notices := List.replicate 32 ⟨.refMisaligned, 0⟩ } : Link).notices.length :=
  ⟨head_atHead rfl rfl rfl rfl, by decide, by decide, by decide, by decide⟩

/-- R190: bits 1 to 21 are the enables; bit 22 and bit 0 are refused. -/
theorem test_notice_mask :
    replied (after .setNoticeMask (atHead live 0x04 [0, 0x3F, 0xFF, 0xFE])) = [0x00, 0, 0x3F, 0xFF, 0xFE] ∧
    replied (after .setNoticeMask (atHead live 0x04 [0, 0x40, 0, 0])) = [0x12] ∧
    replied (after .setNoticeMask (atHead live 0x04 [0, 0, 0, 1])) = [0x12] := by decide +kernel

theorem witness_ResetsAndTheFirstStep_reset : RequestAtHead (atHead live 0x02 []) 0x02 7 [] ∧
    (after .reset (atHead live 0x02 [])).link.resetPending = true := ⟨head_atHead rfl rfl rfl rfl, by decide +kernel⟩

/-! ## Lane requests -/

/-- SET_TEMPO of lane A to 300.001 BPM with a glide of 65 beats, IMMEDIATE. -/
def tempoTooHigh : List Byte := [0, 0x04, 0x93, 0xE1, 65, 0, 0, 0]

theorem witness_SetTempoRequest : RequestAtHead (atHead runA 0x10 tempoTooHigh) 0x10 7 tempoTooHigh ∧
    tempoTooHigh.length = 8 ∧ (runA.lane (otherLane .a)).source ≠ .lane :=
  ⟨head_atHead rfl rfl rfl rfl, rfl, by decide⟩

/-- R27: both clamps are marked, and the reply carries the increment, its tempo and the glide used. -/
theorem test_setTempo_clamps : replied (after .setTempo (atHead runA 0x10 tempoTooHigh)) =
    [0x01, 0, 0, 0x03, 0x69, 0xD0, 0x36, 0x9D, 0x04, 0x93, 0xE0, 64] := by decide +kernel

/-- R70, R71: NEXT_BAR on lane A makes entry 0 due at beat 12; on a STOPPED timing lane it is refused. -/
theorem test_setTempo_nextBar : (after .setTempo (atHead runA 0x10 [0, 0x01, 0xD4, 0xC0, 0, 2, 0, 0])).queue =
      [⟨0, .host, .a, .beat 12, .tempo .a 5864062015 0⟩] ∧
    replied (after .setTempo (atHead runA 0x10 [0, 0x01, 0xD4, 0xC0, 0, 2, 0, 1])) = [0x20] := by decide +kernel

theorem witness_SetTempoRequest_glide : 1 ≤ (⟨100, 90, 1, 0⟩ : Glide).length := by decide

theorem witness_SetMeterRequest : RequestAtHead (atHead live 0x11 [0, 16, 64, 0, 0, 0]) 0x11 7 [0, 16, 64, 0, 0, 0] ∧
    (([0, 16, 64, 0, 0, 0] : List Byte).length = 6) ∧
    ((runA.modLane .a fun l => { l with beatInBar := 0 }).lane .a).transport = .running ∧
    ((runA.modLane .a fun l => { l with beatInBar := 0 }).lane .a).beatInBar = 0 ∧
    ((runA.modLane .a fun l => { l with beatInBar := 0 }).lane .a).residual = 0 :=
  ⟨head_atHead rfl rfl rfl rfl, rfl, rfl, rfl, rfl⟩

/-- R29, R30: IMMEDIATE on a STOPPED lane reduces the counters; on a RUNNING lane it is NEXT_BAR; 17 beats are refused. -/
theorem test_setMeter :
    (after .setMeter (atHead (runA.modLane .a fun l => { l with transport := .stopped }) 0x11 [0, 2, 2, 0, 0, 0])).laneA.beatInBar = 0 ∧
    (after .setMeter (atHead runA 0x11 [0, 16, 64, 0, 0, 0])).queue = [⟨0, .host, .a, .beat 12, .meter .a 16 64⟩] ∧
    replied (after .setMeter (atHead runA 0x11 [0, 17, 1, 0, 0, 0])) = [0x12] ∧
    replied (after .setMeter (atHead runA 0x11 [0, 1, 65, 0, 0, 0])) = [0x12] := by decide +kernel

/-- SET_SOURCE of lane A to the tap tracker with pull limit 257 and follow glide 17. -/
def sourceTap : List Byte := [0, 1, 0, 0, 0, 1, 1, 17, 0, 0, 0]

/-- The source settings of a change to the tap tracker. -/
def tapSettings : SourceSettings := ⟨.tap, .beat, .nearest, 256, 16⟩

theorem witness_SetSourceRequest : RequestAtHead (atHead live 0x12 sourceTap) 0x12 7 sourceTap ∧ sourceTap.length = 11 ∧
    tapSettings.kind ≠ .lane ∧ (live.lane .a).source ≠ tapSettings.kind ∧ live.queue = [] :=
  ⟨head_atHead rfl rfl rfl rfl, rfl, by decide, by decide, rfl⟩

/-- Both lanes RUNNING, lane B with the source LANE, one entry on each of them, an active break on lane A and a handover. -/
def stopping : State :=
  ((((runAB.modLane .b fun l => { l with source := .lane, follow := .following }).setBrk 3
    (some ⟨true, 0x8000, .mute, 2, .b, .beat 9, false, 0, false, false⟩)).setHo 1
    (some ⟨.waitingAlign, 0x4000, 0, .b, .aligned, .beat, .w64, 4, none⟩)).setChan 15
    { Channel.reset with
      cfg := { ChannelConfig.reset with enabled := true }
      running := true
      brk := some ⟨3, .inBreak 2 9⟩ }).setChan 14
    { Channel.reset with
      cfg := { ChannelConfig.reset with enabled := true }
      running := true
      ho := some ⟨1, false⟩ }

/-- The source settings of a change to LANE, aligned to the beat. -/
def laneSettings : SourceSettings := ⟨.lane, .beat, .forward, 64, 4⟩

/-- Lane A FOLLOWING bus tracker 7 with a residual of a beat less a unit, of its bar. -/
def busFollower : State := (runA.modLane .a fun l => { l with
  source := .bus 7, follow := .following, residual := 2 ^ 48 - 1, pullRate := 5, barOffset := 3 })

/-- Lane A, STOPPED, with a START with JOIN waiting for bus tracker 7. -/
def joinOnBus : State := { live.modLane .a fun l => { l with source := .bus 7 } with
  queue := [⟨9, .host, .a, .join (.bus 7 none), .transport .a .join⟩] }

theorem witness_SetSourceRequest_lane : laneSettings.kind = .lane ∧ (runAB.lane (otherLane .a)).source ≠ .lane ∧
    (runAB.lane .a).source ≠ .lane ∧ runAB.queue = [] ∧ (stopping.lane (otherLane .a)).source = .lane ∧
    (busFollower.lane .a).source = .bus 7 ∧ busFollower.queue = [] ∧
    joinOnBus.queue = [] ++ ⟨9, .host, .a, .join (.bus 7 none), .transport .a .join⟩ :: [] ∧
    (∀ e ∈ joinOnBus.queue, e.isJoinOf .a = true) ∧ (joinOnBus.lane (otherLane .a)).source ≠ .lane := by decide +kernel

theorem witness_SetSourceRequest_ids : joinOnBus.idsDistinct := by unfold State.idsDistinct; decide

/-- R68: the notice of a change to LANE, by the other lane's transport; a change that keeps the source keeps p and q and
clamps r to the beat's half. R79: a join whose new source is TAP is IGNORED, one that finds lane B RUNNING waits for it, and
one that finds it STOPPED is a plain START. -/
theorem test_source_changes : posted (runAB.applySource .a laneSettings).1 = [.sourceLocked (.lane .a) 120000 none] ∧
    posted (runA.applySource .a laneSettings).1 = [.sourceHoldover (.lane .a) 120000 none] ∧
    (busFollower.applySource .a ⟨.bus 7, .beat, .nearest, 64, 4⟩).1.laneA.residual = 2 ^ 47 - 1 ∧
    (busFollower.applySource .a ⟨.bus 7, .beat, .nearest, 64, 4⟩).1.laneA.pullRate = 5 ∧
    posted (joinOnBus.applySource .a tapSettings).1 = [.changeApplied (.lane .a) 9 .transport .host false] ∧
    ((joinOnBus.setLane .b runningLane).applySource .a laneSettings).1.queue.map (·.due) = [.join (.lane false)] ∧
    (joinOnBus.applySource .a laneSettings).1.laneA.transport = .running := by decide +kernel

/-- R67, R68: the clamps, the follow state under a SEARCHING tap tracker, and the refusal of lanes that would follow
each other (R62). -/
theorem test_setSource : replied (after .setSource (atHead live 0x12 sourceTap)) = [0x01, 0, 0, 1, 0, 16] ∧
    (after .setSource (atHead live 0x12 sourceTap)).laneA.follow = .holdover ∧
    replied (after .setSource (atHead (live.modLane .b fun l => { l with source := .lane }) 0x12
      [0, 4, 0, 0, 0, 0, 64, 4, 0, 0, 0])) = [0x12] := by decide +kernel

theorem witness_TransportRequests : RequestAtHead (atHead live 0x13 [0, 0, 0, 0, 0]) 0x13 7 [0, 0, 0, 0, 0] ∧
    RequestAtHead (atHead live 0x13 [0, 0, 6, 0, 0]) 0x13 7 [0, 0, 6, 0, 0] ∧
    RequestAtHead (atHead runA 0x13 [0, 1, 0, 0, 0]) 0x13 7 [0, 1, 0, 0, 0] ∧
    RequestAtHead (atHead live 0x13 [0, 2, 0, 0, 0]) 0x13 7 [0, 2, 0, 0, 0] ∧
    RequestAtHead (atHead live 0x13 [2, 3, 7, 0, 0]) 0x13 7 [2, 3, 7, 0, 0] :=
  ⟨head_atHead rfl rfl rfl rfl, head_atHead rfl rfl rfl rfl, head_atHead rfl rfl rfl rfl, head_atHead rfl rfl rfl rfl,
    head_atHead rfl rfl rfl rfl⟩

/-- R31 to R33: a START at once; STOP of a STOPPED lane and START of a RUNNING one are refused. -/
theorem test_start : (after .transportStart (atHead live 0x13 [0, 0, 0, 0, 0])).laneA.transport = .running ∧
    replied (after .transportStart (atHead runA 0x13 [0, 0, 0, 0, 0])) = [0x20] ∧
    replied (after .transportStart (atHead live 0x13 [0, 3, 0, 0, 0])) = [0x12] ∧
    posted (after .transportStart (atHead live 0x13 [0, 0, 0, 0, 0])) = [.transportStarted .a .start] := by decide +kernel

theorem test_stop_resume : (after .transportStop (atHead runA 0x13 [0, 1, 0, 0, 0])).laneA.pos = ⟨10, 0⟩ ∧
    (after .transportStop (atHead runA 0x13 [0, 1, 0, 0, 0])).laneA.transport = .stopped ∧
    replied (after .transportStop (atHead live 0x13 [0, 1, 0, 0, 0])) = [0x20] ∧
    (after .transportResume (atHead live 0x13 [0, 2, 0, 0, 0])).laneA.transport = .running := by decide +kernel

theorem witness_StartAndResumeOfALane : (live.lane (otherLane .a)).source ≠ .lane ∧
    ((live.modLane .b fun l => { l with source := .lane }).lane (otherLane .a)).source = .lane := by decide

/-- It with an entry timed by either lane. -/
def stoppingAll : State := { stopping with queue := [⟨1, .host, .a, .beat 11, .tempo .a 977343669 0⟩,
  ⟨2, .host, .b, .beat 11, .tempo .a 977343669 0⟩] }

theorem witness_StopOfALane : (∀ e ∈ stoppingAll.queue, e.joinsOn .b .lane = false) ∧
    stoppingAll.inBreakRecord 3 15 = true ∧ (stoppingAll.ho 1).isSome = true ∧ (stoppingAll.lane .b).source = .lane := by
  decide +kernel

/-- A START with JOIN of lane B, STOPPED with the source LANE or RUNNING, waits for lane A. -/
def joinOnLane (running : Bool) : State := { runA.modLane .b fun l => { l with
    source := .lane
    transport := if running then .running else .stopped } with
  queue := [⟨9, .host, .b, .join (.lane false), .transport .b .join⟩] }

theorem witness_StopOfALane_join : (joinOnLane false).queue = [] ++ ⟨9, .host, .b, .join (.lane false), .transport .b .join⟩ :: [] ∧
    (⟨9, .host, .b, .join (.lane false), .transport .b .join⟩ : Entry).joinsOn .b .lane = true ∧
    ((joinOnLane true).lane .b).transport = .running := by decide +kernel

theorem witness_StopOfALane_ids : (joinOnLane false).idsDistinct := by unfold State.idsDistinct; decide

/-- R79: at the stop of the lane it waits for, a join is carried out as a plain START, and IGNORED on a RUNNING lane. -/
theorem test_stop_join : ((joinOnLane false).stopLane .a).laneB.transport = .running ∧
    ((joinOnLane false).stopLane .a).laneB.pos = ⟨0, 0⟩ ∧ ((joinOnLane false).stopLane .a).queue = [] ∧
    posted ((joinOnLane true).stopLane .a) = [.transportStopped .a, .sourceHoldover (.lane .b) 120000 none,
      .changeApplied (.lane .b) 9 .transport .host false] := by decide +kernel

/-- R36, R61: the order of the notices of a stop; the entry of lane B stays. -/
theorem test_stop_notices : posted (stoppingAll.stopLane .a) = [.transportStopped .a, .changesDiscarded .a 1,
      .breakDone 3 .stopped .mute 0x8000 0, .handoverDone 1 .cancelled .a .b 0x4000 0 none,
      .sourceHoldover (.lane .b) 120000 none] ∧ (stoppingAll.stopLane .a).queue.map (·.id) = [2] := by decide +kernel

theorem witness_CopyLaneRequest : RequestAtHead (atHead runA 0x15 [0, 0, 0]) 0x15 7 [0, 0, 0] ∧
    (runA.lane .a).source ≠ .lane := ⟨head_atHead rfl rfl rfl rfl, by decide⟩

/-- R38, R39: the other lane takes position and counters; a RUNNING target is refused. -/
theorem test_copy : (after .copyLane (atHead runA 0x15 [0, 0, 0])).laneB.pos = ⟨10, 0⟩ ∧
    (after .copyLane (atHead runA 0x15 [0, 0, 0])).laneB.beatInBar = 2 ∧
    replied (after .copyLane (atHead runAB 0x15 [0, 0, 0])) = [0x20] := by decide +kernel

/-- Lane A before its carry with a pull of 7 units a step. -/
def pulledCross : State := crossA.modLane .a fun l => { l with
  source := .reference
  follow := .following
  residual := 2 ^ 41
  pullRate := 7 }

/-- R39: a copy made before the from-lane's carry crosses with it into the same position, with no pull of its own after. -/
theorem test_copy_before_carry :
    let t := after (.announcedBoundary .b) (after (.announcedBoundary .a) (after .copyLane (atHead pulledCross 0x15 [0, 0, 0])))
    t.laneB.pos = t.laneA.pos ∧ t.laneB.pos = ⟨11, BitVec.ofNat 48 (resetIncrement + 6)⟩ ∧ t.laneB.residual = 0 ∧
      t.laneB.copiedPull = 0 := by decide +kernel

/-- Lane A RUNNING and FOLLOWING, aligned to the bar. -/
def following : State := runA.modLane .a fun l => { l with source := .reference, follow := .following, alignLength := .beat }

theorem witness_NudgeAndReferenceRequests : RequestAtHead (atHead following 0x14 [0, 2, 0]) 0x14 7 [0, 2, 0] :=
  head_atHead rfl rfl rfl rfl

/-- R13: an offset of 512 is clamped to 511, and the sum into half a beat; an offset of 4 is 1/256 beat. -/
theorem test_nudge : replied (after .nudge (atHead following 0x14 [0, 2, 0])) =
      [0x01, 0x01, 0xFF, 0, 0, 0x7F, 0xC0, 0, 0, 0, 0] ∧
    (after .nudge (atHead following 0x14 [0, 0, 4])).laneA.aligned = true ∧
    (after .nudge (atHead following 0x14 [0, 0, 5])).laneA.aligned = false ∧
    replied (after .nudge (atHead runA 0x14 [0, 0, 4])) = [0x20] := by decide +kernel

theorem witness_NudgeAndReferenceRequests_reference : RequestAtHead (atHead live 0x17 [96, 1, 0]) 0x17 7 [96, 1, 0] :=
  head_atHead rfl rfl rfl rfl

/-- R55: 96 pulses to the beat are taken, 97 and 0 refused. -/
theorem test_setReference : (after .setReference (atHead live 0x17 [96, 1, 0])).ref.q = 96 ∧
    replied (after .setReference (atHead live 0x17 [97, 1, 0])) = [0x12] ∧
    replied (after .setReference (atHead live 0x17 [0, 1, 0])) = [0x12] := by decide +kernel

/-! ## Scheduler and presets -/

theorem witness_CancelChangeAndSetCue : RequestAtHead (atHead fullQueue 0x21 [0, 23]) 0x21 7 [0, 23] :=
  head_atHead rfl rfl rfl rfl

/-- R85: one by id, all of a lane, all; an id that no entry holds is refused. -/
theorem test_cancelChange : replied (after .cancelChange (atHead fullQueue 0x21 [0, 23])) = [0, 1] ∧
    replied (after .cancelChange (atHead fullQueue 0x21 [1, 0])) = [0, 24] ∧
    replied (after .cancelChange (atHead fullQueue 0x21 [1, 1])) = [0, 0] ∧
    replied (after .cancelChange (atHead fullQueue 0x21 [0, 24])) = [0x12] ∧
    (after .cancelChange (atHead fullQueue 0x21 [2, 9])).queue = [] := by decide +kernel

theorem witness_PresetRequests :
    RequestAtHead (atHead live 0x28 [15, 0, 0, 1, 64, 3]) 0x28 7 [15, 0, 0, 1, 64, 3] ∧ byteAt [15, 0, 0, 1, 64, 3] 0 ≠ 0x80 ∧
    RequestAtHead (atHead live 0x28 [0x80, 0, 0, 0, 0, 4]) 0x28 7 [0x80, 0, 0, 0, 0, 4] ∧
    byteAt [0x80, 0, 0, 0, 0, 4] 0 = 0x80 ∧ RequestAtHead (atHead runA 0x2A [15, 0]) 0x2A 7 [15, 0] :=
  ⟨head_atHead rfl rfl rfl rfl, by decide, head_atHead rfl rfl rfl rfl, by decide, head_atHead rfl rfl rfl rfl⟩

/-- R87, R88: tempo 1 mBPM is clamped to 20 BPM and marked; take mode AFTER_BARS is refused; the strobe mode is taken. -/
theorem test_writePreset : (after .writePreset (atHead live 0x28 [15, 0, 0, 1, 64, 3])).preset 15 = ⟨977343669, 64, .nextPhrase⟩ ∧
    (replied (after .writePreset (atHead live 0x28 [15, 0, 0, 1, 64, 3]))).head? = some 0x01 ∧
    replied (after .writePreset (atHead live 0x28 [15, 0, 0, 1, 64, 4])) = [0x12] ∧
    (after .writePresetStrobe (atHead live 0x28 [0x80, 0, 0, 0, 0, 4])).strobe.mode = .both ∧
    replied (after .writePresetStrobe (atHead live 0x28 [0x80, 0, 0, 0, 0, 5])) = [0x12] := by decide +kernel

/-- R95, R98: a NEXT_BEAT preset makes an entry with maker PRESET; on a STOPPED lane it is refused. -/
theorem test_applyPreset : (after .applyPreset (atHead runA 0x2A [15, 0])).queue =
      [⟨0, .preset 15, .a, .beat 11, .tempo .a 5864062015 0⟩] ∧
    posted (after .applyPreset (atHead runA 0x2A [15, 0])) = [.presetTaken .a 15 .host (some 0) 120000] ∧
    replied (after .applyPreset (atHead live 0x2A [15, 0])) = [0x20] ∧
    replied (after .applyPreset (atHead fullQueue 0x2A [15, 0])) = [0x22] := by decide +kernel

theorem witness_CancelChangeAndSetCue_cue : RequestAtHead (atHead live 0x2B [4, 2]) 0x2B 7 [4, 2] := head_atHead rfl rfl rfl rfl

/-- R82: line 4 is the last; lines 0 and 5 are refused. -/
theorem test_setCue : (after .setCue (atHead live 0x2B [4, 2])).cues[3].quantize = .bar ∧
    replied (after .setCue (atHead live 0x2B [0, 2])) = [0x12] ∧ replied (after .setCue (atHead live 0x2B [5, 2])) = [0x12] := by
  decide +kernel

/-- A tempo change waiting for cue line 1. -/
def cueEntry : Entry := ⟨3, .host, .a, .cue 0, .tempo .a 977343669 0⟩

/-- The part with that change waiting, and cue line 1 last taken `d` steps ago. -/
def cueWaits (d : Nat) (q : Quantize) : State := { runA with
  queue := [cueEntry]
  cues := runA.cues.set 0 ⟨q, some (400000 - d)⟩ }

theorem witness_CueEdgeResolves : (cueWaits 1919 .beat).mode = .running ∧
    ((cueWaits 1919 .beat).cues[0]).lastEdge = some 398081 ∧ since (cueWaits 1919 .beat).clock 398081 < 1920 ∧
    ((cueWaits 1920 .beat).cues[0]).lastEdge = some 398080 ∧ 1920 ≤ since (cueWaits 1920 .beat).clock 398080 ∧
    (∀ r, (cueWaits 1920 .beat).brk r = none) ∧ (cueWaits 1920 .beat).queue = [] ++ cueEntry :: [] ∧
    cueEntry.due = .cue 0 ∧ ((cueWaits 1920 .beat).lane .a).transport = .running := by decide +kernel

theorem witness_CueEdge_ids : (cueWaits 1920 .beat).idsDistinct := by unfold State.idsDistinct; decide

/-- R80, R81: the debounce time is 1,920 steps; BEAT gives H + 1, BAR the next bar start, NONE applies at once. -/
theorem test_cueEdge : (after (.cueEdge 0) (cueWaits 1919 .beat)).queue = [cueEntry] ∧
    (after (.cueEdge 0) (cueWaits 1920 .beat)).queue = [{ cueEntry with due := .beat 11 }] ∧
    (after (.cueEdge 0) (cueWaits 1920 .bar)).queue = [{ cueEntry with due := .beat 12 }] ∧
    (after (.cueEdge 0) (cueWaits 1920 .none)).queue = [] ∧
    (after (.cueEdge 0) (cueWaits 1920 .none)).laneA.increment = 977343669 := by decide +kernel

/-- A break of channel 15 and a START of lane B waiting for cue line 1, lane B timing both and STOPPED. -/
def cueBreak : State := ((cueWaits 1920 .beat).setBrk 2
    (some ⟨false, 0x8000, .mute, 2, .b, .cue 0, false, 0, false, false⟩)).setChan 15
    { Channel.reset with brk := some ⟨2, .waiting false⟩ }

theorem witness_CueEdge_entries : (∀ e ∈ (cueWaits 1920 .beat).queue, (runA.lane e.timing).transport = .running) ∧
    ((cueWaits 1920 .beat).cues[0]).quantize ≠ .none ∧
    ({ live with queue := [cueEntry] } : State).queue = [] ++ cueEntry :: [] ∧
    (({ live with queue := [cueEntry] } : State).lane .a).transport = .stopped ∧
    (∀ e ∈ ({ cueBreak with queue := [] } : State).queue, e.due ≠ .cue 0) ∧
    (cueBreak.brk 2).map (·.due) = some (.cue 0) ∧ ((cueBreak.chan 15).brk = some ⟨2, .waiting false⟩) := by decide +kernel

/-- R81: a break whose timing lane is STOPPED at the edge takes the NONE form, though an entry of the edge starts that
lane; every waiting entry of the line is given its due beat at one edge, which counts once. -/
theorem test_cueEdge_several :
    ((after (.cueEdge 0) { cueBreak with queue := [⟨3, .host, .b, .cue 0, .transport .b .start⟩] }).brk 2).map (·.due) =
      some .absent ∧
    (after (.cueEdge 0) { cueBreak with queue := [⟨3, .host, .b, .cue 0, .transport .b .start⟩] }).laneB.transport = .running ∧
    (after (.cueEdge 0) { cueWaits 1920 .bar with queue := [cueEntry, { cueEntry with id := 4 }] }).queue.map (·.due) =
      [.beat 12, .beat 12] ∧
    (after (.cueEdge 0) { cueWaits 1920 .bar with queue := [cueEntry, { cueEntry with id := 4 }] }).generation = 1 := by
  decide +kernel

/-- R80, R81: break records and entries wait on one line: the break stands as the edge alone leaves it. -/
theorem witness_CueEdge_both :
    (∃ e ∈ ({ cueBreak with queue := [cueEntry] } : State).queue, e.due = .cue 0) ∧
    (({ cueBreak with queue := [cueEntry] } : State).brk 2).map (·.due) = some (.cue 0) ∧
    exec (.cueEdge 0) { cueBreak with queue := [] } = .next (after (.cueEdge 0) { cueBreak with queue := [] }) ∧
    ((after (.cueEdge 0) { cueBreak with queue := [cueEntry] }).brk 2).map (·.due) = some .absent ∧
    (after (.cueEdge 0) { cueBreak with queue := [cueEntry] }).queue.map (·.due) = [.beat 11] :=
  ⟨by decide +kernel, by decide +kernel, rfl, by decide +kernel, by decide +kernel⟩

/-- The strobe mode set, its last edge taken `d` steps ago, and preset 5 selected. -/
def strobed (d : Nat) (m : StrobeMode) : State := { runA with
  strobe := ⟨m, some (400000 - d), none⟩
  pins := ⟨5, true⟩ }

theorem witness_StrobeEdgeRecallsPreset : (strobed 1919 .both).mode = .running ∧
    (strobed 1919 .both).strobe.lastEdge = some 398081 ∧ since (strobed 1919 .both).clock 398081 < 1920 ∧
    1920 ≤ since (strobed 1920 .both).clock 398080 := by decide

/-- R90 to R93: within the debounce time nothing is taken; BOTH recalls for lane A and finds lane B STOPPED. -/
theorem test_strobeEdge : posted (after .strobeEdge (strobed 1919 .both)) = [] ∧
    posted (after .strobeEdge (strobed 1920 .both)) =
      [.presetTaken .a 5 .strobe (some 0) 120000, .presetIgnored .b 5 .strobe .laneStopped] ∧
    posted (after .strobeEdge (strobed 1920 .byLine)) = [.presetIgnored .b 5 .strobe .laneStopped] ∧
    (after .strobeEdge (strobed 1920 .hostOnly)).strobe.selection = some (5, true) := by decide +kernel

theorem test_selectLine : (after (.selectLineChange .sel3 true) live).pins = ⟨8, false⟩ ∧
    (after (.selectLineChange .lsel true) live).pins = ⟨0, true⟩ ∧
    (after (.selectLineChange .sel0 false) { live with pins := ⟨15, true⟩ }).pins = ⟨14, true⟩ := by decide +kernel

/-! ## Trackers -/

/-- The tap tracker with its last tap `d` steps ago and the intervals given. -/
def tapped (d : Nat) (intervals : List Nat) : State := { live with
  tap := ⟨.searching, some (400000 - d), intervals, none, none⟩ }

theorem witness_TapSorting : live.tap.last = none ∧ (tapped 19199 []).tap.last = some 380801 ∧
    since 400000 380801 < 19200 ∧ 288000 < since 400000 111999 ∧
    (19200 ≤ since 400000 352000 ∧ since 400000 352000 ≤ 288000 ∧
      ([38000] : List Nat).sum < 4 * ((since 400000 352000 : Int) * 1 - ([38000] : List Nat).sum).natAbs) ∧
    4 * ((since 400000 352000 : Int) * 1 - ([48000] : List Nat).sum).natAbs ≤ ([48000] : List Nat).sum := by decide

/-- R46 to R48: two intervals of 48,000 steps, half a second, lock the tracker at 120 BPM; 38,000 against 48,000 is an
outlier; 19,199 steps are a bounce. -/
theorem test_tap : (after .tap (tapped 48000 [48000])).tap.lock = .locked ∧
    posted (after .tap (tapped 48000 [48000])) = [.sourceLocked .tap 120000 none] ∧
    (after .tap (tapped 48000 [38000])).tap.intervals = [] ∧
    after .tap (tapped 19199 []) = tapped 19199 [] ∧
    (after .tap (tapped 288001 [])).tap.intervals = [] := by decide +kernel

/-- The LOCKED reference tracker with one pulse to the beat at 120 BPM, its last pulse `d` steps ago. -/
def refLocked (d : Nat) (realign : Bool) : State := { live with
  ref := ⟨1, true, realign, .locked, some (400000 - d), 0, 1, false, [48000], some resetIncrement, some (400000 - d), none, false⟩ }

/-- The SEARCHING reference tracker with one pulse to the beat and one interval of `a` steps. -/
def refSearching (a : Nat) : State := { live with
  ref := ⟨1, true, true, .searching, some 352000, 0, 1, false, [a], none, none, none, false⟩ }

theorem witness_ReferencePulses : live.ref.restart = true ∧ (refSearching 48000).ref.restart = false ∧
    (refSearching 48000).ref.lastPulse = some 352000 ∧ (refSearching 48000).ref.lock ≠ .locked ∧
    since (refSearching 48000).clock 352000 = 48000 ∧ (refLocked 60001 true).ref.lock = .locked ∧
    (refLocked 60001 true).ref.estimate = some resetIncrement ∧ (refLocked 60001 true).ref.restart = false ∧
    2 ^ 48 < 4 * ((60001 * 1 * resetIncrement : Nat) - (2 ^ 48 : Int)).natAbs ∧
    4 * ((48000 * 1 * resetIncrement : Nat) - (2 ^ 48 : Int)).natAbs ≤ 2 ^ 48 := by decide +kernel

/-- R50 to R53: a steady full window locks; intervals 45,000 and 48,000 are not steady; a pulse a quarter beat late is
misaligned. -/
theorem test_reference : (after .refclkPulse (refSearching 48000)).ref.lock = .locked ∧
    (after .refclkPulse (refSearching 42000)).ref.lock = .searching ∧
    posted (after .refclkPulse (refLocked 60001 true)) = [.refMisaligned] ∧
    posted (after .refclkPulse (refLocked 48000 true)) = [] ∧
    (after .dbeatEdge (refLocked 1 true)).ref.mark = true := by decide +kernel

/-- A frame of a running station 3 at 120 BPM. -/
def frame : BusFrame := ⟨3, true, false, 0, 4, 8, 0, 0, 100, 0, resetIncrement⟩

/-- Bus tracker 7 LOCKED, its last frame `d` steps ago. -/
def busLocked (d : Nat) : State :=
  live.setBusTracker 7 ⟨.locked, some 3, some (frame, 400000 - d), some resetIncrement, none, 0⟩

/-- The reference tracker in HOLDOVER since step `400000 - d`, at 300 BPM. -/
def refHeld (d : Nat) : State := { live with
  clock := 4000000
  ref := { (refLocked 0 true).ref with lock := .holdover, estimate := some incMax, holdoverStart := some (4000000 - d) } }

/-- Bus tracker 7 in HOLDOVER, at 300 BPM. -/
def busHeld (d : Nat) : State := { live with clock := 4000000 }.setBusTracker 7
  ⟨.holdover, some 3, some (frame, 0), some incMax, some (4000000 - d), 0⟩

theorem witness_TrackerExpiriesAndTransitions :
    2 * 2 ^ 48 < since (refLocked 96000 true).clock 304000 * resetIncrement ∧
    (refLocked 96000 true).ref.lastPulse = some 304000 ∧
    64 * 2 ^ 48 ≤ since (refHeld 1228801).clock 2771199 * incMax ∧ (refHeld 1228801).ref.holdoverStart = some 2771199 ∧
    (busLocked 192000).busTracker 7 = ⟨.locked, some 3, some (frame, 208000), some resetIncrement, none, 0⟩ ∧
    4 * 2 ^ 48 < since (busLocked 192000).clock 208000 * frame.increment ∧
    (busHeld 1228801).busTracker 7 = ⟨.holdover, some 3, some (frame, 0), some incMax, some 2771199, 0⟩ ∧
    64 * 2 ^ 48 ≤ since (busHeld 1228801).clock 2771199 * incMax ∧ live.queue = [] := by decide +kernel

/-- R54, R60: HOLDOVER after more than two beats without a pulse and four without a frame; SEARCHING after 64 beats. -/
theorem test_expiries : (after .referenceHoldoverExpiry (refLocked 95999 true)).ref.lock = .locked ∧
    (after .referenceHoldoverExpiry (refLocked 96000 true)).ref.lock = .holdover ∧
    (after .referenceSearchingExpiry (refHeld 1228800)).ref.lock = .holdover ∧
    (after .referenceSearchingExpiry (refHeld 1228801)).ref.lock = .searching ∧
    ((after (.busHoldoverExpiry 7) (busLocked 191999)).busTracker 7).lock = .locked ∧
    ((after (.busHoldoverExpiry 7) (busLocked 192000)).busTracker 7).lock = .holdover ∧
    ((after (.busSearchingExpiry 7) (busHeld 1228800)).busTracker 7).lock = .holdover ∧
    ((after (.busSearchingExpiry 7) (busHeld 1228801)).busTracker 7).lock = .searching := by decide +kernel

/-- A START with JOIN of lane A whose predicted step has come. -/
def joinEntry : Entry := ⟨9, .host, .a, .join (.bus 7 (some 400000)), .transport .a .join⟩

/-- Lane A, STOPPED unless said otherwise, with its source and the join waiting. -/
def joinWaits (t : Transport) (k : SourceKind) (lock : LockState) : State :=
  { (live.modLane .a fun l => { l with transport := t, source := k }).setBusTracker 7
      ⟨lock, some 3, some (frame, 400000), some resetIncrement, none, 0⟩ with queue := [joinEntry] }

theorem witness_TrackerTransitions_join : (joinWaits .stopped (.bus 7) .locked).queue = [] ++ joinEntry :: [] ∧
    joinEntry.joinsOn .a (.bus 7) = true ∧ ((joinWaits .stopped (.bus 7) .locked).busTracker 7).lock = .locked ∧
    ((joinWaits .stopped (.bus 7) .locked).busTracker 7).take { frame with run := false } 400000 =
      ({ (joinWaits .stopped (.bus 7) .locked).busTracker 7 with
        last := some ({ frame with run := false }, 400000)
        lock := .holdover
        holdoverStart := some 400000 }, .holdover) := by decide +kernel

theorem witness_TrackerTransitions_ids : (joinWaits .stopped (.bus 7) .locked).idsDistinct := by
  unfold State.idsDistinct; decide

/-- R79, R31: a station's stop starts the lane whose join waits for it, plainly; on a RUNNING lane, or one that has left the
sources BUS and LANE, the join is IGNORED. R78: a frame of the running station gives the join a new predicted step. -/
theorem test_source_leaves :
    posted ((joinWaits .stopped (.bus 7) .locked).deliverFrame 7 { frame with run := false } 400000) =
      [.sourceHoldover (.bus 7) 120000 (some 3), .transportStarted .a .start,
        .changeApplied (.lane .a) 9 .transport .host true] ∧
    posted ((joinWaits .running (.bus 7) .locked).deliverFrame 7 { frame with run := false } 400000) =
      [.sourceHoldover (.bus 7) 120000 (some 3), .changeApplied (.lane .a) 9 .transport .host false] ∧
    ((joinWaits .stopped .free .locked).deliverFrame 7 { frame with run := false } 400000).laneA.transport = .stopped ∧
    ((joinWaits .stopped (.bus 7) .locked).deliverFrame 7 frame 400000).queue ≠ [joinEntry] ∧
    ((joinWaits .stopped (.bus 7) .locked).deliverFrame 7 frame 400000).generation = 1 := by decide +kernel

theorem witness_JoinComesDue : (joinWaits .running (.bus 7) .locked).dueJoin .a = some joinEntry ∧
    joinEntry.due = .join (.bus 7 (some 400000)) ∧ (joinWaits .stopped .free .locked).dueJoin .a = some joinEntry ∧
    ((joinWaits .stopped (.bus 7) .holdover).busTracker 7).lock ≠ .locked ∧
    ((joinWaits .stopped (.bus 7) .locked).busTracker 7).lock = .locked ∧
    ((joinWaits .stopped (.bus 7) .locked).busTracker 7).side 400000 = some ⟨0, 0, 0, 4, some 100⟩ ∧
    ((joinWaits .stopped (.bus 7) .locked).lane .b).source ≠ .lane := by decide +kernel

/-- Lane B crosses into a beat while lane A, whose source is LANE, waits for it. -/
def laneJoin : State := { (live.modLane .a fun l => { l with source := .lane }).setLane .b runningLane with
  queue := [{ joinEntry with due := .join (.lane true) }] }

theorem witness_JoinComesDue_lane : laneJoin.dueJoin .a = some { joinEntry with due := .join (.lane true) } ∧
    (laneJoin.lane .b).transport = .running ∧ (laneJoin.lane .a).transport = .stopped ∧ (laneJoin.lane .a).source = .lane := by
  decide +kernel

/-- R34, R78, R79: a RUNNING lane's join is IGNORED, a LOCKED source gives a join, another lock state a plain START. -/
theorem test_join : posted (after (.joinDue .a) (joinWaits .running (.bus 7) .locked)) =
      [.changeApplied (.lane .a) 9 .transport .host false] ∧
    posted (after (.joinDue .a) (joinWaits .stopped .free .locked)) = [.changeApplied (.lane .a) 9 .transport .host false] ∧
    (after (.joinDue .a) laneJoin).laneA.pos = ⟨10, 0⟩ ∧
    posted (after (.joinDue .a) (joinWaits .stopped (.bus 7) .locked)) =
      [.transportStarted .a .join, .changeApplied (.lane .a) 9 .transport .host true] ∧
    posted (after (.joinDue .a) (joinWaits .stopped (.bus 7) .holdover)) =
      [.transportStarted .a .start, .changeApplied (.lane .a) 9 .transport .host true] := by decide +kernel

/-! ## Channels -/

/-- A channel's configuration on lane A with 1 tick to the beat. -/
def cfgOf (f : ChannelFunction) : ChannelConfig := { ChannelConfig.reset with enabled := true, function := f, n := 1 }

/-- A RUNNING channel that has sent its first tick; its mark is the beat before 10. -/
def chanOf (f : ChannelFunction) : Channel := { Channel.reset with
  cfg := cfgOf f
  running := true
  origin := ⟨9, 0⟩
  delta := 0
  emitted := 1
  mark := 9 }

/-- Channel 15 of the part with lane A at beat 10 + 0, where its second tick is due. -/
def withChan (f : ChannelFunction) (g : Channel → Channel := id) : State := runA.setChan 15 (g (chanOf f))

/-- SET_CHANNEL 15: enabled on lane A as TICK, 1/1, swing 76, lead 250,001 µs, fixed width of 51 ms, IMMEDIATE. -/
def channelPayload : List Byte := [15, 1, 0, 0, 1, 1, 76, 0x03, 0xD0, 0x91, 3, 51, 0, 0, 0, 0, 0, 0]

theorem witness_SetChannelRequest : RequestAtHead (atHead live 0x30 channelPayload) 0x30 7 channelPayload ∧
    channelPayload.length = 18 ∧ (live.chan 15).cfg.enabled = false ∧ (cfgOf .tick).enabled = true ∧
    (runA.lane (cfgOf .tick).lane).transport = .running ∧ (live.lane (cfgOf .tick).lane).transport = .stopped ∧
    ((withChan .tick).chan 15).cfg.enabled = true ∧ ChannelConfig.reset.enabled = false ∧
    ((withChan .tick).chan 15).brk = none ∧ ((withChan .tick).chan 15).ho = none ∧
    gridChange ((withChan .tick).chan 15).cfg { cfgOf .tick with lead := 5 } = false :=
  ⟨head_atHead rfl rfl rfl rfl, rfl, by decide, rfl, rfl, rfl, by decide, rfl, by decide, by decide, by decide⟩

/-- R103: the three clamps are marked; a grid change of a RUNNING channel becomes an entry (R104). -/
theorem test_setChannel : replied (after .setChannel (atHead live 0x30 channelPayload)) =
      [0x01, 0, 0, 75, 0x03, 0xD0, 0x90, 50] ∧
    ((after .setChannel (atHead runA 0x30 channelPayload)).chan 15).running = true ∧
    (after .setChannel (atHead (withChan .tick) 0x30 channelPayload)).queue.map (·.due) = [.beat 11] ∧
    replied (after .setChannel (atHead live 0x30 (channelPayload.set 4 97))) = [0x12] := by decide +kernel

/-- A CHANNEL entry of channel 15 due at beat 10, which makes 2 ticks to the beat. -/
def channelEntry : Entry := ⟨4, .host, .a, .beat 10, .channel 15 { cfgOf .tick with n := 2 }⟩

theorem witness_ChannelEntryAppliesAtItsCrossing : ({ withChan .tick with queue := [channelEntry] } : State).mode = .running ∧
    ({ withChan .tick with queue := [channelEntry] } : State).crossingDue 15 = some channelEntry ∧
    ((withChan .tick).chan 15).cfg.lane = channelEntry.timing ∧ (cfgOf .tick).function = ((withChan .tick).chan 15).cfg.function := by
  decide +kernel

/-- Channel 15, disabled or enabled, with a CHANNEL entry that enables it, or changes its lead to 1,000 µs. -/
def entryChanges (enabled : Bool) (lead : Nat) : State :=
  { withChan .tick fun c => { c with cfg := { c.cfg with enabled := enabled }, running := enabled } with
    queue := [⟨4, .host, .a, .beat 10, .channel 15 { cfgOf .tick with lead := lead }⟩] }

theorem witness_ChannelEntry_enables : ((entryChanges false 0).chan 15).cfg.enabled = false ∧ (cfgOf .tick).enabled = true ∧
    ((entryChanges false 0).crossingDue 15).map (·.id) = some 4 ∧
    ((entryChanges false 0).lane (cfgOf .tick).lane).transport = .running ∧
    ((entryChanges true 1000).crossingDue 15).map (·.id) = some 4 ∧ ((entryChanges true 1000).chan 15).cfg.lead ≠ 1000 := by
  decide +kernel

/-- R105, R108, R127: an entry that enables the channel starts it with the due beat for its origin; one that changes the lead
keeps that of part 1 until the evaluation is complete. -/
theorem test_entry_changes :
    ((after (.channelEntryCrossing 15) (entryChanges false 0)).chan 15).running = true ∧
    ((after (.channelEntryCrossing 15) (entryChanges false 0)).chan 15).origin = ⟨10, 0⟩ ∧
    ((after (.channelEntryCrossing 15) (entryChanges false 0)).chan 15).emitted = 0 ∧
    ((after (.channelEntryCrossing 15) (entryChanges true 1000)).chan 15).evalLead = some 0 ∧
    ((after (.channelEntryCrossing 15) (entryChanges true 1000)).chan 15).cfg.lead = 1000 ∧
    ((after (.pulseBegin 15) (after (.channelEntryCrossing 15) (entryChanges true 1000))).chan 15).evalLead = none := by
  decide +kernel

/-- Channel 15 with lead `old`, RUNNING or IDLE, and two entries of lane A, at beat 10 + 0: the first, due at beat 10, gives
it lead `new`, and the second, due at beat `y`, swing 60. -/
def leadChanges (running : Bool) (old new : Nat) (y : U32) : State :=
  { withChan .tick fun c => { c with cfg := { c.cfg with lead := old }, running := running } with
    queue := [⟨4, .host, .a, .beat 10, .channel 15 { cfgOf .tick with lead := new }⟩,
      ⟨5, .host, .a, .beat y, .channel 15 { cfgOf .tick with lead := new, swing := 60 }⟩] }

/-- R76: a lead made longer moves the projection of a further entry from the same step, and one made shorter leaves an entry
due at the same beat, or reached already, due at the same step; R105, R108: a RUNNING channel keeps the lead of part 1 for its
evaluation, and an IDLE channel keeps none. -/
theorem test_lead_changes :
    let t (running : Bool) (old new : Nat) (y : U32) : State := after (.channelEntryCrossing 15) (leadChanges running old new y)
    ((t true 0 600000 11).crossingDue 15).map (·.id) = some 5 ∧
    ((t true 0 400000 11).crossingDue 15).map (·.id) = none ∧
    ((t true 600000 0 10).crossingDue 15).map (·.id) = some 5 ∧
    ((t true 600000 0 11).crossingDue 15).map (·.id) = some 5 ∧
    ((t false 0 600000 11).crossingDue 15).map (·.id) = some 5 ∧
    ((t true 0 600000 11).chan 15).evalLead = some 0 ∧ ((t false 0 600000 11).chan 15).evalLead = none := by decide +kernel

/-- Channel 15, RUNNING or IDLE, at beat 10 + 0 with lead 600,000 µs; an entry due at beat 10 gives it lead `new`, and another
waits for an edge on cue line 1, which makes it due at beat 11. -/
def cuedBehindLead (running : Bool) (new : Nat) : State :=
  { leadChanges running 600000 new 10 with
    queue := [⟨4, .host, .a, .beat 10, .channel 15 { cfgOf .tick with lead := new }⟩,
      ⟨6, .host, .a, .cue 0, .channel 15 { cfgOf .tick with lead := new, swing := 60 }⟩] }

/-- R76, R81: an entry given its due beat after an entry has made the lead shorter is judged by the new lead from that step, of
a RUNNING and of an IDLE channel alike; with the lead unchanged it is applied at once. -/
theorem test_cue_after_shorter_lead :
    let t (running : Bool) (new : Nat) : State :=
      after (.cueEdge 0) (after (.channelEntryCrossing 15) (cuedBehindLead running new))
    ((t true 0).queue.map (·.due) = [.beat 11] ∧ (t true 0).crossingDue 15 = none) ∧
    ((t false 0).queue.map (·.due) = [.beat 11] ∧ (t false 0).crossingDue 15 = none) ∧
    ((t true 600000).crossingDue 15).map (·.id) = some 6 := by decide +kernel

/-- The further entries of `ChannelEntryAppliesAtItsCrossing`: one whose crossing is due beside the first, and one that is
not. -/
theorem witness_ChannelEntry_beside : (leadChanges true 600000 0 11).reachedBeside 15
      ⟨4, .host, .a, .beat 10, .channel 15 { cfgOf .tick with lead := 0 }⟩ = [5] ∧
    (leadChanges true 0 600000 11).reachedBeside 15
      ⟨4, .host, .a, .beat 10, .channel 15 { cfgOf .tick with lead := 600000 }⟩ = [] := by decide +kernel

/-- Channel 15 on lane A, which waits for beat 10 of a break timed by lane B, or for an entry timed by lane `x` that moves it
to lane B; lane B has still its work of the step to do. -/
def laneBWorks (brk : Option BreakMembership) (entries : List Entry) : State :=
  { ((withChan .tick fun c => { c with brk := brk }).setLane .b { runningLane with crossing := true }).setBrk 3
      (some ⟨false, 0x8000, .halt, 2, .b, .beat 11, false, 0, false, false⟩) with queue := entries }

/-- An entry that moves channel 15 to lane B at beat 10 of lane `x`. -/
def moveEntry (x : LaneId) : Entry := ⟨4, .host, x, .beat 10, .channel 15 { cfgOf .tick with lane := .b }⟩

/-- R20, R76, R108, R132: an entry waits for the advances of the lanes it reads, and a pulse for those by which an entry of
the queue or of a break may fall due at the step. -/
theorem test_part_two_waits : (laneBWorks none [moveEntry .a]).crossingDue 15 = none ∧
    (laneBWorks none [moveEntry .b]).crossingDue 15 = none ∧
    ((after (.pulseBegin 15) (laneBWorks none [moveEntry .b])).chan 15).level = false ∧
    ((after (.pulseBegin 15) (laneBWorks (some ⟨3, .waiting false⟩) [])).chan 15).level = false ∧
    ((after (.pulseBegin 15) (laneBWorks none [])).chan 15).level = true := by decide +kernel

/-- Channel 15 in a MUTE break with two beats left, an entry waiting that moves it to lane B. -/
def movesInBreak : State := { (withChan .tick fun c => { c with brk := some ⟨3, .inBreak 2 9⟩ }).setBrk 3
    (some ⟨true, 0x8000, .mute, 2, .a, .beat 9, false, 0, false, false⟩) with
  laneB := runningLane
  queue := [moveEntry .a] }

theorem witness_ChannelEntry_moves : movesInBreak.crossingDue 15 = some (moveEntry .a) ∧
    movesInBreak.movesLane 15 { cfgOf .tick with lane := .b } = true ∧ movesInBreak.breakEndAt 15 = none := by decide +kernel

/-- R134: the beat of the old lane at whose crossing the entry falls is counted before the move, and the mark stands at the
new origin, beat 10 of lane B. -/
theorem test_move_in_break :
    ((after (.channelEntryCrossing 15) movesInBreak).chan 15).brk = some ⟨3, .inBreak 1 10⟩ := by decide +kernel

/-- R76, R110: at the crossing of beat 10 the channel is re-origined there with its count kept. -/
theorem test_channelEntry :
    ((after (.channelEntryCrossing 15) { withChan .tick with queue := [channelEntry] }).chan 15).origin = ⟨10, 0⟩ ∧
    ((after (.channelEntryCrossing 15) { withChan .tick with queue := [channelEntry] }).chan 15).delta = 1 ∧
    posted (after (.channelEntryCrossing 15) { withChan .tick with queue := [channelEntry] }) =
      [.changeApplied (.channel 15) 4 .channel .host true] := by decide +kernel

/-- A BAR channel of lane A, whose bar start at beat 8 its projection has crossed. -/
def barChan : State := withChan .bar fun c => { c with mark := 7 }

/-- A channel whose last pulse ended at step `e`, begun since its start where `since` says so. -/
def pulseEnded (f : ChannelFunction) (e : Nat) (p : Bool) : State :=
  withChan f fun c => { c with mark := 7, lastPulse := some (e - 96, e), pulsed := p }

/-- R18, R115, R120: the gap lasts 48 steps, for a BAR channel after any pulse, and for a TICK channel after one since its
last start; a pulse in flight across a start is one since the start. -/
theorem test_gap : ((after (.pulseBegin 15) (pulseEnded .tick 399952 true)).chan 15).level = true ∧
    ((after (.pulseBegin 15) (pulseEnded .tick 399953 true)).chan 15).level = false ∧
    ((after (.pulseBegin 15) (pulseEnded .tick 399953 false)).chan 15).level = true ∧
    ((after (.barPulseBegin 15) (pulseEnded .bar 399953 false)).chan 15).level = false ∧
    ((after (.barPulseBegin 15) (pulseEnded .bar 399952 false)).chan 15).level = true ∧
    ((chanOf .bar).startAt ⟨0, 0⟩).pulsed = false ∧
    ({ chanOf .bar with level := true }.startAt ⟨0, 0⟩).pulsed = true := by decide +kernel

theorem witness_PulsesBeginAndEnd : (withChan .tick).mode = .running ∧ (withChan .tick).atPartFive 15 = true ∧
    (withChan .tick).muted 15 = false ∧ 0 < ahead ((withChan .tick).targetCount 15) ((withChan .tick).chan 15).emitted ∧
    ((withChan .tick).chan 15).level = false ∧ ((withChan .tick).chan 15).pulsed = false ∧
    barChan.atPartFive 15 = true ∧ 0 < ahead (barChan.projection 15).beat (barChan.chan 15).mark ∧
    startCrossed .bar (barChan.laneOf 15) (barChan.chan 15).mark (barChan.projection 15).beat = true ∧
    barChan.halted 15 = false ∧ barChan.held 15 = false ∧
    ((withChan .tick fun c => { c with level := true, lastPulse := some (399000, 400000) }).chan 15).lastPulse =
      some (399000, 400000) := by decide +kernel

/-- R115, R116, R120: a tick on time lasts half a beat less than the clip; an owing channel catches up in 48 steps; a
pulse ends at its end step and no earlier. -/
theorem test_pulses : ((after (.pulseBegin 15) (withChan .tick)).chan 15).emitted = 2 ∧
    ((after (.pulseBegin 15) (withChan .tick)).chan 15).lastPulse = some (400000, 423999) ∧
    ((after (.pulseBegin 15) (withChan .tick fun c => { c with owing := true })).chan 15).lastPulse =
      some (400000, 400048) ∧
    ((after (.barPulseBegin 15) barChan).chan 15).level = true ∧
    ((after (.pulseEnd 15) (withChan .tick fun c => { c with level := true, lastPulse := some (0, 400000) })).chan 15).level = false ∧
    ((after (.pulseEnd 15) (withChan .tick fun c => { c with level := true, lastPulse := some (0, 400001) })).chan 15).level = true := by
  decide +kernel

/-- A GATE channel whose line is inactive since `d` steps. -/
def gateChan (d : Nat) : State := withChan .gate fun c => { c with lastChange := some (400000 - d) }

/-- A CODE channel with `k` characters waiting. -/
def codeChan (k : Nat) (g : Channel → Channel := id) : State :=
  withChan .code fun c => g { c with fifo := List.replicate k 0xD1 }

/-- Channel 15, a CODE channel whose transmitter sends H'D2 and has sent `age` thirds of a step of it. -/
def sendsD2 (age : Nat) : State := withChan .code fun c => { c with tx := .sending 0xD2 age 75 }

/-- Channel 15, a TICK channel of polarity INVERTED with its line active. -/
def invertedActive : State := withChan .tick fun c => { c with level := true, cfg := { c.cfg with polarity := .inverted } }

theorem witness_GatesAndCodeLines_pin : (sendsD2 38).mode = .running ∧ ((sendsD2 38).chan 15).tx = .sending 0xD2 38 75 ∧
    5 * 75 ≤ 10 * 38 ∧ 10 * 38 < 6 * 75 ∧ ((withChan .code).chan 15).tx = .idle ∧
    (invertedActive.chan 15).cfg.enabled = true ∧ (invertedActive.chan 15).cfg.polarity = .inverted := by decide +kernel

/-- R101, R122: the polarity inverts the pin and a disabling leaves it inactive; H'D2 is sent as a low start bit and the bits
0, 1, 0, 0, 1 and so on, a phase step falling in the bit of its instant; an idle CODE line is high. -/
theorem test_pins : invertedActive.pin 15 = false ∧
    (invertedActive.applyConfig 15 (cfgOf .tick) .acceptance).pin 15 = true ∧
    (invertedActive.applyConfig 15 { cfgOf .tick with enabled := false, polarity := .inverted } .acceptance).pin 15 = true ∧
    (sendsD2 7).pin 15 = false ∧ (sendsD2 8).pin 15 = false ∧ (sendsD2 15).pin 15 = true ∧ (sendsD2 38).pin 15 = true ∧
    (sendsD2 74).pin 15 = true ∧ (withChan .code).pin 15 = true := by decide +kernel

theorem witness_GatesAndCodeLines : (gateChan 960).mode = .running ∧ (gateChan 960).partTwoDone 15 = true ∧ ((gateChan 960).chan 15).cfg.function = .gate ∧
    ((gateChan 960).chan 15).level = false ∧ ((gateChan 960).chan 15).running = true ∧
    ((gateChan 960).chan 15).lastChange = some 399040 ∧ 960 ≤ since (gateChan 960).clock 399040 ∧
    (codeChan 7).atPartFive 15 = true ∧ (codeChan 7).muted 15 = false ∧ ((codeChan 7).chan 15).slot = none ∧
    0 < ahead ((codeChan 7).targetCount 15) ((codeChan 7).chan 15).emitted ∧ ((codeChan 7).chan 15).fifo.length = 7 ∧
    ((codeChan 4 fun c => { c with slot := some (.resume 3) }).chan 15).slot = some (.resume 3) ∧
    ((codeChan 1 fun c => { c with tx := .sending 0xD2 75 75 }).chan 15).tx = .sending 0xD2 75 75 ∧
    ((codeChan 1).chan 15).tx = .idle := by decide +kernel

/-- R118: the minimum time of a level is 960 steps. R108, R136: a gate does not rise before a HALT that falls due at the
same step. -/
theorem test_gate : ((after (.gateLevelChange 15) (gateChan 960)).chan 15).level = true ∧
    ((after (.gateLevelChange 15) (((gateChan 960).modChan 15 fun c => { c with brk := some ⟨3, .waiting true⟩ }).setBrk 3
      (some ⟨false, 0x8000, .halt, 2, .b, .absent, false, 0, false, false⟩))).chan 15).level = false ∧
    ((after (.gateLevelChange 15) (gateChan 959)).chan 15).level = false := by decide +kernel

/-- R122 to R125: a tick finds the last of 8 places and is kept back from a full FIFO; a RESUME goes out as POSITION,
two data bytes and RESUME, as a whole. -/
theorem test_codes : ((after (.tickCodeQueued 15) (codeChan 7)).chan 15).fifo.length = 8 ∧
    ((after (.tickCodeQueued 15) (codeChan 8)).chan 15).emitted = 1 ∧
    ((after (.slotMove 15) (codeChan 0 fun c => { c with slot := some (.resume 130) })).chan 15).fifo = [0xD8, 2, 1, 0xD4] ∧
    ((after (.slotMove 15) (codeChan 5 fun c => { c with slot := some (.resume 130) })).chan 15).fifo.length = 5 ∧
    ((after (.characterBegin 15) (codeChan 1)).chan 15).tx = .sending 0xD1 0 75 ∧
    ((after (.characterEnd 15) (codeChan 0 fun c => { c with tx := .sending 0xD2 75 75 })).chan 15).tx = .idle := by
  decide +kernel

/-! ## Breaks and handovers -/

/-- START_BREAK of channel 15: HALT for 256 beats at the next bar of lane A. -/
def breakPayload : List Byte := [0x80, 0, 1, 1, 0, 2, 0, 0]

/-- Channel 15 a waiting member of a break in record 3 with due beat 10. -/
def waitingBreak (mode : BreakMode) : State :=
  (withChan .bar fun c => { c with brk := some ⟨3, .waiting false⟩ }).setBrk 3
    (some ⟨false, 0x8000, mode, 2, .a, .beat 10, false, 0, false, false⟩)

/-- Channel 15 in that break since its mark `m`, with `k` beats remaining. -/
def inBreak (mode : BreakMode) (k : Nat) (m : U32) (pending : Bool) : State :=
  (withChan .bar fun c => { c with brk := some ⟨3, .inBreak k m⟩ }).setBrk 3
    (some ⟨true, 0x8000, mode, 2, .a, .beat m, pending, 0, false, pending⟩)

theorem witness_StartBreakRequest : RequestAtHead (atHead (withChan .tick) 0x38 breakPayload) 0x38 7 breakPayload ∧
    breakPayload.length = 8 ∧ ∀ n, ((withChan .tick).chan n).brk = none :=
  ⟨head_atHead rfl rfl rfl rfl, rfl, by decide +kernel⟩

/-- R131, R132: record 0 takes the break, due at beat 12; a disabled channel and a length of 257 are refused. -/
theorem test_startBreak : ((after .startBreak (atHead (withChan .tick) 0x38 breakPayload)).brk 0).map (·.due) = some (.beat 12) ∧
    replied (after .startBreak (atHead (withChan .tick) 0x38 breakPayload)) = [0, 0] ∧
    replied (after .startBreak (atHead runA 0x38 breakPayload)) = [0x12] ∧
    replied (after .startBreak (atHead (withChan .tick) 0x38 [0x80, 0, 1, 1, 1, 2, 0, 0])) = [0x12] ∧
    replied (after .startBreak (atHead (waitingBreak .mute) 0x38 breakPayload)) = [0x21] := by decide +kernel

theorem witness_CancelBreakRequest : RequestAtHead (atHead (waitingBreak .halt) 0x39 [3]) 0x39 7 [3] ∧
    RequestAtHead (atHead (inBreak .halt 2 9 true) 0x39 [3]) 0x39 7 [3] ∧ 4 ≤ byteAt [4] 0 ∧ byteAt [3] 0 = 3 ∧
    (waitingBreak .halt).brk 0 = none ∧ ((waitingBreak .halt).brk 3).isSome = true ∧
    ((inBreak .halt 2 9 false).chan 15).brk = some ⟨3, .inBreak 2 9⟩ :=
  ⟨head_atHead rfl rfl rfl rfl, head_atHead rfl rfl rfl rfl, by decide, by decide, by decide +kernel, by decide +kernel,
    by decide +kernel⟩

/-- R138, R140: a HALT with a member in the break waits for its next boundary; one without ends at once. -/
theorem test_cancelBreak : ((after .cancelBreak (atHead (inBreak .halt 2 9 false) 0x39 [3])).brk 3).map (·.cancelPending) = some true ∧
    posted (after .cancelBreak (atHead (waitingBreak .halt) 0x39 [3])) = [.breakDone 3 .cancelled .halt 0x8000 0] ∧
    replied (after .cancelBreak (atHead live 0x39 [3])) = [0x20] ∧
    replied (after .cancelBreak (atHead live 0x39 [4])) = [0x12] := by decide +kernel

theorem witness_BreakEntryOfAMember : (waitingBreak .halt).mode = .running ∧ (waitingBreak .halt).laneA.crossing = false ∧
    (waitingBreak .halt).laneB.crossing = false ∧ (waitingBreak .halt).switchDue 15 = false ∧ ((waitingBreak .halt).chan 15).brk = some ⟨3, .waiting false⟩ ∧
    (((waitingBreak .halt).chan 15).projectedOn ((waitingBreak .halt).lane .a)).reached 10 = true := by decide +kernel

theorem test_breakEntry : ((after (.breakEntry 15) (waitingBreak .halt)).chan 15).brk = some ⟨3, .inBreak 2 10⟩ ∧
    ((after (.breakEntry 15) (waitingBreak .halt)).brk 3).map (·.active) = some true := by decide +kernel

/-- R136: a HALT clears the bar code marks of a CODE member and leaves those of a BAR member. -/
theorem test_breakEntry_marks :
    ((after (.breakEntry 15) ((waitingBreak .halt).modChan 15 fun c => { c with barDue := true })).chan 15).barDue = true ∧
    ((after (.breakEntry 15) ((waitingBreak .halt).modChan 15 fun c =>
      { c with cfg := { c.cfg with function := .code }, barDue := true })).chan 15).barDue = false := by decide +kernel

theorem witness_BreakEndOfAMember : (inBreak .mute 1 9 false).mode = .running ∧ ((inBreak .mute 1 9 false).chan 15).running = true ∧
    ((inBreak .mute 1 9 false).chan 15).evaluated = false ∧ ((waitingBreak .halt).chan 15).evaluated = false ∧
    ((inBreak .mute 1 9 false).laneOf 15).crossing = false ∧
    (inBreak .mute 1 9 false).switchSettled 15 = true ∧ (inBreak .mute 1 9 false).switchDue 15 = false ∧
    ((inBreak .mute 1 9 false).chan 15).brk = some ⟨3, .inBreak 1 9⟩ ∧
    0 < ahead ((inBreak .mute 1 9 false).projection 15).beat 9 ∧ (1 : Int) ≤ ahead ((inBreak .mute 1 9 false).projection 15).beat 9 ∧
    ((inBreak .halt 2 9 true).brk 3).map (·.cancelPending) = some true := by decide +kernel

/-- R134, R135, R138, R140: the last beat crossed ends the break COMPLETE; a cancelled HALT ends at its next boundary. -/
theorem test_breakEnd : posted (after (.breakEnd 15) (inBreak .mute 1 9 false)) =
      [.breakDone 3 .complete .mute 0x8000 0x8000] ∧
    posted (after (.breakEnd 15) (inBreak .mute 2 9 false)) = [] ∧
    posted (after (.breakEnd 15) (inBreak .halt 2 9 true)) = [.breakDone 3 .cancelled .halt 0x8000 0] ∧
    ((after (.breakEnd 15) (inBreak .halt 2 9 true)).chan 15).origin = ⟨10, 0⟩ := by decide +kernel

/-- START_HANDOVER of channel 15 to lane B: CUT at the next bar, deadline 64. -/
def handoverPayload : List Byte := [0x80, 0, 1, 1, 1, 3, 64]

/-- Both lanes RUNNING, channel 15 on lane A a member of record 3, which switches at beat `y`. -/
def switching (y : U32) (f : Option U32) : State :=
  ((withChan .tick fun c => { c with ho := some ⟨3, false⟩ }).setLane .b runningLane).setHo 3
    (some ⟨.switchDue .aligned y f, 0x8000, 0, .b, .aligned, .beat, .w64, 4, none⟩)

theorem witness_HandoverRequests :
    RequestAtHead (atHead ((withChan .tick).setLane .b runningLane) 0x48 handoverPayload) 0x48 7 handoverPayload ∧
    handoverPayload.length = 7 ∧ RequestAtHead (atHead (switching 11 none) 0x49 [3]) 0x49 7 [3] ∧
    ((switching 11 none).ho 3).isSome = true ∧ (switching 11 none).ho 0 = none :=
  ⟨head_atHead rfl rfl rfl rfl, rfl, head_atHead rfl rfl rfl rfl, by decide +kernel, by decide +kernel⟩

/-- R143 to R145, R156: CUT is SWITCH_DUE at beat 12; a channel already on lane B, a STOPPED lane, and deadline 65 are
refused; a cancel posts HANDOVER_DONE. -/
theorem test_handovers :
    ((after .startHandover (atHead ((withChan .tick).setLane .b runningLane) 0x48 handoverPayload)).ho 0).map (·.stage) =
      some (.switchDue .cut 12 none) ∧
    replied (after .startHandover (atHead ((withChan .tick).setLane .b runningLane) 0x48 [0x80, 0, 0, 1, 1, 3, 64])) = [0x12] ∧
    replied (after .startHandover (atHead (withChan .tick) 0x48 handoverPayload)) = [0x20] ∧
    replied (after .startHandover (atHead ((withChan .tick).setLane .b runningLane) 0x48 [0x80, 0, 1, 1, 1, 3, 65])) = [0x12] ∧
    posted (after .cancelHandover (atHead (switching 11 none) 0x49 [3])) =
      [.handoverDone 3 .cancelled .a .b 0x8000 0 (some 11)] := by decide +kernel

theorem witness_MembersHoldAndSwitch : (switching 11 (some 10)).mode = .running ∧
    ((switching 11 (some 10)).chan 15).running = true ∧ ((switching 11 (some 10)).chan 15).evaluated = false ∧ ((switching 11 (some 10)).laneOf 15).crossing = false ∧
    ((switching 11 (some 10)).projection 15).reached 10 = true ∧ ((switching 11 (some 10)).lane .b).crossing = false ∧ (switching 11 (some 10)).switchDue 15 = false ∧
    ((switching 10 none).lane .b).transport = .running ∧ ((switching 10 none).lane .b).crossing = false ∧
    (((switching 10 none).chan 15).projectedOn ((switching 10 none).lane .b)).reached 10 = true ∧
    (switching 10 none).channelEntries 15 = [] ∧ ((switching 10 none).chan 15).brk = none := by decide +kernel

/-- R150 to R153: the member is held at the from-lane beat, and switches at the switch beat. -/
theorem test_hold_and_switch : ((after (.memberHold 15) (switching 11 (some 10))).chan 15).ho = some ⟨3, true⟩ ∧
    ((after (.memberHold 15) (switching 11 (some 11))).chan 15).ho = some ⟨3, false⟩ ∧
    ((after (.memberSwitch 15) (switching 10 none)).chan 15).cfg.lane = .b ∧
    posted (after (.memberSwitch 15) (switching 10 none)) = [.handoverDone 3 .aligned .a .b 0x8000 0x8000 (some 10)] := by
  decide +kernel

/-- R108, R151: the switch and the hold belong to the evaluation of the step, and wait for the next one once it is made. -/
theorem test_switch_waits : ((after (.memberSwitch 15) ((switching 10 none).modChan 15 fun c => { c with evaluated := true })).chan 15).cfg.lane = .a ∧
    ((after (.memberHold 15) ((switching 11 (some 10)).modChan 15 fun c => { c with evaluated := true })).chan 15).ho =
      some ⟨3, false⟩ := by decide +kernel

/-- That member in a MUTE break with two beats left since beat 9, an entry of the channel waiting for beat 11. -/
def switchingInBreak (enabled : Bool) : State :=
  { ((switching 10 none).modChan 15 fun c => { c with brk := some ⟨2, .inBreak 2 9⟩ }).setBrk 2
      (some ⟨true, 0x8000, .mute, 2, .a, .beat 9, false, 0, false, false⟩) with
    queue := [⟨6, .host, .a, .beat 11, .channel 15 { cfgOf .tick with enabled := enabled, n := 3 }⟩] }

theorem witness_MembersHoldAndSwitch_break : (switchingInBreak true).channelEntries 15 = (switchingInBreak true).queue ∧
    (switchingInBreak true).switchDue 15 = true ∧ ((switchingInBreak true).chan 15).cfg.enabled = true ∧
    (waitingBreak .halt).entryOfBreakDue 15 = true ∧ (inBreak .mute 1 9 false).judged 15 = true ∧
    (inBreak .mute 1 9 false).breakEndAt 15 ≠ none ∧ (inBreak .mute 2 9 false).judged 15 = true ∧
    (inBreak .mute 2 9 false).breakEndAt 15 = none := by decide +kernel

theorem witness_MembersHoldAndSwitch_ids : (switchingInBreak true).idsDistinct := by unfold State.idsDistinct; decide

/-- R77, R129, R134, R151: the waiting entry is applied at the switch, beat 10 of the old lane is counted, the mark stands at
the switch beat, and no beat of the break is counted twice or lost; an entry that disables the member does so on lane B after the switch, and ends its break. -/
theorem test_switch_in_break :
    ((after (.memberSwitch 15) (switchingInBreak true)).chan 15).brk = some ⟨2, .inBreak 1 10⟩ ∧
    ((after (.memberSwitch 15) (switchingInBreak true)).chan 15).cfg.n = 3 ∧
    posted (after (.memberSwitch 15) (switchingInBreak true)) = [.changeApplied (.channel 15) 6 .channel .host true,
      .handoverDone 3 .aligned .a .b 0x8000 0x8000 (some 10)] ∧
    ((after (.memberSwitch 15) (switchingInBreak false)).chan 15).cfg.lane = .b ∧
    posted (after (.memberSwitch 15) (switchingInBreak false)) = [.breakDone 2 .cancelled .mute 0x8000 0,
      .changeApplied (.channel 15) 6 .channel .host true,
      .handoverDone 3 .aligned .a .b 0x8000 0x8000 (some 10)] := by decide +kernel

/-! ## The beat bus -/

theorem witness_SetBusRequest : RequestAtHead (atHead live 0x50 [2, 2, 2, 0x03, 0xFF]) 0x50 7 [2, 2, 2, 0x03, 0xFF] :=
  head_atHead rfl rfl rfl rfl

/-- R179: station id 1,023 is the last; 1,024 and bit rate 3 are refused. -/
theorem test_setBus : (after .setBus (atHead live 0x50 [2, 2, 2, 0x03, 0xFF])).bus.settings = ⟨.k1000, .auto, some .b, 1023⟩ ∧
    replied (after .setBus (atHead live 0x50 [2, 2, 2, 0x04, 0x00])) = [0x12] ∧
    replied (after .setBus (atHead live 0x50 [3, 2, 2, 0, 0])) = [0x12] := by decide +kernel

theorem witness_WriteFilterRequest :
    RequestAtHead (atHead (busLocked 5) 0x51 [7, 1, 3, 0xFF, 0, 1]) 0x51 7 [7, 1, 3, 0xFF, 0, 1] ∧
    (byteAt [7, 1, 3, 0xFF, 0, 1] 0 < 8 ∧ byteAt [7, 1, 3, 0xFF, 0, 1] 1 ≤ 1 ∧ fieldAt [7, 1, 3, 0xFF, 0, 1] 2 2 < 1024 ∧
      fieldAt [7, 1, 3, 0xFF, 0, 1] 4 2 < 1024) ∧
    ¬ (byteAt [8, 1, 3, 0xFF, 0, 1] 0 < 8) := ⟨head_atHead rfl rfl rfl rfl, by decide, by decide⟩

/-- R56, R170: a write to the entry of a LOCKED tracker unlocks it. -/
theorem test_writeFilter : posted (after .writeFilter (atHead (busLocked 5) 0x51 [7, 1, 3, 0xFF, 0, 1])) =
      [.sourceSearching (.bus 7) 0 (some 3)] ∧
    ((after .writeFilter (atHead (busLocked 5) 0x51 [7, 1, 3, 0xFF, 0, 1])).bus.accept[7]) = ⟨true, 1023, 1⟩ ∧
    replied (after .writeFilter (atHead live 0x51 [8, 1, 3, 0xFF, 0, 1])) = [0x12] := by decide +kernel

/-- The receiver of line 2 in a state, in line mode AUTO. -/
def rxState (rx : BusRx) : State := { live with bus := { live.bus with line2 := { live.bus.line2 with rx := rx } } }

theorem witness_ReceiversOfALine : (rxState .idle).mode = .running ∧ (rxState .idle).bus.uses .two = true ∧
    (rxState .idle).bus.drives .two = false ∧ ((rxState .inBreak).bus.lineOf .two).rx = .inBreak ∧
    ((rxState (.characters 5)).bus.lineOf .two).rx = .characters 5 ∧ (rxState .idle).bus.mode = .auto ∧
    (rxState .idle).pairingFor .two = none ∧
    ({ live with bus := { live.bus with mode := .forced2 } } : State).bus.uses .one = false := by decide

/-- R163, R164: 11 to 14 dominant bit times are a break, fewer are noise; errors are counted for the line. -/
theorem test_receivers : (after (.busLineIdle .two) (rxState .waitingIdle)).bus.line2.rx = .idle ∧
    (after (.busDominantEdge .two) (rxState .idle)).bus.line2.rx = .inBreak ∧
    (after (.busDominantRunEnd .two 10) (rxState .inBreak)).bus.line2.rx = .idle ∧
    (after (.busDominantRunEnd .two 11) (rxState .inBreak)).bus.line2.rx = .afterBreak ∧
    (after (.busFirstStartBit .two) (rxState .afterBreak)).bus.line2.rx = .characters 400000 ∧
    (after (.receiveError .two .crc) (rxState (.characters 5))).bus.line2.crc = 1 ∧
    (after (.receiveError .two .crc) (rxState .idle)).bus.line2.crc = 0 ∧
    (after (.busLineIdle .one) { live with bus := { live.bus with mode := .forced2 } }).bus.line1.lineIdle = true := by
  decide +kernel

/-- The 23 characters of the frame of station 3. -/
def copyChars : List Byte := frame.chars ++ crcBytes frame.chars

/-- A first copy of it stands open on line 1, completed `d` steps ago. -/
def openCopy (d : Nat) : State := { rxState (.characters 399000) with
  bus := { (rxState (.characters 399000)).bus with pairings := [⟨frame.chars, .one, 400000 - d⟩] } }

theorem witness_CopiesArePairedAndJudged : copyChars.length = 23 ∧
    crcBytes (copyChars.take 21) = copyChars.drop 21 ∧ (openCopy 47).bus.uses .two = true ∧ (openCopy 47).bus.drives .two = false ∧
    ((openCopy 47).bus.lineOf .two).rx = .characters 399000 ∧
    (openCopy 47).duplicateOf .two (copyChars.take 21) = some ⟨frame.chars, .one, 399953⟩ ∧
    (openCopy 48).duplicateOf .two (copyChars.take 21) = none ∧
    (openCopy 48).overduePairing = some ⟨frame.chars, .one, 399952⟩ := by decide +kernel

/-- The frame's content is read back from its characters (R161), and is 21 characters long (R160). -/
theorem test_frame_content : frameOf frame.chars = frame ∧ frame.chars.length = 21 := by decide +kernel

/-- R167: the second copy within W = 47 steps at 500 kbit/s is a duplicate; after that the pairing times out and line 2
is judged bad. -/
theorem test_pairing : (after (.validCopy .two copyChars) (openCopy 47)).bus.duplicates = 1 ∧
    (after (.validCopy .two copyChars) (openCopy 48)).bus.duplicates = 0 ∧
    (after .pairingTimeout (openCopy 47)).bus.line2.errors = 0 ∧
    (after .pairingTimeout (openCopy 48)).bus.line2.errors = 1 := by decide +kernel

/-- R168, R169: the eighth error makes the line FAULTY, the sixteenth good outcome restores it. -/
theorem test_judging : posted (({ live with bus := { live.bus with line2 := { live.bus.line2 with errors := 7 } } } : State).judgeBad
      .two .missing) = [.lineFault .two .missing] ∧
    posted (({ live with bus := { live.bus with line2 := { live.bus.line2 with faulty := true, good := 15 } } } : State).judgeGood
      .two) = [.lineRestored .two] := by decide +kernel

/-- Line 1's last receive error stands `d` steps back, with no pairing open, or the mode is the one given. -/
def erred (d : Nat) (m : LineMode) : State := { rxState (.characters 399000) with
  bus := { (rxState (.characters 399000)).bus with
    mode := m
    line1 := { live.bus.line1 with lastError := some (400000 - d, .crc) } } }

theorem witness_CopiesArePaired_errors : (erred 47 .auto).duplicateOf .two (copyChars.take 21) = none ∧
    (((erred 47 .auto).filterFrame .two frame 399000).bus.lineOf .one).lastError = some (399953, .crc) ∧
    since ((erred 47 .auto).filterFrame .two frame 399000).clock 399953 ≤
      ((erred 47 .auto).filterFrame .two frame 399000).bus.rate.pairingTime ∧
    ((erred 48 .auto).filterFrame .two frame 399000).bus.rate.pairingTime < since (erred 48 .auto).clock 399952 ∧
    (erred 48 .forced2).bus.uses .two = true ∧ (erred 48 .forced2).bus.mode ≠ .auto ∧
    (openCopy 46).pairingFor .two = some ⟨frame.chars, .one, 399954⟩ := by decide +kernel

/-- R167: an error of the other line within W steps of the first copy is that line's bad outcome. -/
theorem test_error_pairing : (after (.validCopy .two copyChars) (erred 47 .auto)).bus.line1.errors = 1 ∧
    (after (.validCopy .two copyChars) (erred 48 .auto)).bus.line1.errors = 0 ∧
    (after (.validCopy .two copyChars) (erred 48 .auto)).bus.pairings.length = 1 ∧
    (after (.receiveError .two .crc) (openCopy 46)).bus.line2.errors = 1 := by decide +kernel

/-- A state whose entry 7 accepts stations 2 and 3. -/
def filtering : State := { live with bus := { live.bus with accept := live.bus.accept.set 7 ⟨true, 2, 1⟩ } }

/-- A state that leads with station id 3. -/
def leading : State := { runA with bus := { runA.bus with settings := ⟨.k500, .auto, some .a, 3⟩ } }

theorem witness_FramesAreFilteredAndTracked : leading.bus.settings.lead ≠ none ∧ frame.station = leading.bus.settings.station ∧
    filtering.bus.settings.lead = none ∧ (filtering.bus.accept[7]).enabled = true ∧
    (∀ i < 10, (filtering.bus.accept[7]).mask.getLsbD i = false →
      frame.station.getLsbD i = (filtering.bus.accept[7]).code.getLsbD i) ∧
    (∀ m : Fin 8, m < 7 → (filtering.bus.accept[m]).enabled = false) ∧ BusTracker.reset.lock = .searching ∧
    frame.run = true ∧ (busLocked 0).busTracker 7 = ⟨.locked, some 3, some (frame, 400000), some resetIncrement, none, 0⟩ ∧
    ((busHeld 1).busTracker 7).lock = .holdover ∧ frame.valid = true ∧ filtering.queue = [] ∧ ({ frame with beatsPerBar := 17 } : BusFrame).valid = false := by
  decide +kernel

/-- R171, R176: the matching entry takes the frame; its own station id is a conflict that ends the lead role. -/
theorem test_filter : ((filtering.filterFrame .one frame 400000).busTracker 7).last = some (frame, 400000) ∧
    (live.filterFrame .one frame 400000).bus.unmatched = 1 ∧
    posted (leading.filterFrame .one frame 400000) = [.idConflict 3 .received true false] ∧
    (leading.filterFrame .one frame 400000).bus.settings.lead = none := by decide +kernel

/-- Leading, with a request present and both lines idle. -/
def mayBegin : State := { leading with bus := { leading.bus with
  request := some ⟨.boundary 10, false, false, false⟩
  line1 := { leading.bus.line1 with lineIdle := true }
  line2 := { leading.bus.line2 with lineIdle := true } } }

/-- An own frame of the age given, in 1/125 of a step, captured or not. -/
def sending (age : Nat) (c : Option BusFrame) : State := { mayBegin with bus := { mayBegin.bus with
  request := some ⟨.boundary 10, false, true, false⟩
  tx := some ⟨.a, 3, true, true, age, c⟩ } }

theorem witness_OwnFramesAndTheirLosses : mayBegin.mode = .running ∧
    mayBegin.frameBeginDue = some (⟨.boundary 10, false, false, false⟩, .a, true, true) ∧
    (sending 336 none).bus.tx = some ⟨.a, 3, true, true, 336, none⟩ ∧ 14 * (sending 336 none).bus.rate.unit ≤ 336 ∧
    ((sending 336 none).lane .a).crossing = false ∧ 244 * (sending 5856 (some frame)).bus.rate.unit ≤ 5856 ∧
    (sending 600 (some frame)).lossPossible 26 true false = true ∧
    (sending 600 (some frame)).lossPossible 27 true true = true := by decide +kernel

/-- R173 to R177: a frame begins on both lines; it is sent after 244 bit times and no earlier; a loss in the arbitration
field leaves the request to be retried, one after it is an ID conflict. -/
theorem test_own_frames : (after .frameBegin mayBegin).bus.tx = some ⟨.a, 3, true, true, 0, none⟩ ∧
    (after .frameSent (sending 5855 (some frame))).bus.sent = 0 ∧
    (after .frameSent (sending 5856 (some frame))).bus.sent = 1 ∧
    (after .frameSent (sending 5856 (some frame))).bus.request = none ∧
    (after (.arbitrationLoss 26 true false) (sending 600 (some frame))).bus.request =
      some ⟨.boundary 10, false, false, true⟩ ∧
    posted (after (.arbitrationLoss 27 true true) (sending 600 (some frame))) = [.idConflict 3 .arbitration true true] := by
  decide +kernel

/-- R173: a FAULTY line is taken where it is idle and left out otherwise; an OK line is waited for; two FAULTY lines are both
waited for. -/
theorem test_lines_of_a_frame :
    let t (f1 i1 f2 i2 : Bool) : Option (Bool × Bool) := Bus.included { mayBegin.bus with
      line1 := { mayBegin.bus.line1 with faulty := f1, lineIdle := i1 }
      line2 := { mayBegin.bus.line2 with faulty := f2, lineIdle := i2 } }
    t true true false true = some (true, true) ∧ t true false false true = some (false, true) ∧
    t true true false false = none ∧ t false true false false = none ∧
    t true true true false = none ∧ t true true true true = some (true, true) := by decide +kernel

theorem test_reference_instant : (((after .referenceInstant (sending 336 none)).bus.tx.bind (·.captured)).map (·.beat)) = some 10 ∧
    (after .referenceInstant (sending 335 none)).bus.tx.bind (·.captured) = none := by decide +kernel

/-! ## Boundaries of FOLLOWING lanes, jumps and entries at boundaries -/

/-- Lane A a unit before beat 11 as a FOLLOWING lane of bus tracker 7, which is LOCKED on the start of a bar. -/
def followA : State := (crossA.modLane .a fun l => { l with source := .bus 7, follow := .following }).setBusTracker 7
  ⟨.locked, some 3, some (frame, 400000), some resetIncrement, none, 0⟩

/-- Both lanes with a carry outstanding, lane A with the source LANE. -/
def leaderCrosses : State := (crossA.modLane .a fun l => { l with source := .lane, follow := .following }).setLane .b crossA.laneA

theorem witness_AnnouncedBoundaryOfFollowingLane : followA.mode = .running ∧ (followA.lane .a).transport = .running ∧
    (followA.lane .a).crossing = true ∧ 2 ^ 48 ≤ (followA.lane .a).pos.phase.toNat + (followA.lane .a).stepAmount ∧
    0 < ahead ((followA.lane .a).pos.advance (followA.lane .a).stepAmount).beat (followA.lane .a).high ∧
    (followA.lane .b).crossing = false ∧
    ((((followA.advanceLane .a).ripenJoins .b).openAnnounced .a 11).lane .a).transport = .running ∧
    ((((followA.advanceLane .a).ripenJoins .b).openAnnounced .a 11).lane .a).high = 11 ∧
    ((((followA.advanceLane .a).ripenJoins .b).openAnnounced .a 11).lane .b).crossing = false ∧
    followA.sourceLock .a = some .locked ∧ followA.sourceEstimate .a = some resetIncrement ∧
    (followA.sourceSide .a).isSome = true ∧ (followA.lane .b).source ≠ .lane := by decide +kernel

theorem witness_AnnouncedBoundary_leader : (leaderCrosses.lane .a).source = .lane ∧
    (leaderCrosses.lane .b).transport = .running ∧ (leaderCrosses.lane .b).crossing = true ∧
    (leaderCrosses.workLane .b).mode = .running ∧ ((leaderCrosses.workLane .b).lane .b).crossing = false ∧
    ((leaderCrosses.workLane .b).lane .a).transport = .running ∧ ((leaderCrosses.workLane .b).lane .a).crossing = true ∧
    ((leaderCrosses.workLane .b).lane .a).announces = true := by decide +kernel

/-- R9, R65: a lane on the fourth beat of its bar, whose source starts a bar, lies three beats and its phase ahead: the
residual is one beat less that phase, and the bar offset -1. A lane that follows the other lane across the same boundary
is in step with it. -/
theorem test_reduction : (after (.announcedBoundary .a) followA).laneA.residual = 2 ^ 48 - 5864062014 ∧
    (after (.announcedBoundary .a) followA).laneA.barOffset = -1 ∧
    (after (.announcedBoundary .a) leaderCrosses).laneA.residual = 0 ∧
    posted (after (.announcedBoundary .a) leaderCrosses) = [.aligned .a] := by decide +kernel

/-- Lane A at beat 10, third of its bar, with pull limit 0 and a residual of `beats` beats. -/
def jumpA (beats : Int) : State := runA.modLane .a fun l => { l with pullLimit := 0, residual := beats * 2 ^ 48 }

/-- The facts of lane A's boundary at beat 10. -/
def factsAt10 : BoundaryFacts := ⟨10, false, false, 2, 0⟩

theorem witness_JumpsOfALane : ((jumpA 2).lane .a).transport = .running ∧ ((jumpA 2).lane .a).pullLimit = 0 ∧
    0 < ((jumpA 2).lane .a).residual ∧ ((jumpA 2).lane .a).high = ((jumpA 2).lane .a).pos.beat ∧
    factsAt10.index = ((jumpA 2).lane .a).pos.beat ∧ (jumpA 2).queue = [] ∧ ((jumpA (-3)).lane .a).residual < 0 ∧
    (runA.lane .a).pullLimit ≠ 0 ∧ ((jumpA 2).lane .a).glide = none := by decide +kernel

/-- A STOP of lane A due at beat 11. -/
def stopAt11 : State := { runA with queue := [⟨0, .host, .a, .beat 11, .transport .a .stop⟩] }

theorem witness_JumpsOfALane_stop : 0 < ahead 11 (stopAt11.lane .a).high ∧
    ((stopAt11.openAnnounced .a 11).lane .a).transport = .stopped := by decide +kernel

/-- R24, R25: two beats forward cross into the next bar, and H follows; three beats back leave H and step the counters
back into the bar before; a stop within a jump leaves the rest counted. -/
theorem test_jumps : ((jumpA 2).jumpAndReport .a factsAt10).laneA.pos = ⟨12, 0⟩ ∧
    ((jumpA 2).jumpAndReport .a factsAt10).laneA.barCount = 3 ∧ ((jumpA 2).jumpAndReport .a factsAt10).laneA.high = 12 ∧
    ((jumpA (-3)).jumpAndReport .a factsAt10).laneA.pos = ⟨7, 0⟩ ∧
    ((jumpA (-3)).jumpAndReport .a factsAt10).laneA.beatInBar = 3 ∧
    ((jumpA (-3)).jumpAndReport .a factsAt10).laneA.barInPhrase = 1 ∧
    ((jumpA (-3)).jumpAndReport .a factsAt10).laneA.high = 10 := by decide +kernel

/-- Lane A on its boundary at beat 11, fourth of its bar, its position `beats` further on, and `c` due there. -/
def dueAt11 (beats : U32) (c : Change) : State :=
  { runA.setLane .a { runningLane with pos := ⟨11 + beats, 0⟩, beatInBar := 3, high := 11 } with
    queue := [⟨5, .host, .a, .beat 11, c⟩] }

theorem witness_EntriesAtAnAnnouncedBoundary :
    (dueAt11 0 (.tempo .a 977343669 0)).queue = [] ++ ⟨5, .host, .a, .beat 11, .tempo .a 977343669 0⟩ :: [] ∧
    (dueAt11 0 (.tempo .a 977343669 0)).findEntry (·.dueAt .a 11) = some ⟨5, .host, .a, .beat 11, .tempo .a 977343669 0⟩ ∧
    (dueAt11 0 (.tempo .a 977343669 0)).heldOver (.tempo .a 977343669 0) (some .a) = none ∧
    ((dueAt11 0 (.meter .a 3 8)).lane .a).beatInBar ≠ 0 ∧ ((dueAt11 0 (.meter .a 3 8)).lane .a).high = 11 ∧
    ((dueAt11 0 (.meter .b 3 8)).lane .b).transport = .stopped ∧
    (((dueAt11 0 (.meter .b 3 8)).setLane .b runningLane).lane .b).transport = .running ∧
    (∀ d ∈ (dueAt11 0 (.source .a tapSettings)).queue, d.isJoinOf .a = false) := by decide +kernel

theorem witness_EntriesAtAnAnnouncedBoundary_ids : (dueAt11 0 (.meter .a 3 8)).idsDistinct ∧
    ((dueAt11 0 (.meter .a 3 8)).lane .a).countersLegal := by
  unfold State.idsDistinct Lane.countersLegal meterLegal; decide

/-- R30, R74: a METER that falls on no bar start is held over to the next one, beat 12, whether the lane stands at the
boundary or has jumped past it to beat 13; a START of the RUNNING lane is IGNORED. -/
theorem test_entries : ((dueAt11 0 (.meter .a 3 8)).partTwo .a 11).queue.map (·.due) = [.beat 12] ∧
    ((dueAt11 2 (.meter .a 3 8)).partTwo .a 11).queue.map (·.due) = [.beat 12] ∧
    posted ((dueAt11 0 (.transport .a .start)).partTwo .a 11) = [.changeApplied (.lane .a) 5 .transport .host false] := by
  decide +kernel

/-! ## Configuration changes and handover measurements -/

theorem witness_ConfigurationChangesOfAChannel : ((withChan .code).chan 15).cfg.enabled = true ∧
    ({ cfgOf .code with lane := .b } : ChannelConfig).lane ≠ ((withChan .code).chan 15).cfg.lane ∧
    ((withChan .code).chan 15).brk = none ∧ ((withChan .code).chan 15).ho = none ∧
    (cfgOf .gate).function ≠ ((withChan .code).chan 15).cfg.function ∧
    gridChange ((live.setChan 15 { chanOf .tick with running := false }).chan 15).cfg { cfgOf .tick with n := 2 } = true ∧
    (live.lane .a).transport = .stopped ∧ ApplyAt.acceptance ≠ .switch ∧ ChannelConfig.reset.enabled = false ∧
    (stopping.chan 14).ho = some ⟨1, false⟩ ∧ (stopping.chan 15).brk = some ⟨3, .inBreak 2 9⟩ ∧
    (stopping.chan 15).ho = none ∧ (stopping.lane .b).transport = .running ∧ (stopping.chan 15).cfg.enabled = true := by
  decide +kernel

/-- R106: a CODE channel moved to the STOPPED lane B stops there. R128, R129: a handover member that is disabled stays on
its lane. -/
theorem test_configurations : (((withChan .code).applyConfig 15 { cfgOf .code with lane := .b } .acceptance).chan 15).slot = some .stop ∧
    (((withChan .code).applyConfig 15 { cfgOf .code with lane := .b } .acceptance).chan 15).running = false ∧
    ((stopping.applyConfig 14 { ChannelConfig.reset with lane := .b } .acceptance).chan 14).cfg.lane = .a ∧
    posted (stopping.applyConfig 15 ChannelConfig.reset .acceptance) = [.breakDone 3 .cancelled .mute 0x8000 0] := by
  decide +kernel

/-- Record 3 waits for the lanes to align, with `d` bars left. -/
def aligning (d : Nat) : State := (switching 11 none).setHo 3
  (some ⟨.waitingAlign, 0x8000, 0, .b, .aligned, .beat, .w64, d, none⟩)

/-- Lane B's boundary at beat 10, third of its bar unless it starts one, the position `phase` into the beat. -/
def boundaryOfB (bar : Bool) (phase : Nat) : KnownBoundary := ⟨.b, 10, bar, 2, 2, 4, BitVec.ofNat 48 phase, []⟩

theorem witness_HandoverMeasurementAndTest : ((aligning 4).ho 3).map (·.toLane) = some (boundaryOfB false 0).lane ∧
    ((aligning 4).ho 3).map (·.stage) = some .waitingAlign ∧ (aligning 4).ho 0 = none ∧
    ((switching 11 none).ho 3).map (·.stage) ≠ some .waitingAlign ∧
    interLaneResidual (boundaryOfB false 0) .beat (aligning 4).laneA = 0 ∧
    interLaneResidual (boundaryOfB true (2 ^ 47)) .beat (aligning 4).laneA = -2 ^ 47 ∧
    ahead ((aligning 4).lane .b).high 10 = 0 ∧ ahead (((aligning 4).chan 15).projectedOn ((aligning 4).lane .b)).beat
      ((aligning 4).lane .b).high = 0 ∧ ((aligning 4).lane .b).crossing = false := by decide +kernel

/-- Lane B's boundary made known while lane A has still its work to do, or with that work made. -/
def knownOfB (works : Bool) (later : List (Fin 4)) : State :=
  { (aligning 4).modLane .a fun l => { l with crossing := works } with
    known := [{ boundaryOfB false 0 with later := later }] }

theorem witness_HandoverMeasurement_known : (knownOfB true []).known = [{ boundaryOfB false 0 with later := [] }] ∧
    ((knownOfB true []).lane .a).crossing = true ∧ ((knownOfB false []).lane .a).crossing = false := by decide +kernel

/-- R146: the measurement waits for the from-lane's work of the step, and leaves a record opened since alone. -/
theorem test_known : ((knownOfB true []).measureKnown.ho 3).map (·.stage) = some .waitingAlign ∧
    ((knownOfB false []).measureKnown.ho 3).map (·.stage) = some (.switchDue .aligned 11 (some 11)) ∧
    ((knownOfB false [3]).measureKnown.ho 3).map (·.stage) = some .waitingAlign ∧
    ((knownOfB true []).openHandover 0 0 .a .aligned .beat .w64 4).known.map (·.later) = [[0]] := by decide +kernel

theorem witness_HandoverMeasurement_counters : ((aligning 4).lane .b).countersLegal := by
  unfold Lane.countersLegal meterLegal; decide

/-- R144, R147, R148: lanes in step switch at the next beat, the from-lane beat with it; half a beat apart, a boundary that
is no bar start changes only the residual, a bar start counts the deadline, and the last one forces the switch at the
next bar. -/
theorem test_measurement : (((aligning 4).measure (boundaryOfB false 0) 10 3).ho 3).map (·.stage) =
      some (.switchDue .aligned 11 (some 11)) ∧
    (((aligning 4).measure (boundaryOfB false (2 ^ 47)) 10 3).ho 3).map (·.deadline) = some 4 ∧
    (((aligning 4).measure (boundaryOfB true (2 ^ 47)) 10 3).ho 3).map (·.deadline) = some 3 ∧
    (((aligning 1).measure (boundaryOfB true (2 ^ 47)) 10 3).ho 3).map (·.stage) = some (.switchDue .forced 12 none) := by
  decide +kernel

/-! ## The host line -/

/-- The receiver in a framing state, after its wait for idle. -/
def hostRx (rx : HostRx) (last : Nat) : State := { live with link := { live.link with rx := rx, waitIdle := false, lastChar := last } }

/-- A frame received whole, its CRC right, behind `q` waiting entries. -/
def whole (q : List QueueItem) (good : Bool) : State :=
  { live with link := { live.link with
      requests := q
      complete := some (⟨0x01, 7, []⟩, (crcBytes [0, 0x01, 7]).getD 0 0,
        if good then (crcBytes [0, 0x01, 7]).getD 1 0 else (crcBytes [0, 0x01, 7]).getD 1 0 + 1) } }

theorem witness_HostFramingAndVerification : (hostRx .length 399807).link.rx ≠ .hunt ∧
    192 < since (hostRx .length 399807).clock 399807 ∧ live.link.waitIdle = true ∧ (hostRx .hunt 0).link.waitIdle = false ∧
    (hostRx .hunt 0).link.complete = none ∧ (whole [] true).link.complete ≠ none ∧
    crcBytes [0, 0x01, 7] = [(crcBytes [0, 0x01, 7]).getD 0 0, (crcBytes [0, 0x01, 7]).getD 1 0] ∧
    requestsHeld (List.replicate 4 (.request ⟨0x01, 7, []⟩)) = 4 ∧
    refusalsHeld (List.replicate 4 (.request ⟨0x01, 7, []⟩) ++ List.replicate 8 (.refusal 0x01 7)) = 8 := by decide +kernel

/-- R182, R184: H'C5 opens a frame; a LEN of 56 is taken and 57 discarded; the gap limit is 192 steps; a low stop bit
is a character error. -/
theorem test_host_framing : (after (.hostCharacter 0xC5 true) (hostRx .hunt 0)).link.rx = .length ∧
    (after (.hostCharacter 0xC4 true) (hostRx .hunt 0)).link.counts.sync = 1 ∧
    (after (.hostCharacter 56 true) (hostRx .length 0)).link.rx = .header 56 ∧
    (after (.hostCharacter 57 true) (hostRx .length 0)).link.rx = .hunt ∧
    (after .gapTimeout (hostRx .length 399808)).link.counts.gap = 0 ∧
    (after .gapTimeout (hostRx .length 399807)).link.counts.gap = 1 ∧
    (after (.hostCharacter 0xC5 false) (hostRx .hunt 0)).link.counts.character = 1 ∧
    (after .hostLineIdle live).link.waitIdle = false := by decide +kernel

/-- R183, R185: the fifth request becomes a refusal, and the ninth refusal is discarded. -/
theorem test_verified_frame : (after .verifiedFrame (whole [] true)).link.requests = [.request ⟨0x01, 7, []⟩] ∧
    (after .verifiedFrame (whole [] false)).link.counts.crc = 1 ∧
    (after .verifiedFrame (whole (List.replicate 4 (.request ⟨0x01, 7, []⟩)) true)).link.requests.getLast? =
      some (.refusal 0x01 7) ∧
    (after .verifiedFrame (whole (List.replicate 4 (.request ⟨0x01, 7, []⟩) ++ List.replicate 8 (.refusal 0x01 7)) true)).link.counts.overrun
      = 1 := by decide +kernel

/-- A reply and a notice waiting, the transmitter idle or at the end of a frame of one character. -/
def waitingToSend (tx : HostTx) (replies : List Reply) : State := { live with link := { live.link with
  tx := tx
  replies := replies
  notices := [⟨.refMisaligned, 5⟩] } }

theorem witness_TransmitterChoosesFrames : (waitingToSend .idle [⟨0x01, 7, [0], false⟩]).mode = .running ∧
    (waitingToSend (.sending [0] 72 true false) []).link.tx = .sending [0] 72 true false ∧
    ((10 * 0 + 1) * 72 ≤ 10 * 14 ∧ 10 * 14 < (10 * 0 + 1 + 1) * 72) ∧
    1 * (waitingToSend .idle []).link.rate.charUnits ≤ 72 ∧ (waitingToSend .idle []).link.resetPending = false := by
  decide

/-- R181: H'C5 = 1100 0101 goes out as a low start bit, 1 0 1 0 0 0 1 1 and a high stop bit; HTX is high when idle. -/
theorem test_htx : (List.range 10).map (fun b => (waitingToSend (.sending [0xC5] (7 * b + 5) true false) []).htx) =
      [false, true, false, true, false, false, false, true, true, true] ∧
    (waitingToSend .idle []).htx = true ∧ (after .powerOnReset live).htx = true := by decide +kernel

/-- R188: a reply goes before a notice, and a frame begins only when the one before it has ended. -/
theorem test_transmitter : (after .replyBegin (waitingToSend .idle [⟨0x01, 7, [0], false⟩])).link.replies = [] ∧
    (after .noticeBegin (waitingToSend .idle [⟨0x01, 7, [0], false⟩])).link.notices.length = 1 ∧
    (after .noticeBegin (waitingToSend .idle [])).link.notices = [] ∧
    (after .noticeBegin (waitingToSend (.sending [0] 71 true false) [])).link.notices.length = 1 ∧
    (after .hostFrameEnd { waitingToSend (.sending [0] 72 true false) [] with
      link := { (waitingToSend (.sending [0] 72 true false) []).link with notices := [] } }).link.tx = .idle := by decide +kernel

end Sys2Proof.Tests
end

/-! The conversions between tempo and increment (R4, R5): how rounding half up behaves, what each conversion returns,
and the round trip between them. -/

namespace Sys2Proof.Machine

/-! ## Rounding half up -/

theorem roundHalfUp_mono {num num' : Nat} (h : num ≤ num') (den : Nat) : roundHalfUp num den ≤ roundHalfUp num' den :=
  Nat.div_le_div_right (by omega)

theorem roundHalfUp_add_den (num : Nat) {den : Nat} (h : 0 < den) :
    roundHalfUp (num + den) den = roundHalfUp num den + 1 := by
  have shifted : 2 * (num + den) + den = 2 * num + den + 2 * den := by ring
  rw [roundHalfUp, shifted, Nat.add_div_right _ (by omega), roundHalfUp]

/-- The result is the one integer within half a unit of the quotient, the upper one of the two at a tie. -/
theorem roundHalfUp_eq_iff {num den q : Nat} (h : 0 < den) :
    roundHalfUp num den = q ↔ 2 * (q * den) ≤ 2 * num + den ∧ 2 * num < 2 * (q * den) + den := by
  have lower : q * (2 * den) = 2 * (q * den) := by ring
  rw [roundHalfUp, Nat.div_eq_iff (by omega), lower]
  omega

/-- Rounding to a unit `b` finer than `a` loses at most half of `b`, so that rounding back to `a` recovers `t`. -/
theorem roundHalfUp_roundHalfUp {a b : Nat} (hb : 0 < b) (hab : b < a) (t : Nat) :
    roundHalfUp (roundHalfUp (a * t) b * b) a = t := by
  obtain ⟨below, above⟩ := (roundHalfUp_eq_iff hb).1 (Eq.refl (roundHalfUp (a * t) b))
  rw [roundHalfUp_eq_iff (by omega), Nat.mul_comm t a]
  omega

/-! ## A tempo converted to an increment (R4) -/

theorem tempoToIncrement_of_le {t : Nat} (h : t ≤ 20000) : tempoToIncrement t = incMin := by
  have clamped : clampNat 20000 300000 t = 20000 := by unfold clampNat; omega
  rw [tempoToIncrement, clamped]
  decide

theorem tempoToIncrement_of_ge {t : Nat} (h : 300000 ≤ t) : tempoToIncrement t = incMax := by
  have clamped : clampNat 20000 300000 t = 300000 := by unfold clampNat; omega
  rw [tempoToIncrement, clamped]
  decide

/-- Within the range of R4 neither clamp acts. -/
theorem tempoToIncrement_of_range {t : Nat} (hlo : 20000 ≤ t) (hhi : t ≤ 300000) :
    tempoToIncrement t = roundHalfUp (beatUnits * t) 5760000000 := by
  have least : incMin ≤ roundHalfUp (beatUnits * t) 5760000000 :=
    calc incMin = roundHalfUp (beatUnits * 20000) 5760000000 := by decide
      _ ≤ _ := roundHalfUp_mono (Nat.mul_le_mul_left _ hlo) _
  have greatest : roundHalfUp (beatUnits * t) 5760000000 ≤ incMax :=
    calc _ ≤ roundHalfUp (beatUnits * 300000) 5760000000 := roundHalfUp_mono (Nat.mul_le_mul_left _ hhi) _
      _ = incMax := by decide
  rw [tempoToIncrement, clampNat_of_range hlo hhi, clampInc_of_legal ⟨least, greatest⟩]

/-! ## An increment reported as a tempo (R5) -/

theorem incrementToTempo_eq_div (i : Nat) : incrementToTempo i = (2 * i * 5760000000 + 2 ^ 48) / 2 ^ 49 := by
  simp only [incrementToTempo, roundHalfUp, beatUnits, Nat.mul_assoc, Nat.reduceMul, Nat.reducePow]

theorem incrementToTempo_tempoToIncrement {t : Nat} (hlo : 20000 ≤ t) (hhi : t ≤ 300000) :
    incrementToTempo (tempoToIncrement t) = t := by
  rw [tempoToIncrement_of_range hlo hhi]
  exact roundHalfUp_roundHalfUp (by decide) (by decide) t

theorem incrementToTempo_incMin : incrementToTempo incMin = 20000 := by
  rw [← tempoToIncrement_of_le (Nat.le_refl 20000)]
  exact incrementToTempo_tempoToIncrement (by decide) (by decide)

theorem incrementToTempo_incMax : incrementToTempo incMax = 300000 := by
  rw [← tempoToIncrement_of_ge (Nat.le_refl 300000)]
  exact incrementToTempo_tempoToIncrement (by decide) (by decide)

/-- 48,867 increments make less than one mBPM. -/
theorem incrementToTempo_add_le (i : Nat) : incrementToTempo (i + 48867) ≤ incrementToTempo i + 1 := by
  rw [incrementToTempo, incrementToTempo, ← roundHalfUp_add_den _ (by decide)]
  exact roundHalfUp_mono (by simp only [beatUnits]; omega) _

/-- 48,868 increments make more than one mBPM. -/
theorem le_incrementToTempo_add (i : Nat) : incrementToTempo i + 1 ≤ incrementToTempo (i + 48868) := by
  rw [incrementToTempo, incrementToTempo, ← roundHalfUp_add_den _ (by decide)]
  exact roundHalfUp_mono (by simp only [beatUnits]; omega) _

/-- The increment above that of 20.000 BPM is reported as 20.000 BPM too, and a tempo has one increment. -/
theorem exists_increment_not_given_back : ∃ i, incLegal i ∧ tempoToIncrement (incrementToTempo i) ≠ i := by
  have legal : incLegal (incMin + 1) := by unfold incLegal; decide
  have reported : incrementToTempo (incMin + 1) = 20000 := by decide
  refine ⟨incMin + 1, legal, ?_⟩
  rw [reported, tempoToIncrement_of_le (Nat.le_refl 20000)]
  decide

/-- Settles O14: the round trip is that of rounding to a finer unit and back, since one increment is less than one
mBPM. -/
theorem tempoConversionRoundTrip : Obligations.TempoConversionRoundTrip :=
  ⟨fun _ => incrementToTempo_tempoToIncrement,
    fun _ h => tempoToIncrement_of_le (Nat.le_of_lt h),
    fun _ h => tempoToIncrement_of_ge (Nat.le_of_lt h),
    incrementToTempo_eq_div,
    incrementToTempo_incMin,
    incrementToTempo_incMax,
    fun i => ⟨incrementToTempo_add_le i, le_incrementToTempo_add i⟩,
    exists_increment_not_given_back⟩

end Sys2Proof.Machine

/-! SET_TEMPO (R27, R28, R70): the result byte of an answer, what the shared scheduling operations of a request do in
the terms of the statements, the staircase of a glide, and the change of a tempo target. -/

namespace Sys2Proof.Machine

/-! ## Answers (R187) -/

/-- The payload of a request carried out begins with CLAMPED or OK. -/
theorem okOr_payload (clamped : Bool) (data : List Byte) :
    (Answer.okOr clamped data).payload = (if clamped = true then 0x01 else 0x00) :: data := by
  cases clamped <;> rfl

/-! ## The shared scheduling operations (R70) -/

/-- The scheduler's checks, as the result byte of the refusal. -/
theorem schedulerRefusal_eq (s : State) (take : TakeMode) (timing : LaneId) :
    schedulerRefusal s take timing = (s.schedulerBar take timing).map fun r => BitVec.ofNat 8 r.value := by
  have stopped : (!(s.lane timing).isRunning) = true ↔ (s.lane timing).transport = .stopped := by
    cases h : (s.lane timing).transport <;> simp [Lane.isRunning, h]
  simp only [schedulerRefusal, State.schedulerBar, State.queueFull, queueCapacity, Bool.and_eq_true,
    decide_eq_true_eq, stopped]
  split
  · rfl
  · split <;> rfl

@[simp] theorem takeHead_schedulerBar (s : State) (take : TakeMode) (timing : LaneId) :
    s.takeHead.schedulerBar take timing = s.schedulerBar take timing := by
  cases timing <;> rfl

/-- A change of the host carried out or made an entry, with the entry field of the reply. -/
theorem scheduled_eq (s : State) (take : TakeMode) (timing : LaneId) (change : Change) (now : State → State) :
    scheduled s take timing change (now s) =
      ((s.schedule take timing change now).1, entryField (s.schedule take timing change now).2) := by
  unfold scheduled State.schedule
  split <;> rfl

/-! ## The clamps of a tempo change (R4, R7) -/

/-- The clamp of the tempo is the only one that acts in the conversion. -/
theorem tempoToIncrement_eq (t : Nat) :
    tempoToIncrement t = roundHalfUp (2 ^ 48 * max 20000 (min 300000 t)) 5760000000 := by
  obtain ⟨hlo, hhi⟩ := clampNat_range (lo := 20000) (hi := 300000) (by decide) t
  have clamp_twice : tempoToIncrement t = tempoToIncrement (clampNat 20000 300000 t) := by
    rw [tempoToIncrement, tempoToIncrement, clampNat_of_range hlo hhi]
  exact clamp_twice.trans (tempoToIncrement_of_range hlo hhi)

/-- SET_TEMPO is CLAMPED exactly where the tempo or the glide length stands outside its range. -/
theorem setTempo_clamped_iff (t g : Nat) :
    (tempoClamped t || g != clampGlide g) = true ↔ t < 20000 ∨ 300000 < t ∨ 64 < g := by
  simp only [tempoClamped, clampGlide, Bool.or_eq_true, decide_eq_true_eq, bne_iff_ne]
  omega

/-! ## The request (R27) -/

/-- A TEMPO change on a FREE lane is its new target (R28). -/
theorem applyTempo_of_free {s : State} {x : LaneId} (h : (s.lane x).source = .free) (increment glide : Nat) :
    (s.applyTempo x increment glide).1 = s.newTarget x increment glide := by
  simp [State.applyTempo, h]

section
variable {s : State} {p : List Byte} {x timing : LaneId} {take : TakeMode}

/-- R27's check of the source: a lane that is not FREE takes no tempo of the host. -/
theorem setTempo_of_not_free (hx : laneOfByte (byteAt p 0) = some x) (htake : takeNoJoin p 5 = some take)
    (htiming : laneOfByte (byteAt p 7) = some timing) (hsource : (s.lane x).source ≠ .free) :
    setTempo p s = refuse .wrongState s := by
  simp only [setTempo, hx, htake, htiming]
  exact if_pos hsource

theorem setTempo_of_schedulerBar (hx : laneOfByte (byteAt p 0) = some x) (htake : takeNoJoin p 5 = some take)
    (htiming : laneOfByte (byteAt p 7) = some timing) (hsource : (s.lane x).source = .free) {r : ResultCode}
    (hbar : s.schedulerBar take timing = some r) : setTempo p s = refuse r s := by
  simp only [setTempo, hx, htake, htiming, hbar]
  exact if_neg (not_not_intro hsource)

/-- SET_TEMPO past its checks: the new target set at once or scheduled, with the values used in the reply. -/
theorem setTempo_of_accepted (hx : laneOfByte (byteAt p 0) = some x) (htake : takeNoJoin p 5 = some take)
    (htiming : laneOfByte (byteAt p 7) = some timing) (hsource : (s.lane x).source = .free)
    (hbar : s.schedulerBar take timing = none) {inc glide : Nat} (hinc : tempoToIncrement (fieldAt p 1 3) = inc)
    (hglide : clampGlide (byteAt p 4) = glide) :
    (setTempo p s).1 = (scheduled s take timing (.tempo x inc glide) (s.newTarget x inc glide)).1 ∧
    (setTempo p s).2 = .okOr (tempoClamped (fieldAt p 1 3) || byteAt p 4 != glide)
      ((scheduled s take timing (.tempo x inc glide) (s.newTarget x inc glide)).2 ++
        bytesOf 5 inc ++ bytesOf 3 (incrementToTempo inc) ++ [BitVec.ofNat 8 glide]) := by
  rw [← applyTempo_of_free hsource, scheduled_eq s take timing _ fun t => (t.applyTempo x inc glide).1]
  simp only [setTempo, hx, htake, htiming, hbar, hinc, hglide]
  rw [if_neg (not_not_intro hsource)]
  exact ⟨rfl, rfl⟩

end

/-! ## The staircase of a glide (R6) -/

/-- A rising staircase stands above its start by the share of the way that the steps taken make. -/
theorem glide_at_of_rising {g : Glide} (rising : g.start ≤ g.target) {j : Nat} (hl : 1 ≤ g.length)
    (hj : j ≤ g.length) : g.at j = g.start + (g.target - g.start) * j / g.length := by
  rcases Nat.lt_or_eq_of_le hj with before | rfl
  · have way : ((g.target : Int) - g.start) * j = ((g.target - g.start) * j : Nat) := by
      push_cast [Nat.cast_sub rising]; rfl
    rw [Glide.at, if_pos before, way, ← Int.ofNat_tdiv, ← Nat.cast_add, Int.toNat_natCast]
  · rw [glide_at_end le_rfl, Nat.mul_div_cancel _ hl]
    omega

/-- A falling staircase stands below its start by the share of the way that the steps taken make. -/
theorem glide_at_of_falling {g : Glide} (falling : g.target ≤ g.start) {j : Nat} (hl : 1 ≤ g.length)
    (hj : j ≤ g.length) : g.at j = g.start - (g.start - g.target) * j / g.length := by
  rcases Nat.lt_or_eq_of_le hj with before | rfl
  · have way : ((g.target : Int) - g.start) * j = -((g.start - g.target) * j : Nat) := by
      push_cast [Nat.cast_sub falling]; ring
    rw [Glide.at, if_pos before, way, Int.neg_tdiv, ← Int.ofNat_tdiv]
    omega
  · rw [glide_at_end le_rfl, Nat.mul_div_cancel _ hl]
    omega

/-- The share of the way grows with the steps taken, up to the whole way. -/
theorem glide_share_mono {l j k : Nat} (hjk : j ≤ k) (hk : k ≤ l) (way : Nat) :
    way * j / l ≤ way * k / l ∧ way * k / l ≤ way :=
  ⟨Nat.div_le_div_right (Nat.mul_le_mul_left _ hjk),
    Nat.div_le_of_le_mul (Nat.mul_comm way k ▸ Nat.mul_le_mul_right _ hk)⟩

theorem glide_at_zero {g : Glide} (hl : 1 ≤ g.length) : g.at 0 = g.start := by
  rw [Glide.at, if_pos (by omega)]
  simp

theorem glide_rises {g : Glide} (rising : g.start ≤ g.target) (hl : 1 ≤ g.length) {j k : Nat} (hjk : j ≤ k)
    (hk : k ≤ g.length) : g.start ≤ g.at j ∧ g.at j ≤ g.at k ∧ g.at k ≤ g.target := by
  rw [glide_at_of_rising rising hl (hjk.trans hk), glide_at_of_rising rising hl hk]
  obtain ⟨grows, bounded⟩ := glide_share_mono hjk hk (g.target - g.start)
  exact ⟨Nat.le_add_right _ _, Nat.add_le_add_left grows _, Nat.add_le_of_le_sub' rising bounded⟩

theorem glide_falls {g : Glide} (falling : g.target ≤ g.start) (hl : 1 ≤ g.length) {j k : Nat} (hjk : j ≤ k)
    (hk : k ≤ g.length) : g.target ≤ g.at k ∧ g.at k ≤ g.at j ∧ g.at j ≤ g.start := by
  rw [glide_at_of_falling falling hl (hjk.trans hk), glide_at_of_falling falling hl hk]
  obtain ⟨grows, bounded⟩ := glide_share_mono hjk hk (g.start - g.target)
  exact ⟨Nat.le_sub_of_add_le' (Nat.add_le_of_le_sub falling bounded), Nat.sub_le_sub_left grows _, Nat.sub_le _ _⟩

/-! ## A new tempo target (R7) -/

theorem modLane_modLane (s : State) (x : LaneId) (f g : Lane → Lane) :
    (s.modLane x f).modLane x g = s.modLane x fun l => g (f l) := by
  cases x <;> rfl

/-- An increment set on a lane that the other lane does not follow changes that increment alone. -/
theorem setIncrement_of_not_followed {s : State} {x : LaneId} (h : (s.lane (otherLane x)).source ≠ .lane) (i : Nat) :
    s.setIncrement x i = s.modLane x fun l => { l with increment := i } := by
  simp [State.setIncrement, h]

theorem newTarget_of_not_followed {s : State} {x : LaneId} (h : (s.lane (otherLane x)).source ≠ .lane)
    (target glide : Nat) :
    s.newTarget x target glide = s.setLane x
      (if glide = 0 then { s.lane x with increment := target, glide := none, glideDue := false }
      else { s.lane x with glide := some ⟨(s.lane x).increment, target, glide, 0⟩, glideDue := false }) := by
  unfold State.newTarget
  split
  · rw [setIncrement_of_not_followed (by rwa [lane_modLane_other]), modLane_modLane]
    rfl
  · rfl

/-! ## The statement -/

/-- The outcome of SET_TEMPO at the head of the queue (R27, R28, R70). -/
theorem exec_setTempo_of_requestAtHead {s : State} {tag : Byte} {p : List Byte} (h : RequestAtHead s 0x10 tag p)
    (hlen : p.length = 8) : exec .setTempo s = .next
      (answered (setTempo p s.takeHead).1 0x10 tag (setTempo p s.takeHead).2.payload) := by
  have handled := handle_of_requestAtHead 8 setTempo h (mine := anyPayload) rfl
  rw [if_pos hlen] at handled
  exact congrArg _ handled

/-- Settles O25: the rule of the request branch by branch, and the staircase by the share of the way its steps
make. -/
theorem setTempoRequest : Obligations.SetTempoRequest := by
  refine ⟨fun s tag p hreq hlen => ?_,
    fun g hl => ⟨glide_at_zero hl, glide_at_end le_rfl, fun rising j k => glide_rises rising hl,
      fun falling j k => glide_falls falling hl⟩,
    addEntry_eq, fun s x target glide h => newTarget_of_not_followed h target glide⟩
  rw [exec_setTempo_of_requestAtHead hreq hlen]
  congr 1
  split
  next x take timing hx htake htiming =>
    rw [schedulerRefusal_eq, ← takeHead_schedulerBar, ← takeHead_lane]
    by_cases free : (s.takeHead.lane x).source = .free
    · rw [if_neg (not_not_intro free)]
      cases hbar : s.takeHead.schedulerBar take timing with
      | some r =>
        rw [setTempo_of_schedulerBar hx htake htiming free hbar]
        rfl
      | none =>
        obtain ⟨next, reply⟩ := setTempo_of_accepted hx htake htiming free hbar (tempoToIncrement_eq _) rfl
        simp only [next, reply, okOr_payload, setTempo_clamped_iff]
        rfl
    · rw [setTempo_of_not_free hx htake htiming free, if_pos free]
      rfl
  next illegal =>
    have bad : setTempo p s.takeHead = refuse .badValue s.takeHead := by
      unfold setTempo
      split
      next x take timing hx htake htiming => exact absurd htiming (illegal x take timing hx htake)
      next => rfl
    rw [bad]
    rfl

end Sys2Proof.Machine

/-! TAP (R46 to R48): which tap each test sorts, what the tracker becomes when a tap begins a sequence or goes on with
it, and the step of the tap edge for each outcome of the sorting. -/

namespace Sys2Proof.Machine

/-! ## The sorting of a tap (R46) -/

theorem isOutlier_eq_true {intervals : List Nat} {d : Nat} :
    isOutlier intervals d = true ↔
      intervals ≠ [] ∧ intervals.sum < 4 * ((d : Int) * intervals.length - intervals.sum).natAbs := by
  simp [isOutlier]

theorem isOutlier_eq_false {intervals : List Nat} {d : Nat} :
    isOutlier intervals d = false ↔
      intervals = [] ∨ 4 * ((d : Int) * intervals.length - intervals.sum).natAbs ≤ intervals.sum := by
  simp [isOutlier, or_iff_not_imp_left]

section
variable {t : TapTracker} {now last : Nat}

theorem tapSort_of_last_none (h : t.last = none) : t.sort now = .first := by
  simp [TapTracker.sort, h]

/-- The tests on the interval since the last taken tap, in their order. -/
theorem tapSort_of_last (h : t.last = some last) : t.sort now =
    if since now last < tapBounce then .bounce
    else if longGap < since now last then .restart
    else if isOutlier t.intervals (since now last) then .restart
    else .inSequence := by
  simp only [TapTracker.sort, h]

theorem tapSort_of_bounce (h : t.last = some last) (short : since now last < 19200) : t.sort now = .bounce := by
  rw [tapSort_of_last h, if_pos short]

theorem tapSort_of_long_gap (h : t.last = some last) (long : 288000 < since now last) : t.sort now = .restart := by
  rw [tapSort_of_last h, if_neg (not_lt_of_gt (lt_trans (by decide) long)), if_pos long]

theorem tapSort_of_within (h : t.last = some last) (lo : 19200 ≤ since now last) (hi : since now last ≤ 288000) :
    t.sort now = if isOutlier t.intervals (since now last) then .restart else .inSequence := by
  rw [tapSort_of_last h, if_neg (Nat.not_lt.2 lo), if_neg (Nat.not_lt.2 hi)]

/-! ## The tracker after a tap (R47, R48) -/

/-- A first tap keeps the estimate and the anchor exactly where the tracker is LOCKED. -/
theorem tapBegin_eq (t : TapTracker) (now : Nat) : t.begin now = { t with
    last := some now
    intervals := []
    estimate := if t.lock = .locked then t.estimate else none
    anchor := if t.lock = .locked then t.anchor else none } := by
  by_cases locked : t.lock = .locked <;> simp [TapTracker.begin, locked]

variable {list : List Nat}

/-- The second tap of a new sequence leaves a LOCKED tracker the estimate and the anchor it has (R48). -/
theorem tapAppend_of_kept (h : t.last = some last) (hlist : keepLast 8 (t.intervals ++ [since now last]) = list)
    (locked : t.lock = .locked) (few : list.length < 2) :
    t.append now = { t with last := some now, intervals := list } := by
  simp only [TapTracker.append, h, hlist]
  exact if_pos (by simp [locked, few])

/-- Every other tap in sequence forms the estimate of its intervals, and the tap is the anchor (R47). -/
theorem tapAppend_of_formed (h : t.last = some last) (hlist : keepLast 8 (t.intervals ++ [since now last]) = list)
    (formed : t.lock = .locked → 2 ≤ list.length) : t.append now = { t with
      last := some now
      intervals := list
      estimate := some (estimateOf list.length 1 list.sum)
      anchor := some now } := by
  simp only [TapTracker.append, h, hlist]
  exact if_neg (by simpa [Nat.lt_iff_add_one_le] using formed)

end

/-! ## The step of a tap -/

section
variable {s : State}

theorem exec_tap_of_running (running : s.mode = .running) : exec .tap s = .next s.tapEdge :=
  congrArg Host.Outcome.next (if_pos (live_eq_true.2 running))

theorem tapEdge_of_bounce (h : s.tap.sort s.clock = .bounce) : s.tapEdge = s := by
  simp [State.tapEdge, h]

theorem tapEdge_of_begun (h : s.tap.sort s.clock = .first ∨ s.tap.sort s.clock = .restart) :
    s.tapEdge = { s with tap := s.tap.begin s.clock } := by
  rcases h with h | h <;> simp [State.tapEdge, h]

variable {t : TapTracker}

theorem tapEdge_of_inSequence (h : s.tap.sort s.clock = .inSequence) (ht : s.tap.append s.clock = t) : s.tapEdge =
    if t.intervals.length < 2 then { s with tap := t }
    else if t.lock = .locked then { s with tap := t }.trackerUpdate .tap
    else { s with tap := { t with lock := .locked } }.becameLocked .tap .tap t.estimate none := by
  simp only [State.tapEdge, h, ht]

/-- One interval only neither locks nor updates the tracker. -/
theorem tapEdge_of_few (h : s.tap.sort s.clock = .inSequence) (ht : s.tap.append s.clock = t)
    (few : t.intervals.length < 2) : s.tapEdge = { s with tap := t } := by
  rw [tapEdge_of_inSequence h ht, if_pos few]

theorem tapEdge_of_update (h : s.tap.sort s.clock = .inSequence) (ht : s.tap.append s.clock = t)
    (enough : 2 ≤ t.intervals.length) (locked : t.lock = .locked) :
    s.tapEdge = { s with tap := t }.trackerUpdate .tap := by
  rw [tapEdge_of_inSequence h ht, if_neg (Nat.not_lt.2 enough), if_pos locked]

theorem tapEdge_of_lock (h : s.tap.sort s.clock = .inSequence) (ht : s.tap.append s.clock = t)
    (enough : 2 ≤ t.intervals.length) (searching : t.lock ≠ .locked) :
    s.tapEdge = { s with tap := { t with lock := .locked } }.becameLocked .tap .tap t.estimate none := by
  rw [tapEdge_of_inSequence h ht, if_neg (Nat.not_lt.2 enough), if_neg searching]

end

/-- Settles O37: the tap edge for each outcome of the sorting, and a tap in sequence by the number of intervals kept
and the lock state. -/
theorem tapSorting : Obligations.TapSorting := by
  intro s running
  simp only [exec_tap_of_running running, Host.Outcome.next.injEq]
  have begun := fun h => tapBegin_eq s.tap s.clock ▸ tapEdge_of_begun (s := s) h
  refine ⟨fun untapped => begun (.inl (tapSort_of_last_none untapped)),
    fun last hlast => ⟨?bounce, ?gap, ?outlier, ?sequence⟩⟩
  case bounce => exact fun short => tapEdge_of_bounce (tapSort_of_bounce hlast short)
  case gap => exact fun long => begun (.inr (tapSort_of_long_gap hlast long))
  case outlier =>
    intro lo hi nonempty far
    exact begun (.inr ((tapSort_of_within hlast lo hi).trans (if_pos (isOutlier_eq_true.2 ⟨nonempty, far⟩))))
  case sequence =>
    intro lo hi near
    have sorted : s.tap.sort s.clock = .inSequence := by
      rw [tapSort_of_within hlast lo hi, isOutlier_eq_false.2 near]
      rfl
    refine ⟨fun few locked => ?_, fun few searching => ?_, fun enough locked => ?_, fun enough searching => ?_⟩
    · exact tapEdge_of_few sorted (tapAppend_of_kept hlast rfl locked few) few
    · exact tapEdge_of_few sorted (tapAppend_of_formed hlast rfl fun locked => absurd locked searching) few
    · exact tapEdge_of_update sorted (tapAppend_of_formed hlast rfl fun _ => enough) enough locked
    · exact tapEdge_of_lock sorted (tapAppend_of_formed hlast rfl fun _ => enough) enough searching

end Sys2Proof.Machine

/-! CANCEL_CHANGE (R85) and SET_CUE (R82): the step of a request whose TYPE has one row alone, the entries that each
selector of a cancel takes from the queue, and the cue line that a legal SET_CUE changes. -/

namespace Sys2Proof.Machine

/-- The handling of a request of the right length whose TYPE belongs to one row (R186, R187). -/
theorem handle_anyPayload_of_requestAtHead {s : State} {type tag : Byte} {p : List Byte} {len : Nat}
    (rule : List Byte → State → State × Answer) (h : RequestAtHead s type tag p) (hlen : p.length = len) :
    s.handle type anyPayload len rule =
      answered (rule p s.takeHead).1 type tag (rule p s.takeHead).2.payload := by
  rw [handle_of_requestAtHead len rule h rfl, if_pos hlen]

/-! ## Entries cancelled (R85) -/

theorem cancelEntries_eq (s : State) (sel : Entry → Bool) : s.cancelEntries sel =
    if (s.queue.filter sel).length = 0 then s
    else { s with queue := s.queue.filter fun e => !sel e, generation := s.generation + 1 } := by
  simp only [State.cancelEntries, List.isEmpty_iff_length_eq_zero]
  rfl

/-- Which entries a cancel takes, by its selector and the value behind it. -/
theorem cancelChange_eq (p : List Byte) (s : State) : cancelChange p s =
    if byteAt p 0 = 0 ∧ (∃ e ∈ s.queue, e.id = byteAt p 1) then s.cancelAnswer fun e => e.id == byteAt p 1
    else if byteAt p 0 = 1 ∧ byteAt p 1 = 0 then s.cancelAnswer fun e => e.timing == .a
    else if byteAt p 0 = 1 ∧ byteAt p 1 = 1 then s.cancelAnswer fun e => e.timing == .b
    else if byteAt p 0 = 2 then s.cancelAnswer fun _ => true
    else refuse .badValue s := by
  unfold cancelChange
  match byteAt p 0 with
  | 0 => simp
  | 1 =>
    match byteAt p 1 with
    | 0 | 1 | n + 2 => simp [laneOfByte]
  | 2 => simp
  | n + 3 => simp

/-! ## The quantize setting of a line (R82) -/

section
variable {p : List Byte} (s : State)

/-- The byte of a line counts from 1; the cue lines of the state count from 0. -/
theorem setCue_of_line (line : 1 ≤ byteAt p 0 ∧ byteAt p 0 ≤ 4) {q : Quantize} (hq : quantizeOf (byteAt p 1) = some q) :
    setCue p s = ({ s with cues := s.cues.set (byteAt p 0 - 1) ⟨q, (s.cues[byteAt p 0 - 1]).lastEdge⟩ },
      .okOr false []) := by
  have named : (if byteAt p 0 = 0 then none else indexOfByte 4 (byteAt p 0 - 1)) =
      some ⟨byteAt p 0 - 1, by omega⟩ := by
    rw [if_neg (by omega), indexOfByte, dif_pos (by omega)]
  simp only [setCue, named, hq]
  rfl

theorem setCue_of_unknown_line (line : ¬ (1 ≤ byteAt p 0 ∧ byteAt p 0 ≤ 4)) : setCue p s = refuse .badValue s := by
  have unnamed : (if byteAt p 0 = 0 then none else indexOfByte 4 (byteAt p 0 - 1)) = none := by
    rw [ite_eq_left_iff, indexOfByte]
    exact fun _ => dif_neg (by omega)
  simp only [setCue, unnamed]

theorem setCue_of_unknown_quantize (hq : quantizeOf (byteAt p 1) = none) : setCue p s = refuse .badValue s := by
  unfold setCue
  split
  next c q _ known => simp [hq] at known
  next => rfl

end

/-! ## The statement -/

theorem exec_cancelChange_of_requestAtHead {s : State} {tag : Byte} {p : List Byte} (h : RequestAtHead s 0x21 tag p)
    (hlen : p.length = 2) : exec .cancelChange s = .next
      (answered (cancelChange p s.takeHead).1 0x21 tag (cancelChange p s.takeHead).2.payload) :=
  congrArg _ (handle_anyPayload_of_requestAtHead cancelChange h hlen)

theorem exec_setCue_of_requestAtHead {s : State} {tag : Byte} {p : List Byte} (h : RequestAtHead s 0x2B tag p)
    (hlen : p.length = 2) : exec .setCue s = .next
      (answered (setCue p s.takeHead).1 0x2B tag (setCue p s.takeHead).2.payload) :=
  congrArg _ (handle_anyPayload_of_requestAtHead setCue h hlen)

/-- Settles O33: a cancel by its selector and the value behind it, and a cue setting by its line and quantize value. -/
theorem cancelChangeAndSetCue : Obligations.CancelChangeAndSetCue := by
  refine ⟨fun s tag p hreq hlen => ?cancel, fun s tag p hreq hlen => ?cue⟩
  case cancel =>
    intro cancel
    have taken (sel : Entry → Bool) : answered (s.takeHead.cancelAnswer sel).1 0x21 tag
        (s.takeHead.cancelAnswer sel).2.payload = cancel sel := by
      rw [State.cancelAnswer, cancelEntries_eq]
      rfl
    rw [exec_cancelChange_of_requestAtHead hreq hlen, cancelChange_eq, takeHead_queue]
    congr 1
    split_ifs
    case neg => rfl
    all_goals exact taken _
  case cue =>
    rw [exec_setCue_of_requestAtHead hreq hlen]
    congr 1
    split
    next q hq =>
      split
      next line =>
        rw [setCue_of_line s.takeHead line hq]
        rfl
      next line =>
        rw [setCue_of_unknown_line s.takeHead line]
        rfl
    next hq =>
      rw [setCue_of_unknown_quantize s.takeHead hq]
      rfl

end Sys2Proof.Machine

/-! Presets (R86 to R98) and the strobe (R88 to R93): what bars a recall and what a recall does, whether the host or the
strobe makes it; the writes of a record and of the strobe mode; the edge of the strobe and the levels of the select
lines. -/

namespace Sys2Proof.Machine

/-! ## The recall of a preset (R93 to R96, R98) -/

theorem isRunning_eq_false (l : Lane) : l.isRunning = false ↔ l.transport = .stopped := by
  cases h : l.transport <;> simp [Lane.isRunning, h]

theorem takeMode_eq_immediate (t : PresetTake) : t.takeMode = .immediate ↔ t = .immediate := by
  cases t <;> simp [PresetTake.takeMode]

/-- The take modes of a preset other than IMMEDIATE are boundary take modes (R69, R86). -/
theorem takeMode_isBoundary (t : PresetTake) : t.takeMode.isBoundary = true ↔ t ≠ .immediate := by
  cases t <;> simp [PresetTake.takeMode, TakeMode.isBoundary]

section
variable (s : State) (i : Fin 16) (x : LaneId)

/-- The tests of R93: those on the transport and on the queue are for boundary take modes alone. -/
theorem recallBar_eq : s.recallBar i x =
    if (s.lane x).source ≠ .free then some .sourceNotFree
    else if (s.preset i).take = .immediate then none
    else if (s.lane x).transport = .stopped then some .laneStopped
    else if 24 ≤ s.queue.length then some .queueFull
    else none := by
  simp only [State.recallBar, State.queueFull, queueCapacity, Bool.and_eq_true, Bool.not_eq_true', decide_eq_true_eq,
    isRunning_eq_false, takeMode_isBoundary, ne_eq, takeMode_eq_immediate]
  by_cases immediate : (s.preset i).take = .immediate <;> simp [immediate]

/-- An IMMEDIATE preset is a new target at once (R94). -/
theorem recall_of_immediate (cause : RecallCause) (free : (s.lane x).source = .free)
    (immediate : (s.preset i).take = .immediate) : s.recall i x cause =
      ((s.newTarget x (s.preset i).increment (s.preset i).glide).post
        (.presetTaken x i cause none (incrementToTempo (s.preset i).increment)), none) := by
  simp only [State.recall, immediate, applyTempo_of_free free]

/-- Any other preset is an entry due at the boundary of its take mode (R95). -/
theorem recall_of_boundary (cause : RecallCause) (boundary : (s.preset i).take ≠ .immediate) : s.recall i x cause =
      ((s.addEntry (.preset i) x (.beat ((s.preset i).take.takeMode.dueBeat (s.lane x)))
          (.tempo x (s.preset i).increment (s.preset i).glide)).post
        (.presetTaken x i cause (some s.nextId) (incrementToTempo (s.preset i).increment)), some s.nextId) := by
  cases take : (s.preset i).take with
  | immediate => exact absurd take boundary
  | nextBeat | nextBar | nextPhrase => simp only [State.recall, take]

end

/-! ## WRITE_PRESET (R87, R88) -/

section
variable {p : List Byte} (s : State)

theorem writePreset_of_legal (record : byteAt p 0 < 16) {take : PresetTake}
    (htake : presetTakeOf (byteAt p 5) = some take) {inc glide : Nat} (hinc : tempoToIncrement (fieldAt p 1 3) = inc)
    (hglide : clampGlide (byteAt p 4) = glide) :
    writePreset p s = ({ s with presets := s.presets.set (byteAt p 0) ⟨inc, glide, take⟩ },
      .okOr (tempoClamped (fieldAt p 1 3) || byteAt p 4 != glide)
        (bytesOf 5 inc ++ bytesOf 3 (incrementToTempo inc) ++ [BitVec.ofNat 8 glide])) := by
  simp only [writePreset, indexOfByte, dif_pos record, htake, hinc, hglide]
  rfl

theorem writePreset_of_unknown_record (record : ¬ byteAt p 0 < 16) : writePreset p s = refuse .badValue s := by
  simp only [writePreset, indexOfByte, dif_neg record]

theorem writePreset_of_unknown_take (htake : presetTakeOf (byteAt p 5) = none) :
    writePreset p s = refuse .badValue s := by
  unfold writePreset
  split
  next i take _ known => simp [htake] at known
  next => rfl

end

section
variable {s : State} {tag : Byte} {p : List Byte}

/-- A target other than STROBE is the record's row (log 2). -/
theorem exec_writePreset_of_requestAtHead (h : RequestAtHead s 0x28 tag p) (hlen : p.length = 6)
    (target : byteAt p 0 ≠ 0x80) : exec .writePreset s = .next
      (answered (writePreset p s.takeHead).1 0x28 tag (writePreset p s.takeHead).2.payload) := by
  have mine : isPresetWrite p = true := by simp [isPresetWrite, isStrobeWrite, target]
  have handled := handle_of_requestAtHead 6 writePreset h mine
  rw [if_pos hlen] at handled
  exact congrArg _ handled

/-- The target STROBE is a row of its own (log 2). -/
theorem exec_writePresetStrobe_of_requestAtHead (h : RequestAtHead s 0x28 tag p) (hlen : p.length = 6)
    (target : byteAt p 0 = 0x80) : exec .writePresetStrobe s = .next
      (answered (writeStrobe p s.takeHead).1 0x28 tag (writeStrobe p s.takeHead).2.payload) := by
  have mine : isStrobeWrite p = true := by simp [isStrobeWrite, hlen, target]
  have handled := handle_of_requestAtHead 6 writeStrobe h mine
  rw [if_pos hlen] at handled
  exact congrArg _ handled

/-! ## APPLY_PRESET (R98) -/

theorem exec_applyPreset_of_requestAtHead (h : RequestAtHead s 0x2A tag p) (hlen : p.length = 2) :
    exec .applyPreset s = .next
      (answered (applyPreset p s.takeHead).1 0x2A tag (applyPreset p s.takeHead).2.payload) :=
  congrArg _ (handle_anyPayload_of_requestAtHead applyPreset h hlen)

end

section
variable {p : List Byte} (s : State)

/-- A recall of the host: each bar is a refusal; past them the reply carries the entry made, if any. -/
theorem applyPreset_of_legal {i : Fin 16} {x : LaneId} (hi : indexOfByte 16 (byteAt p 0) = some i)
    (hx : laneOfByte (byteAt p 1) = some x) : applyPreset p s =
    if (s.lane x).source ≠ .free then refuse .wrongState s
    else if (s.preset i).take = .immediate then
      ((s.newTarget x (s.preset i).increment (s.preset i).glide).post
        (.presetTaken x i .host none (incrementToTempo (s.preset i).increment)), .okOr false (entryField none))
    else if (s.lane x).transport = .stopped then refuse .wrongState s
    else if 24 ≤ s.queue.length then refuse .queueFull s
    else ((s.addEntry (.preset i) x (.beat ((s.preset i).take.takeMode.dueBeat (s.lane x)))
          (.tempo x (s.preset i).increment (s.preset i).glide)).post
        (.presetTaken x i .host (some s.nextId) (incrementToTempo (s.preset i).increment)),
      .okOr false (entryField (some s.nextId))) := by
  simp only [applyPreset, hi, hx, recallBar_eq]
  split_ifs with other immediate stopped full
  · rfl
  · simp only [recall_of_immediate s i x .host (not_not.1 other) immediate]
  · rfl
  · rfl
  · simp only [recall_of_boundary s i x .host immediate]

theorem applyPreset_of_illegal (illegal : ∀ i x, indexOfByte 16 (byteAt p 0) = some i →
    laneOfByte (byteAt p 1) = some x → False) : applyPreset p s = refuse .badValue s := by
  unfold applyPreset
  split
  next i x hi hx => exact (illegal i x hi hx).elim
  next => rfl

end

/-- Settles O34: the writes by their target and take mode; the request of a recall by the tests that bar it. -/
theorem presetRequests : Obligations.PresetRequests := by
  refine ⟨fun s tag p hreq hlen => ⟨fun target => ?record, fun target => ?strobe⟩,
    fun s tag p hreq hlen => ?apply⟩
  case record =>
    rw [exec_writePreset_of_requestAtHead hreq hlen target]
    congr 1
    split
    next take htake =>
      split
      next record =>
        rw [writePreset_of_legal s.takeHead record htake (tempoToIncrement_eq _) rfl]
        simp only [okOr_payload, setTempo_clamped_iff]
        rfl
      next record =>
        rw [writePreset_of_unknown_record s.takeHead record]
        rfl
    next htake =>
      rw [writePreset_of_unknown_take s.takeHead htake]
      rfl
  case strobe =>
    rw [exec_writePresetStrobe_of_requestAtHead hreq hlen target, writeStrobe]
    congr 1
    cases strobeModeOf (byteAt p 5) <;> rfl
  case apply =>
    rw [exec_applyPreset_of_requestAtHead hreq hlen]
    congr 1
    split
    next i x hi hx =>
      rw [applyPreset_of_legal s.takeHead hi hx, takeHead_lane, takeHead_preset, takeHead_queue, takeHead_nextId]
      dsimp only
      split_ifs <;> rfl
    next illegal =>
      rw [applyPreset_of_illegal s.takeHead illegal]
      rfl

/-! ## The strobe (R90 to R93) -/

theorem edgeTaken_eq_true {debounce now : Nat} {last : Option Nat} :
    edgeTaken debounce now last = true ↔ ∀ t, last = some t → debounce ≤ since now t := by
  cases last <;> simp [edgeTaken]

section
variable {s : State}

theorem exec_strobeEdge_of_running (running : s.mode = .running) : exec .strobeEdge s = .next s.strobeEdge :=
  congrArg Host.Outcome.next (if_pos (live_eq_true.2 running))

theorem strobeEdge_of_bounce {last : Nat} (h : s.strobe.lastEdge = some last) (short : since s.clock last < 1920) :
    s.strobeEdge = s := by
  have untaken : ¬ edgeTaken strobeDebounce s.clock s.strobe.lastEdge = true :=
    fun taken => absurd (edgeTaken_eq_true.1 taken last h) (Nat.not_le.2 short)
  exact if_neg untaken

/-- A taken edge samples the selection, and the recalls of the strobe mode's lanes follow in their order. -/
theorem strobeEdge_of_taken (h : ∀ last, s.strobe.lastEdge = some last → 1920 ≤ since s.clock last) :
    s.strobeEdge = (s.strobe.mode.lanes s.pins.lsel).foldl (fun t x => t.strobeRecall s.pins.sel.toFin x)
      { s with strobe := ⟨s.strobe.mode, some s.clock, some (s.pins.sel.toFin, s.pins.lsel)⟩ } :=
  if_pos (edgeTaken_eq_true.2 h)

end

/-- A recall of the strobe (R93, R97): each bar has its own notice or flag. -/
theorem strobeRecall_eq (s : State) (i : Fin 16) (x : LaneId) : s.strobeRecall i x =
    if (s.lane x).source ≠ .free then s.post (.presetIgnored x i .strobe .sourceNotFree)
    else if (s.preset i).take = .immediate then
      (s.newTarget x (s.preset i).increment (s.preset i).glide).post
        (.presetTaken x i .strobe none (incrementToTempo (s.preset i).increment))
    else if (s.lane x).transport = .stopped then s.post (.presetIgnored x i .strobe .laneStopped)
    else if 24 ≤ s.queue.length then s.modSticky fun f => { f with strobeDropped := true }
    else (s.addEntry (.preset i) x (.beat ((s.preset i).take.takeMode.dueBeat (s.lane x)))
        (.tempo x (s.preset i).increment (s.preset i).glide)).post
      (.presetTaken x i .strobe (some s.nextId) (incrementToTempo (s.preset i).increment)) := by
  rw [State.strobeRecall, recallBar_eq]
  split_ifs with other immediate stopped full
  · rfl
  · simp only [recall_of_immediate s i x .strobe (not_not.1 other) immediate]
  · rfl
  · rfl
  · simp only [recall_of_boundary s i x .strobe immediate]

/-! ## The select lines (R91) -/

/-- The select lines with one of them at a new level: every other line keeps its level. -/
theorem getLsbD_select (sel : BitVec 4) (high : Bool) (i : Nat) (j : Fin 4) :
    (if high = true then sel ||| BitVec.ofNat 4 (2 ^ i) else sel &&& ~~~BitVec.ofNat 4 (2 ^ i)).getLsbD j =
      if i = j then high else sel.getLsbD j := by
  have line : (BitVec.ofNat 4 (2 ^ i)).getLsbD j = decide (i = j) := by
    rw [BitVec.getLsbD_ofNat, Nat.testBit_two_pow, decide_eq_true j.isLt, Bool.true_and]
  cases high with
  | true =>
    rw [if_pos rfl, BitVec.getLsbD_or, line]
    by_cases same : i = j <;> simp [same]
  | false =>
    rw [if_neg Bool.false_ne_true, BitVec.getLsbD_and, BitVec.getLsbD_not, line, decide_eq_true j.isLt, Bool.true_and]
    by_cases same : i = j <;> simp [same]

theorem setLine_levels (p : SelectPins) (l : SelectLine) (high : Bool) :
    ((p.setLine l high).sel.getLsbD 0 = if l = .sel0 then high else p.sel.getLsbD 0) ∧
    ((p.setLine l high).sel.getLsbD 1 = if l = .sel1 then high else p.sel.getLsbD 1) ∧
    ((p.setLine l high).sel.getLsbD 2 = if l = .sel2 then high else p.sel.getLsbD 2) ∧
    ((p.setLine l high).sel.getLsbD 3 = if l = .sel3 then high else p.sel.getLsbD 3) ∧
    ((p.setLine l high).lsel = if l = .lsel then high else p.lsel) := by
  have written := getLsbD_select p.sel high
  cases l with
  | sel0 => exact ⟨written 0 0, written 0 1, written 0 2, written 0 3, rfl⟩
  | sel1 => exact ⟨written 1 0, written 1 1, written 1 2, written 1 3, rfl⟩
  | sel2 => exact ⟨written 2 0, written 2 1, written 2 2, written 2 3, rfl⟩
  | sel3 => exact ⟨written 3 0, written 3 1, written 3 2, written 3 3, rfl⟩
  | lsel => exact ⟨rfl, rfl, rfl, rfl, rfl⟩

/-- Settles O36: the edge by the debounce test and the lanes of the strobe mode, each recall by the tests that bar it,
and a select line by its own level. -/
theorem strobeEdgeRecallsPreset : Obligations.StrobeEdgeRecallsPreset := by
  refine fun s => ⟨fun last running hlast short => ?bounce, fun running far => ?taken, strobeRecall_eq s,
    fun l high => ⟨s.pins.setLine l high, rfl, setLine_levels s.pins l high⟩⟩
  case bounce => rw [exec_strobeEdge_of_running running, strobeEdge_of_bounce hlast short]
  case taken =>
    rw [exec_strobeEdge_of_running running, strobeEdge_of_taken far]
    cases s.strobe.mode <;> rfl

end Sys2Proof.Machine

/-! SET_NOTICE_MASK (R190) and the posting of a notice (R189): the mask bits that name no enable, the enable of each
notice kind (section 11.6), and the three outcomes of a posting. -/

namespace Sys2Proof.Machine

/-! ## The mask bits that name no enable (R190, section 11.6) -/

/-- The constant of the mask test holds bit 0 and bits 22 to 31. -/
theorem getLsbD_unnamedBits : ∀ k : Fin 32, (0xFFC00001#32).getLsbD k = decide (k.val = 0 ∨ 22 ≤ k.val) := by decide

theorem maskValid_iff (mask : BitVec 32) :
    maskValid mask = true ↔ ¬ ∃ k : Fin 32, mask.getLsbD k = true ∧ (k.val = 0 ∨ 22 ≤ k.val) := by
  have shared (k : Fin 32) : (mask &&& 0xFFC00001#32).getLsbD k =
      (mask.getLsbD k && decide (k.val = 0 ∨ 22 ≤ k.val)) := by
    rw [BitVec.getLsbD_and, getLsbD_unnamedBits]
  rw [maskValid, beq_iff_eq]
  constructor
  · rintro disjoint ⟨k, set, unnamed⟩
    have clear := shared k
    rw [disjoint, set, decide_eq_true unnamed] at clear
    exact absurd clear (by simp)
  · intro named
    refine BitVec.eq_of_getLsbD_eq fun i hi => (shared ⟨i, hi⟩).trans ?_
    rw [← Bool.decide_coe (mask.getLsbD _), ← Bool.decide_and]
    exact (decide_eq_false fun unnamed => named ⟨⟨i, hi⟩, unnamed⟩).trans BitVec.getLsbD_zero.symm

/-! ## SET_NOTICE_MASK (R190) -/

theorem setNoticeMask_eq (p : List Byte) (s : State) : setNoticeMask p s =
    if ∃ k : Fin 32, (BitVec.ofNat 32 (fieldAt p 0 4)).getLsbD k = true ∧ (k.val = 0 ∨ 22 ≤ k.val) then
      refuse .badValue s
    else ({ s with link := { s.link with mask := BitVec.ofNat 32 (fieldAt p 0 4) } },
      .okOr false (bytesOf 4 (BitVec.ofNat 32 (fieldAt p 0 4)).toNat)) := by
  simp only [setNoticeMask, maskValid_iff, ite_not]
  rfl

theorem exec_setNoticeMask_of_requestAtHead {s : State} {tag : Byte} {p : List Byte} (h : RequestAtHead s 0x04 tag p)
    (hlen : p.length = 4) : exec .setNoticeMask s = .next
      (answered (setNoticeMask p s.takeHead).1 0x04 tag (setNoticeMask p s.takeHead).2.payload) :=
  congrArg _ (handle_anyPayload_of_requestAtHead setNoticeMask h hlen)

/-! ## The enable of a notice (R190, section 11.6) -/

theorem enabledBy_of_maskBit_none {n : NoticeBody} (mask : BitVec 32) (h : n.maskBit = none) :
    enabledBy mask n = true := by
  rw [enabledBy, h]

theorem enabledBy_of_maskBit_some {n : NoticeBody} (mask : BitVec 32) {k : Nat} (h : n.maskBit = some k) :
    enabledBy mask n = mask.getLsbD k := by
  rw [enabledBy, h]

/-- READY alone has no enable (R190). -/
theorem maskBit_eq_none_iff (n : NoticeBody) : n.maskBit = none ↔ ∃ cause rate, n = .ready cause rate := by
  cases n with
  | ready cause rate => exact ⟨fun _ => ⟨cause, rate, rfl⟩, fun _ => rfl⟩
  | bar x | phrase x => cases x <;> simp [NoticeBody.maskBit]
  | _ => simp [NoticeBody.maskBit]

/-- The enables that a reset leaves set (R190): those of kinds 1 to 9 and 12 to 19. -/
theorem getLsbD_resetMask (k : Nat) : resetMask.getLsbD k = decide (1 ≤ k ∧ k ≤ 9 ∨ 12 ≤ k ∧ k ≤ 19) := by
  have inside : ∀ i : Fin 32, resetMask.getLsbD i = decide (1 ≤ i.val ∧ i.val ≤ 9 ∨ 12 ≤ i.val ∧ i.val ≤ 19) := by
    decide
  by_cases bound : k < 32
  · exact inside ⟨k, bound⟩
  · rw [BitVec.getLsbD_of_ge _ _ (Nat.not_lt.1 bound), decide_eq_false (by omega)]

theorem enabledBy_resetMask (n : NoticeBody) :
    enabledBy resetMask n = n.maskBit.all fun k => decide (1 ≤ k ∧ k ≤ 9 ∨ 12 ≤ k ∧ k ≤ 19) := by
  cases enable : n.maskBit with
  | none => exact enabledBy_of_maskBit_none resetMask enable
  | some k => exact (enabledBy_of_maskBit_some resetMask enable).trans (getLsbD_resetMask k)

/-! ## Posting (R189) -/

section
variable {s : State} {n : NoticeBody}

theorem post_of_masked (masked : enabledBy s.link.mask n = false) : s.post n = s := by
  rw [State.post, masked]
  rfl

theorem post_of_enabled (enabled : enabledBy s.link.mask n = true) : s.post n =
    if s.link.notices.length < 32 then { s with link := { s.link with notices := s.link.notices ++ [⟨n, s.stepTime⟩] } }
    else { s with link := { s.link with sticky := { s.link.sticky with noticeOverflow := true } } } := by
  rw [State.post, enabled]
  rfl

end

/-- Settles O24: a mask by the bits that name no enable; a posting by the enable of its kind and the room in the
queue; the enables and the mask after a reset by the kind of the notice. -/
theorem noticeMaskAndPosting : Obligations.NoticeMaskAndPosting := by
  refine ⟨fun s tag p hreq hlen => ?setMask, fun s n => ⟨post_of_masked, fun enabled room => ?room,
    fun enabled full => ?full, fun _ _ => enabledBy_of_maskBit_none _ rfl,
    ⟨?bit, fun k hk => enabledBy_of_maskBit_some _ (Eq.trans ?bit hk)⟩, maskBit_eq_none_iff n, fun rate => ?reset⟩⟩
  case setMask =>
    rw [exec_setNoticeMask_of_requestAtHead hreq hlen, setNoticeMask_eq]
    dsimp only
    split_ifs <;> rfl
  case room => rw [post_of_enabled enabled, if_pos room]
  case full => rw [post_of_enabled enabled, if_neg (Nat.not_lt.2 full)]
  case bit =>
    cases n with
    | bar x | phrase x => cases x <;> rfl
    | _ => rfl
  case reset =>
    refine (enabledBy_resetMask n).trans ?_
    cases n with
    | bar x | phrase x => cases x <;> rfl
    | _ => rfl

end Sys2Proof.Machine

/-! What every operation of the blocks keeps: the time and the waiting commands, the queues of the host link that it
does not serve, and the bounds and ranges of R4, R19, R62, R70, R72, R102, R123 and R189. One relation carries them all,
so that each operation of the model is walked through once. -/

namespace Sys2Proof.Machine

/-! ## The relation -/

/-- The bounds and ranges that an operation of the blocks keeps whatever the running states of the channels. -/
inductive Bound where
  | queue
  | notices
  | fifos
  | following
  | meters
  | tempos

/-- The state meets the bound. -/
def State.meets (s : State) : Bound → Prop
  | .queue => s.queueBounded ∧ s.idsDistinct
  | .notices => s.link.notices.length ≤ 32
  | .fifos => s.fifosBounded
  | .following => s.noMutualFollowing
  | .meters => s.metersLegal
  | .tempos => s.temposLegal

/-- From `s` to `t` no phase step passes: the time, the mode, the select lines and the host line rate stand. -/
structure Stays (s t : State) : Prop where
  clock : t.clock = s.clock
  mode : t.mode = s.mode
  pins : t.pins = s.pins
  rate : t.link.rate = s.link.rate

/-- From `s` to `t` no phase step passes, the waiting commands, the requests and the replies stand, and every bound is
kept. -/
structure Frames (s t : State) : Prop extends Stays s t where
  pending : t.pending = s.pending
  requests : t.link.requests = s.link.requests
  replies : t.link.replies = s.link.replies
  handled : t.link.handled = s.link.handled
  bounds : ∀ b, s.meets b → t.meets b

/-- An operation that keeps the running states of R102 too. -/
structure Works (s t : State) : Prop extends Frames s t where
  running : s.runningAgrees → t.runningAgrees

theorem Stays.refl (s : State) : Stays s s := ⟨rfl, rfl, rfl, rfl⟩

theorem Stays.trans {s t u : State} (h : Stays s t) (g : Stays t u) : Stays s u :=
  ⟨g.clock.trans h.clock, g.mode.trans h.mode, g.pins.trans h.pins, g.rate.trans h.rate⟩

theorem Frames.refl (s : State) : Frames s s := ⟨.refl s, rfl, rfl, rfl, rfl, fun _ => id⟩

theorem Frames.trans {s t u : State} (h : Frames s t) (g : Frames t u) : Frames s u :=
  ⟨h.toStays.trans g.toStays, g.pending.trans h.pending, g.requests.trans h.requests, g.replies.trans h.replies,
    g.handled.trans h.handled, fun b => g.bounds b ∘ h.bounds b⟩

theorem Works.refl (s : State) : Works s s := ⟨.refl s, id⟩

theorem Works.trans {s t u : State} (h : Works s t) (g : Works t u) : Works s u :=
  ⟨h.toFrames.trans g.toFrames, g.running ∘ h.running⟩

theorem Works.ite {s t u : State} {p : Prop} [Decidable p] (h : p → Works s t) (g : ¬ p → Works s u) :
    Works s (if p then t else u) := by
  split
  · exact h ‹_›
  · exact g ‹_›

theorem Frames.foldl {α : Type} {f : State → α → State} (l : List α) (h : ∀ t a, a ∈ l → Frames t (f t a)) (s : State) :
    Frames s (l.foldl f s) :=
  foldl_keeps (P := Frames s) s l (fun t a ha ht => ht.trans (h t a ha)) (.refl s)

theorem Works.foldl {α : Type} {f : State → α → State} (l : List α) (h : ∀ t a, a ∈ l → Works t (f t a)) (s : State) :
    Works s (l.foldl f s) :=
  foldl_keeps (P := Works s) s l (fun t a ha ht => ht.trans (h t a ha)) (.refl s)

theorem Works.forChannels {f : Fin 16 → State → State} (h : ∀ n t, Works t (f n t)) (s : State) :
    Works s (s.forChannels f) :=
  forChannels_keeps (P := Works s) s (fun n t ht => ht.trans (h n t)) (.refl s)

/-! ## Fields that no bound is about -/

section
variable (s : State)

@[simp] theorem modLink_lane (f : Link → Link) (x : LaneId) : (s.modLink f).lane x = s.lane x := by cases x <;> rfl

/-- A change of the host link that leaves its queues alone. -/
theorem works_modLink {f : Link → Link} (requests : (f s.link).requests = s.link.requests)
    (replies : (f s.link).replies = s.link.replies)
    (notices : s.link.notices.length ≤ 32 → (f s.link).notices.length ≤ 32)
    (handled : (f s.link).handled = s.link.handled := by exact rfl)
    (rate : (f s.link).rate = s.link.rate := by exact rfl) : Works s (s.modLink f) :=
  ⟨⟨⟨rfl, rfl, rfl, rate⟩, rfl, requests, replies, handled, fun b => match b with
    | .notices => notices
    | .queue | .fifos | .following | .meters | .tempos => id⟩, id⟩

theorem works_modSticky (f : StickyFlags → StickyFlags) : Works s (s.modSticky f) := works_modLink s rfl rfl id

theorem works_modBus (f : Bus → Bus) : Works s (s.modBus f) :=
  ⟨⟨⟨rfl, rfl, rfl, rfl⟩, rfl, rfl, rfl, rfl, fun b => by cases b <;> exact id⟩, id⟩

theorem works_setBrk (r : Fin 4) (b : Option BreakRecord) : Works s (s.setBrk r b) :=
  ⟨⟨⟨rfl, rfl, rfl, rfl⟩, rfl, rfl, rfl, rfl, fun b => by cases b <;> exact id⟩, id⟩

theorem works_modBrk (r : Fin 4) (f : BreakRecord → BreakRecord) : Works s (s.modBrk r f) := works_setBrk s r _

theorem works_setHo (r : Fin 4) (h : Option HandoverRecord) : Works s (s.setHo r h) :=
  ⟨⟨⟨rfl, rfl, rfl, rfl⟩, rfl, rfl, rfl, rfl, fun b => by cases b <;> exact id⟩, id⟩

theorem works_known (k : List KnownBoundary) : Works s { s with known := k } :=
  ⟨⟨⟨rfl, rfl, rfl, rfl⟩, rfl, rfl, rfl, rfl, fun b => by cases b <;> exact id⟩, id⟩

theorem works_post (n : NoticeBody) : Works s (s.post n) := by
  unfold State.post
  split
  · exact .refl s
  · split
    · exact works_modLink s rfl rfl fun _ => by simpa using ‹s.link.notices.length < 32›
    · exact works_modLink s rfl rfl id

theorem works_postApplied (e : Entry) (applied : Bool) : Works s (s.postApplied e applied) := works_post s _

end

/-! ## The pending-change queue -/

section
variable (s : State)

/-- A change of the queue: its ids are as R70 and R72 say, and it carries no change that was not waiting. -/
theorem works_withQueue {q : List Entry} (c : Nat) (g : BitVec 16)
    (ids : s.queueBounded → s.idsDistinct → q.length ≤ 24 ∧ (q.map (·.id)).Nodup ∧ ∀ e ∈ q, e.id < 256)
    (meters : s.metersLegal → ∀ e ∈ q, e.change.meterLegal) (tempos : s.temposLegal → ∀ e ∈ q, e.change.tempoLegal) :
    Works s { s with queue := q, idCounter := c, generation := g } :=
  ⟨⟨⟨rfl, rfl, rfl, rfl⟩, rfl, rfl, rfl, rfl, fun b => match b with
    | .queue => fun ⟨bounded, distinct⟩ => ids bounded distinct
    | .meters => fun h => ⟨h.1, h.2.1, meters h⟩
    | .tempos => fun h =>
      have ⟨a, b, tap, ref, bus, presets, _⟩ := h
      ⟨a, b, tap, ref, bus, presets, tempos h⟩
    | .notices | .fifos | .following => id⟩, id⟩

/-- Entries that leave the queue take nothing else with them. -/
theorem works_sublist {q : List Entry} (c : Nat) (g : BitVec 16) (h : q.Sublist s.queue) :
    Works s { s with queue := q, idCounter := c, generation := g } :=
  works_withQueue s c g
    (fun bounded distinct => ⟨h.length_le.trans bounded, (h.map _).nodup distinct.1, fun e he => distinct.2 e (h.subset he)⟩)
    (fun legal e he => legal.2.2 e (h.subset he))
    (fun ⟨_, _, _, _, _, _, legal⟩ e he => legal e (h.subset he))

/-- Entries changed in their due points and timing lanes alone. -/
theorem works_mapQueue (c : Nat) (g : BitVec 16) {f : Entry → Entry} (h : ∀ e, (f e).id = e.id ∧ (f e).change = e.change) :
    Works s { s with queue := s.queue.map f, idCounter := c, generation := g } := by
  have all {p : Entry → Prop} (hp : ∀ e ∈ s.queue, p (f e)) : ∀ e ∈ s.queue.map f, p e := fun e he => by
    obtain ⟨d, hd, rfl⟩ := List.mem_map.1 he
    exact hp d hd
  refine works_withQueue s c g (fun bounded distinct => ⟨by simpa [State.queueBounded] using bounded, ?_, all ?_⟩)
    (fun legal => all ?_) fun ⟨_, _, _, _, _, _, legal⟩ => all ?_
  · have same : (s.queue.map f).map (·.id) = s.queue.map (·.id) := by
      rw [List.map_map]
      exact List.map_congr_left fun e _ => (h e).1
    exact same ▸ distinct.1
  · exact fun e he => (h e).1 ▸ distinct.2 e he
  · exact fun e he => (h e).2 ▸ legal.2.2 e he
  · exact fun e he => (h e).2 ▸ legal e he

theorem works_bumpGeneration : Works s s.bumpGeneration := works_sublist s _ _ (List.Sublist.refl _)

theorem works_removeEntry (id : Nat) : Works s (s.removeEntry id) := works_sublist s _ _ List.filter_sublist

theorem works_retime (id : Nat) (x : LaneId) (d : Due) : Works s (s.retime id x d) :=
  works_mapQueue s _ _ fun e => by split <;> exact ⟨rfl, rfl⟩

theorem works_ripenJoins (x : LaneId) : Works s (s.ripenJoins x) :=
  works_mapQueue s _ _ fun e => by split <;> exact ⟨rfl, rfl⟩

theorem works_cancelEntries (p : Entry → Bool) : Works s (s.cancelEntries p) :=
  .ite (fun _ => .refl s) fun _ => works_sublist s _ _ List.filter_sublist

theorem works_discardTimed (x : LaneId) : Works s (s.discardTimed x) :=
  .ite (fun _ => .refl s) fun _ => (works_sublist s _ _ List.filter_sublist).trans (works_post _ _)

/-- An entry made where the queue has room takes an id that no other entry holds (R70). -/
theorem works_addEntry (m : Maker) (x : LaneId) (d : Due) {c : Change} (room : s.queueFull = false)
    (meter : c.meterLegal) (tempo : s.temposLegal → c.tempoLegal) : Works s (s.addEntry m x d c) := by
  have last {p : Entry → Prop} (hq : ∀ e ∈ s.queue, p e) (hp : p ⟨s.nextId, m, x, d, c⟩) :
      ∀ e ∈ s.queue ++ [⟨s.nextId, m, x, d, c⟩], p e := by
    simpa [or_imp, forall_and] using ⟨hq, hp⟩
  have short : s.queue.length < 24 := by simpa [State.queueFull] using room
  refine works_withQueue s _ _ (fun _ distinct => ⟨by simpa using short, ?_, last distinct.2 (nextId_lt s)⟩)
    (fun legal => last legal.2.2 meter) fun legal => last legal.2.2.2.2.2.2 (tempo legal)
  have fresh : s.nextId ∉ s.queue.map (·.id) := nextId_fresh s (by omega)
  rw [List.map_append, List.nodup_append]
  exact ⟨distinct.1, by simp, by simpa using fresh⟩

end

/-! ## Lanes -/

section
variable (s : State)

@[simp] theorem lane_setChan (n : Fin 16) (c : Channel) (x : LaneId) : (s.setChan n c).lane x = s.lane x := by
  cases x <;> rfl

theorem runningAgrees_of_transports {s t : State} (channels : t.channels = s.channels)
    (transports : ∀ x, (t.lane x).transport = (s.lane x).transport) (h : s.runningAgrees) : t.runningAgrees := by
  intro n
  have agrees := h n
  simp only [State.laneOf, Lane.isRunning, chan_eq_of_channels channels] at agrees ⊢
  rw [transports, agrees]

theorem noMutualFollowing_iff (x : LaneId) :
    s.noMutualFollowing ↔ ¬ ((s.lane x).source = .lane ∧ (s.lane (otherLane x)).source = .lane) := by
  cases x
  · exact Iff.rfl
  · exact not_congr and_comm

theorem metersLegal_iff (x : LaneId) : s.metersLegal ↔ (s.lane x).countersLegal ∧ (s.lane (otherLane x)).countersLegal ∧
    ∀ e ∈ s.queue, e.change.meterLegal := by
  cases x
  · exact Iff.rfl
  · exact and_left_comm

theorem tempoLegal_lane {s : State} (h : s.temposLegal) (x : LaneId) : (s.lane x).tempoLegal := by
  cases x
  · exact h.1
  · exact h.2.1

theorem countersLegal_lane {s : State} (h : s.metersLegal) (x : LaneId) : (s.lane x).countersLegal :=
  ((metersLegal_iff s x).1 h).1

/-- A lane's record changed: a source LANE only where the other lane has another one, and a legal meter and tempo. What
makes them legal may stand in the earlier state `s₀`. -/
theorem Frames.setLane {s₀ s : State} {x : LaneId} {l : Lane} (h : Frames s₀ s)
    (source : s.noMutualFollowing → l.source = .lane → (s.lane (otherLane x)).source ≠ .lane)
    (meter : s₀.metersLegal → s.metersLegal → l.countersLegal)
    (tempo : s₀.temposLegal → s.temposLegal → l.tempoLegal) : Frames s₀ (s.setLane x l) := by
  refine ⟨⟨by simpa using h.clock, by simpa using h.mode, by simpa using h.pins, by simpa using h.rate⟩,
    by simpa using h.pending, by simpa using h.requests, by simpa using h.replies, by simpa using h.handled,
    fun b before => ?_⟩
  have met := h.bounds b before
  cases b with
  | queue => simpa [State.meets, State.queueBounded, State.idsDistinct] using met
  | notices => simpa [State.meets] using met
  | fifos => simpa [State.meets, State.fifosBounded, State.chan] using met
  | following => exact (noMutualFollowing_iff _ x).2 (by simpa using source met)
  | meters => exact (metersLegal_iff _ x).2 (by simpa using ⟨meter before met, ((metersLegal_iff s x).1 met).2⟩)
  | tempos =>
    have legal := tempo before met
    obtain ⟨a, b, rest⟩ := met
    cases x with
    | a => exact ⟨legal, b, rest⟩
    | b => exact ⟨a, legal, rest⟩

/-- A lane's record changed without its transport. -/
theorem Works.setLaneSource {s₀ s : State} {x : LaneId} {l : Lane} (h : Works s₀ s)
    (source : s.noMutualFollowing → l.source = .lane → (s.lane (otherLane x)).source ≠ .lane)
    (tempo : s₀.temposLegal → (s.lane x).tempoLegal → l.tempoLegal)
    (transport : l.transport = (s.lane x).transport := by exact rfl)
    (meter : s₀.metersLegal → (s.lane x).countersLegal → l.countersLegal := by exact fun _ => id) :
    Works s₀ (s.setLane x l) where
  toFrames := h.toFrames.setLane source (fun before met => meter before (countersLegal_lane met x))
    fun before met => tempo before (tempoLegal_lane met x)
  running before := runningAgrees_of_transports (by simp) (fun y => by
    rw [lane_setLane]
    split
    · next same => rw [same, transport]
    · rfl) (h.running before)

/-- A lane's record changed without its transport and its source. -/
theorem Works.setLane {s₀ s : State} {x : LaneId} {l : Lane} (h : Works s₀ s)
    (tempo : s₀.temposLegal → (s.lane x).tempoLegal → l.tempoLegal)
    (transport : l.transport = (s.lane x).transport := by exact rfl)
    (source : l.source = (s.lane x).source := by exact rfl)
    (meter : s₀.metersLegal → (s.lane x).countersLegal → l.countersLegal := by exact fun _ => id) :
    Works s₀ (s.setLane x l) :=
  h.setLaneSource (fun apart hl other => (noMutualFollowing_iff s x).1 apart ⟨source ▸ hl, other⟩) tempo transport meter

/-- The record `l'` has the transport, the source, the meter and the tempo of `l`, or legal ones in their place. -/
def Lane.Keeps (l l' : Lane) : Prop :=
  l'.transport = l.transport ∧ l'.source = l.source ∧ (l.countersLegal → l'.countersLegal) ∧
    (l.tempoLegal → l'.tempoLegal)

theorem works_modLane {x : LaneId} {f : Lane → Lane}
    (h : (s.lane x).Keeps (f (s.lane x)) := by exact ⟨rfl, rfl, id, id⟩) : Works s (s.modLane x f) :=
  have ⟨transport, source, meter, tempo⟩ := h
  (Works.refl s).setLane (fun _ => tempo) transport source fun _ => meter

end

/-! ## Channels -/

section
variable (s : State)

/-- The running state of the record `c` is the one of R102. -/
def State.agreesWith (s : State) (c : Channel) : Prop := c.running = (c.cfg.enabled && (s.lane c.cfg.lane).isRunning)

theorem frames_setChan {n : Fin 16} {c : Channel} (fifo : (s.chan n).fifo.length ≤ 8 → c.fifo.length ≤ 8) :
    Frames s (s.setChan n c) :=
  ⟨⟨rfl, rfl, rfl, rfl⟩, rfl, rfl, rfl, rfl, fun b => match b with
    | .fifos => fun h m => by
      rw [chan_setChan]
      split
      · exact fifo (h n)
      · exact h m
    | .queue | .notices | .following | .meters | .tempos => id⟩

theorem works_setChan {n : Fin 16} {c : Channel} (fifo : (s.chan n).fifo.length ≤ 8 → c.fifo.length ≤ 8)
    (running : s.agreesWith (s.chan n) → s.agreesWith c) : Works s (s.setChan n c) where
  toFrames := frames_setChan s fifo
  running h m := by
    have agrees : s.agreesWith ((s.setChan n c).chan m) := by
      rw [chan_setChan]
      split
      · exact running (h n)
      · exact h m
    simpa only [State.agreesWith, State.laneOf, lane_setChan] using agrees

/-- A channel's record changed without its configuration, its running state and more in its FIFO. -/
theorem works_modChan {n : Fin 16} {f : Channel → Channel} (cfg : (f (s.chan n)).cfg = (s.chan n).cfg)
    (running : (f (s.chan n)).running = (s.chan n).running)
    (fifo : (f (s.chan n)).fifo.length ≤ (s.chan n).fifo.length) : Works s (s.modChan n f) :=
  works_setChan s (fun h => fifo.trans h) fun h => by rw [State.agreesWith, cfg, running]; exact h

end

end Sys2Proof.Machine

/-! What the operations of lanes, sources, breaks, handovers and channels keep. -/

namespace Sys2Proof.Machine

section
variable (s : State)

/-! ## Following (chapter 3) -/

theorem works_setResidual (x : LaneId) (r : Int) (reduction : Bool) : Works s (s.setResidual x r reduction) :=
  (works_modLane s).trans (.ite (fun _ => works_post _ _) fun _ => .refl _)

theorem works_rangeResidual (x : LaneId) : Works s (s.rangeResidual x) :=
  .ite (fun _ => .refl s) fun _ => works_setResidual s x _ _

theorem works_reduce (x : LaneId) : Works s (s.reduce x) := by
  unfold State.reduce
  split
  · exact .refl s
  · exact (works_modLane s).trans (works_setResidual _ x _ _)

/-- What a source supplies as its tempo is in the range of R4. -/
theorem incLegal_sourceEstimate {s : State} (h : s.temposLegal) {x : LaneId} {i : Nat}
    (hi : s.sourceEstimate x = some i) : incLegal i := by
  obtain ⟨a, b, tap, ref, bus, _⟩ := id h
  have of_opt {o : Option Nat} (legal : optIncLegal o) (ho : o = some i) : incLegal i := by rwa [ho] at legal
  unfold State.sourceEstimate at hi
  split at hi
  · cases hi
  · exact of_opt tap hi
  · exact of_opt ref hi
  · exact of_opt (bus _) hi
  · cases hi
    exact (tempoLegal_lane h (otherLane x)).1

theorem works_takeEstimate (x : LaneId) : Works s (s.takeEstimate x) := by
  refine .ite (fun _ => ?_) fun _ => .refl s
  split
  · next i hi => exact (Works.refl s).setLane fun h _ => ⟨incLegal_sourceEstimate h hi, trivial⟩
  · exact .refl s

variable {s} {s₀ : State}

/-- Lane `x`'s increment becomes one that is in range wherever the tempos of the part were. -/
theorem Works.setIncrement (h : Works s₀ s) (x : LaneId) {i : Nat} (legal : s₀.temposLegal → incLegal i) :
    Works s₀ (s.setIncrement x i) := by
  have taken : Works s₀ (s.modLane x fun l => { l with increment := i }) := h.setLane fun before l => ⟨legal before, l.2⟩
  exact taken.trans (.ite (fun _ => works_takeEstimate _ _) fun _ => .refl _)

/-- The ends of a present glide are in range. -/
theorem incLegal_glide (h : s.temposLegal) {x : LaneId} {g : Glide} (hg : (s.lane x).glide = some g) :
    incLegal g.start ∧ incLegal g.target := by
  have legal := (tempoLegal_lane h x).2
  rwa [hg] at legal

variable (s) in
theorem works_glideStep (x : LaneId) : Works s (s.glideStep x) := by
  unfold State.glideStep
  split
  · exact .refl s
  · next g hg =>
    have ends (h : s.temposLegal) : incLegal g.start ∧ incLegal g.target := incLegal_glide h hg
    refine .ite (fun _ => .setIncrement ?step x fun h => incLegal_glide_at (ends h).1 (ends h).2 _)
      fun _ => (Works.setIncrement ?last x fun h => (ends h).2).trans (works_post _ _)
    case step => exact (Works.refl s).setLane fun before l => ⟨l.1, ends before⟩
    case last => exact (Works.refl s).setLane fun _ l => ⟨l.1, trivial⟩

theorem Works.newTarget (h : Works s₀ s) (x : LaneId) {target : Nat} (g : Nat)
    (legal : s₀.temposLegal → incLegal target) : Works s₀ (s.newTarget x target g) := by
  refine .ite (fun _ => .setIncrement ?_ x legal) fun _ => h.setLane fun before l => ⟨l.1, l.1, legal before⟩
  exact h.setLane fun _ l => ⟨l.1, trivial⟩

variable (s)

theorem works_followCompare (x : LaneId) : Works s (s.followCompare x) := by
  refine .ite (fun _ => ?_) fun _ => .refl s
  split
  · exact .refl s
  · next e he =>
    exact .ite (fun _ => (Works.refl s).newTarget x _ fun h => incLegal_sourceEstimate h he) fun _ => .refl s

theorem works_followLocked (x : LaneId) : Works s (s.followLocked x) :=
  (works_modLane s (by split <;> exact ⟨rfl, rfl, id, id⟩)).trans (works_takeEstimate _ x)

theorem works_followLeft (x : LaneId) : Works s (s.followLeft x) :=
  works_modLane s (by split <;> exact ⟨rfl, rfl, id, id⟩)

theorem works_laneStarted (x : LaneId) : Works s (s.laneStarted x) :=
  .ite (fun _ => (works_post _ _).trans (works_followLocked _ _)) fun _ => .refl s

theorem works_leadRequest (x : LaneId) (kind : TxKind) : Works s (s.leadRequest x kind) :=
  .ite (fun _ => works_modBus s _) fun _ => .refl s

/-! ## Breaks (chapter 7) -/

theorem works_finishBreak (r : Fin 4) : Works s (s.finishBreak r) := by
  unfold State.finishBreak
  split
  · exact .refl s
  · exact .ite (fun _ => (works_setBrk s r _).trans (works_post _ _)) fun _ => .refl s

theorem works_dropMember (n : Fin 16) (by_ : LeaveBy) : Works s (s.dropMember n by_) := by
  unfold State.dropMember
  split
  · exact .refl s
  · exact (works_modChan s rfl rfl le_rfl).trans (works_modBrk _ _ _)

theorem works_leaveBreak (n : Fin 16) (by_ : LeaveBy) : Works s (s.leaveBreak n by_) := by
  unfold State.leaveBreak
  split
  · exact .refl s
  · exact (works_dropMember s n by_).trans (works_finishBreak _ _)

theorem works_stopBreak (x : LaneId) (r : Fin 4) : Works s (s.stopBreak x r) := by
  unfold State.stopBreak
  split
  · exact .refl s
  · refine (Works.ite (fun _ => works_modBrk s r _) fun _ => .refl s).trans (Works.trans (.forChannels ?_ _) (works_finishBreak _ r))
    exact fun n t => .ite (fun _ => works_dropMember t n .stop) fun _ => .refl t

theorem breakEntered_keeps (c : Channel) (mode : BreakMode) : (c.breakEntered mode).cfg = c.cfg ∧
    (c.breakEntered mode).running = c.running ∧ (c.breakEntered mode).fifo.length ≤ c.fifo.length := by
  have cleared (d : Channel) : d.clearMarks.running = d.running ∧ d.clearMarks.fifo = d.fifo := by
    unfold Channel.clearMarks
    split <;> exact ⟨rfl, rfl⟩
  cases mode with
  | mute =>
    simp only [Channel.breakEntered]
    split <;> simp [cleared]
  | halt => simp [Channel.breakEntered, cleared]

theorem works_enterBreak (n : Fin 16) : Works s (s.enterBreak n) := by
  unfold State.enterBreak
  split
  · split
    · obtain ⟨cfg, running, fifo⟩ := breakEntered_keeps { s.chan n with brk := _ } _
      exact (works_modChan s cfg running fifo).trans (works_modBrk _ _ _)
    · exact .refl s
  · exact .refl s

theorem works_countBreak (n : Fin 16) : Works s (s.countBreak n) := by
  unfold State.countBreak
  split
  · exact .ite (fun _ => works_modChan s rfl rfl le_rfl) fun _ => .refl s
  · exact .refl s

theorem works_countBeforeSwitch (n : Fin 16) : Works s (s.countBeforeSwitch n) :=
  .ite (fun _ => works_countBreak s n) fun _ => .refl s

theorem haltEnd_keeps (c : Channel) (l : Lane) (y : U32) : (c.haltEnd l y).cfg = c.cfg ∧
    (c.haltEnd l y).running = c.running ∧ (c.haltEnd l y).fifo = c.fifo := by
  unfold Channel.haltEnd
  dsimp only
  split <;> simp

theorem works_endMember (n : Fin 16) (y : U32) (complete : Bool) : Works s (s.endMember n y complete) := by
  unfold State.endMember
  split
  · exact .refl s
  · refine Works.trans (works_modChan s ?_ ?_ ?_) ((Works.ite (fun _ => works_modBrk _ _ _) fun _ => .refl _).trans
      (works_finishBreak _ _)) <;> dsimp only <;> split <;> simp [haltEnd_keeps]

/-! ## Handovers (chapter 8) -/

theorem works_finishHandover (r : Fin 4) : Works s (s.finishHandover r) := by
  unfold State.finishHandover
  split
  · exact .refl s
  · exact .ite (fun _ => (works_setHo s r _).trans (works_post _ _)) fun _ => .refl s

theorem works_leaveHandover (n : Fin 16) : Works s (s.leaveHandover n) := by
  unfold State.leaveHandover
  split
  · exact .refl s
  · exact (works_modChan s rfl rfl le_rfl).trans (works_finishHandover _ _)

theorem works_cancelHandover (r : Fin 4) : Works s (s.cancelHandover r) := by
  unfold State.cancelHandover
  split
  · exact .refl s
  · refine (Works.forChannels (fun n t => ?_) s).trans ((works_setHo _ r _).trans (works_post _ _))
    exact .ite (fun _ => works_modChan t rfl rfl le_rfl) fun _ => .refl t

theorem works_stopHandover (x : LaneId) (r : Fin 4) : Works s (s.stopHandover x r) := by
  unfold State.stopHandover
  split
  · exact .refl s
  · exact .ite (fun _ => works_cancelHandover s r) fun _ => .refl s

theorem works_measure (k : KnownBoundary) (at_ : U32) (r : Fin 4) : Works s (s.measure k at_ r) := by
  unfold State.measure
  split
  · exact .refl s
  · have set := works_setHo s r
    exact .ite (fun _ => .ite (fun _ => set _) fun _ => .ite (fun _ => .ite (fun _ => set _) fun _ => set _) fun _ => set _)
      fun _ => .refl s

theorem works_measureAll (k : KnownBoundary) (at_ : U32) : Works s (s.measureAll k at_) :=
  .foldl _ (fun t r _ => .ite (fun _ => .refl t) fun _ => works_measure t k at_ r) s

theorem works_measureKnown : Works s s.measureKnown :=
  (works_known s []).trans
    (.foldl _ (fun t k _ => .ite (fun _ => works_known t _) fun _ => works_measureAll t k _) _)

theorem works_makeKnown (x : LaneId) (index at_ : U32) (bar : Bool) : Works s (s.makeKnown x index at_ bar) :=
  .ite (fun _ => works_known s _) fun _ => works_measureAll s _ at_

end

end Sys2Proof.Machine

namespace Sys2Proof.Machine

/-! ## Starts and stops of a lane (chapter 2) -/

section
variable {s t : State}

/-- The channels attached to lane `x` follow it: where its running state has changed, and nothing else that R102 reads,
they run exactly while it does. -/
theorem runningAgrees_forAttached {x : LaneId} {f : Channel → Channel} (channels : t.channels = s.channels)
    (other : (t.lane (otherLane x)).transport = (s.lane (otherLane x)).transport) (cfg : ∀ c, (f c).cfg = c.cfg)
    (running : ∀ c, (f c).running = (t.lane x).isRunning) (h : s.runningAgrees) :
    (t.forChannels fun n u => if u.attached x n then u.modChan n f else u).runningAgrees := by
  intro n
  have agrees := h n
  have lanes (y : LaneId) : (t.forChannels fun n u => if u.attached x n then u.modChan n f else u).lane y = t.lane y :=
    forAttached_frame t (·.lane y) x f fun u n c => lane_setChan u n c y
  rw [State.laneOf, lanes, chan_forAttached, chan_eq_of_channels channels]
  simp only [State.attached, chan_eq_of_channels channels, State.laneOf, Bool.and_eq_true, beq_iff_eq] at agrees ⊢
  split
  · next attached => simp [cfg, running, attached]
  · next detached =>
    rw [agrees]
    by_cases enabled : (s.chan n).cfg.enabled = true
    · have elsewhere : (s.chan n).cfg.lane = otherLane x := by
        revert detached
        cases (s.chan n).cfg.lane <;> cases x <;> simp [enabled, otherLane]
      simp only [elsewhere, Lane.isRunning, other]
    · simp [enabled]

theorem works_forAttached {x : LaneId} {f : Channel → Channel} (h : Frames s t) (channels : t.channels = s.channels)
    (other : (t.lane (otherLane x)).transport = (s.lane (otherLane x)).transport) (cfg : ∀ c, (f c).cfg = c.cfg)
    (running : ∀ c, (f c).running = (t.lane x).isRunning) (fifo : ∀ c, (f c).fifo = c.fifo) :
    Works s (t.forChannels fun n u => if u.attached x n then u.modChan n f else u) where
  toFrames := h.trans (.foldl _ (fun u n _ => by
    dsimp only
    split
    · exact frames_setChan u (by simp [fifo])
    · exact .refl u) t)
  running := runningAgrees_forAttached channels other cfg running

end

section
variable (s : State)

/-- A lane takes the record `l`, RUNNING, its start is posted, and its channels start. -/
theorem works_startChannels {x : LaneId} {l : Lane} (n : NoticeBody) (o : Position) (running : l.isRunning = true)
    (source : s.noMutualFollowing → l.source = .lane → (s.lane (otherLane x)).source ≠ .lane)
    (meter : s.metersLegal → l.countersLegal) (tempo : s.temposLegal → l.tempoLegal) :
    Works s (((s.setLane x l).post n).startChannels x o) :=
  works_forAttached (((Frames.refl s).setLane source (fun h _ => meter h) fun h _ => tempo h).trans
      (works_post _ n).toFrames) (by simp) (by simp) (startAt_cfg · o) (fun c => by simp [running]) (startAt_fifo · o)

/-- A lane started at counters below its meter is as legal as it was. -/
theorem countersLegal_startedAt {l : Lane} {p : Position} {b r : Nat} {c : U32} (h : l.countersLegal)
    (beat : b < l.beatsPerBar) (bar : r < l.barsPerPhrase) : (l.startedAt p b r c).countersLegal :=
  ⟨h.1, beat, bar⟩

theorem source_kept {s : State} {x : LaneId} (h : s.noMutualFollowing) (lane : (s.lane x).source = .lane) :
    (s.lane (otherLane x)).source ≠ .lane :=
  fun other => (noMutualFollowing_iff s x).1 h ⟨lane, other⟩

theorem works_startLane (x : LaneId) : Works s (s.startLane x) := by
  have started := works_startChannels s (x := x) (l := (s.lane x).startedAt .zero 0 0 0) (.transportStarted x .start) .zero
    rfl source_kept (fun h => ?_) fun h => tempoLegal_lane h x
  · exact started.trans (works_laneStarted _ _)
  · obtain ⟨meter, beat, bar⟩ := countersLegal_lane h x
    exact ⟨meter, Nat.zero_lt_of_lt beat, Nat.zero_lt_of_lt bar⟩

theorem works_joinLane (x : LaneId) (src : SourceSide) : Works s (s.joinLane x src) := by
  have started (pos : Position) (c : U32) := works_startChannels s (x := x)
    (l := (s.lane x).startedAt pos (src.beatInBar % (s.lane x).beatsPerBar) (src.barInPhrase % (s.lane x).barsPerPhrase) c)
    (.transportStarted x .join) pos rfl source_kept (fun h => ?_) fun h => tempoLegal_lane h x
  · exact (started _ _).trans (works_laneStarted _ _)
  · obtain ⟨meter, beat, bar⟩ := countersLegal_lane h x
    exact ⟨meter, Nat.mod_lt _ (Nat.zero_lt_of_lt beat), Nat.mod_lt _ (Nat.zero_lt_of_lt bar)⟩

theorem works_copyLane (f : LaneId) : Works s (s.copyLane f) := by
  refine Works.trans (t := State.startChannels (State.post (State.setLane s (otherLane f) _) _) (otherLane f) _)
    (works_startChannels s (.transportStarted (otherLane f) .copy) (s.lane f).pos ?_ ?_ ?_ ?_) (works_laneStarted _ (otherLane f))
  · rfl
  · exact fun _ free => nomatch free
  · exact fun h => countersLegal_lane h f
  · exact fun h => ⟨(tempoLegal_lane h f).1, trivial⟩

theorem works_resumeLane (x : LaneId) : Works s (s.resumeLane x) := by
  have resumed : Frames s (s.modLane x fun l => { l.clearPull with transport := .running }) :=
    (Frames.refl s).setLane source_kept (fun h _ => countersLegal_lane h x) fun h _ => tempoLegal_lane h x
  refine (works_forAttached (resumed.trans (works_post _ (.transportStarted x .resume)).toFrames) (by simp) (by simp)
    (resume_cfg · _) (fun c => ?_) (resume_fifo · _)).trans (works_laneStarted _ x)
  simp [Lane.isRunning]

/-! ## Joins, stops and sources -/

theorem works_plainJoin (e : Entry) (x : LaneId) : Works s (s.plainJoin e x) :=
  (works_removeEntry s e.id).trans <| .ite (fun _ => works_postApplied _ _ _)
    fun _ => (works_startLane _ x).trans (works_postApplied _ _ _)

theorem works_joinsLeft (x : LaneId) (k : SourceKind) : Works s (s.joinsLeft x k) :=
  .foldl _ (fun t e _ => works_plainJoin t e x) s

@[simp] theorem leadRequest_lane (x y : LaneId) (kind : TxKind) : (s.leadRequest x kind).lane y = s.lane y := by
  unfold State.leadRequest
  split
  · cases y <;> rfl
  · rfl

@[simp] theorem leadRequest_channels (x : LaneId) (kind : TxKind) : (s.leadRequest x kind).channels = s.channels := by
  unfold State.leadRequest
  split <;> rfl

theorem works_stopLane (x : LaneId) : Works s (s.stopLane x) := by
  have stopped : Frames s (s.modLane x fun l => { l.clearPull with transport := .stopped, crossing := false, copiedPull := 0 }) :=
    (Frames.refl s).setLane source_kept (fun h _ => countersLegal_lane h x) fun h _ => tempoLegal_lane h x
  have told := stopped.trans ((works_post _ (.transportStopped x)).trans (works_leadRequest _ x .stop)).toFrames
  have channels := works_forAttached (x := x) told (f := (·.stop)) (by simp) (by simp) stop_cfg (fun c => by simp [Lane.isRunning]) stop_fifo
  exact channels.trans <| (works_discardTimed _ x).trans <|
    (Works.foldl _ (fun t r _ => works_stopBreak t x r) _).trans <|
    (Works.foldl _ (fun t r _ => works_stopHandover t x r) _).trans <|
    (Works.ite (fun _ => (works_post _ _).trans (works_followLeft _ _)) fun _ => .refl _).trans (works_joinsLeft _ _ _)

theorem works_setWait (e : Entry) (x : LaneId) (w : JoinWait) : Works s (s.setWait e x w) :=
  .ite (fun _ => .refl s) fun _ => (works_retime s _ _ _).trans (works_bumpGeneration _)

theorem works_rebindJoin (e : Entry) (x : LaneId) : Works s (s.rebindJoin e x) :=
  .ite (fun _ => .ite (fun _ => .refl s) fun _ => works_setWait s e x _) fun _ => works_plainJoin s e x

theorem works_laneSourceNotice (x : LaneId) : Works s (s.laneSourceNotice x) :=
  .ite (fun _ => works_post s _) fun _ => .refl s

theorem works_applySource (x : LaneId) (g : SourceSettings) : Works s (s.applySource x g).1 := by
  unfold State.applySource
  split
  · exact .refl s
  · next apart =>
    have set : Works s (s.modLane x (·.withSource g)) :=
      (Works.refl s).setLaneSource (fun _ kind other => apart ⟨kind, other⟩) fun _ => id
    refine (set.trans (.ite (fun _ => works_rangeResidual _ x) fun _ => ?_)).trans
      (.foldl _ (fun t e _ => works_rebindJoin t e x) _)
    exact (works_modLane _).trans ((works_takeEstimate _ x).trans (works_laneSourceNotice _ x))

theorem works_nudgeLane (x : LaneId) (n : Int) : Works s (s.nudgeLane x n).1 := works_setResidual s x _ _

end

section
variable {s₀ s : State}

theorem Works.applyTempo (h : Works s₀ s) (x : LaneId) {i : Nat} (g : Nat) (legal : s₀.temposLegal → incLegal i) :
    Works s₀ (s.applyTempo x i g).1 := by
  unfold State.applyTempo
  split
  · exact h.newTarget x g legal
  · exact h

/-- A legal meter that takes effect where R30 lets it. -/
theorem Works.applyMeter (h : Works s₀ s) {x : LaneId} {b p : Nat} (legal : s₀.metersLegal → meterLegal b p)
    (now : (s.lane x).isRunning = true → (s.lane x).beatInBar = 0) : Works s₀ (s.applyMeter x b p) := by
  have taken (l : Lane) (hl : l = if (s.lane x).isRunning then
        if (s.lane x).barInPhrase < p then s.lane x
        else { s.lane x with barInPhrase := 0, phraseCount := (s.lane x).phraseCount + 1 }
      else { s.lane x with beatInBar := (s.lane x).beatInBar % b, barInPhrase := (s.lane x).barInPhrase % p }) :
      Works s₀ (s.setLane x { l with beatsPerBar := b, barsPerPhrase := p }) := by
    have same : l.transport = (s.lane x).transport ∧ l.source = (s.lane x).source ∧
        l.increment = (s.lane x).increment ∧ l.glide = (s.lane x).glide := by
      subst hl
      split
      · split <;> simp
      · simp
    obtain ⟨transport, source, increment, glide⟩ := same
    refine h.setLane (fun _ l => ?_) transport source fun before _ => ⟨legal before, ?_⟩
    · simpa only [Lane.tempoLegal, increment, glide] using l
    · obtain ⟨b1, -, p1, -⟩ := legal before
      subst hl
      split
      · next run =>
        split
        · next below => exact ⟨by have := now run; simp only; omega, below⟩
        · exact ⟨by have := now run; simp only; omega, p1⟩
      · exact ⟨Nat.mod_lt _ b1, Nat.mod_lt _ p1⟩
  exact (taken _ rfl).trans (works_rangeResidual _ x)

end

end Sys2Proof.Machine

namespace Sys2Proof.Machine

/-! ## Configurations (R105 to R107, R127, R128) -/

section
variable (s : State)

theorem works_reoriginAhead (n : Fin 16) : Works s (s.reoriginAhead n) := works_modChan s rfl rfl le_rfl

theorem works_enableChannel (n : Fin 16) {cfg : ChannelConfig} (enabled : cfg.enabled = true) (at_ : ApplyAt) :
    Works s (s.enableChannel n cfg at_) := by
  have fresh : Works s (s.modChan n fun c => { c with evalLead := none }) := works_modChan s rfl rfl le_rfl
  unfold State.enableChannel
  dsimp only
  split
  · next run =>
    refine fresh.trans (works_setChan _ (by simp) fun _ => ?_)
    have lane : ((s.modChan n fun c => { c with evalLead := none }).lane cfg.lane).isRunning = true := run
    simp [State.agreesWith, enabled, lane]
  · next idle =>
    refine fresh.trans (works_setChan _ (by simp) fun _ => ?_)
    have lane : ((s.modChan n fun c => { c with evalLead := none }).lane cfg.lane).isRunning = false :=
      (Bool.not_eq_true _).mp idle
    simp [State.agreesWith, lane]

theorem works_disableChannel (n : Fin 16) {cfg : ChannelConfig} (disabled : cfg.enabled = false) :
    Works s (s.disableChannel n cfg) :=
  (works_setChan s (fun _ => Nat.zero_le _) fun _ => by simp [State.agreesWith, disabled]).trans
    ((works_leaveBreak _ n .cancel).trans (works_leaveHandover _ n))

theorem codeTransition_keeps (c : Channel) (p q : Bool) :
    (if p then c.codePut .start else if q then c.codePut .stop else c).cfg = c.cfg ∧
      (if p then c.codePut .start else if q then c.codePut .stop else c).running = c.running ∧
      (if p then c.codePut .start else if q then c.codePut .stop else c).fifo = c.fifo := by
  cases p <;> cases q <;> simp

theorem remark_keeps (c : Channel) (p : Position) (y : U32) :
    (c.remark p y).running = c.running ∧ (c.remark p y).fifo = c.fifo := by
  unfold Channel.remark
  split <;> exact ⟨rfl, rfl⟩

theorem works_laneChange {n : Fin 16} (enabled : (s.chan n).cfg.enabled = true) (x : LaneId) :
    Works s (s.laneChange n x) := by
  unfold State.laneChange
  refine Works.trans (works_setChan s ?_ fun _ => ?_)
    ((works_leaveHandover _ n).trans (.ite (fun _ => .refl _) fun _ => works_leaveBreak _ n .stop))
  · simp only [remark_keeps, codeTransition_keeps, reorigin_fifo, imp_self]
  · simp only [State.agreesWith, remark_keeps, remark_cfg, codeTransition_keeps, reorigin_cfg, enabled, Bool.true_and]

theorem functionChange_keeps (n : Fin 16) (cfg : ChannelConfig) :
    ((s.functionChange n cfg).chan n).running = (s.chan n).running ∧
      ((s.functionChange n cfg).chan n).fifo.length ≤ (s.chan n).fifo.length := by
  simp only [State.functionChange, chan_modChan, ite_true]
  split <;> split <;> split <;> simp [Channel.clearCode]

theorem works_functionChange {n : Fin 16} {cfg : ChannelConfig} (enabled : cfg.enabled = (s.chan n).cfg.enabled)
    (lane : cfg.lane = (s.chan n).cfg.lane) : Works s (s.functionChange n cfg) := by
  obtain ⟨running, fifo⟩ := functionChange_keeps s n cfg
  have new := (chan_functionChange s n cfg).1
  unfold State.functionChange at running fifo new ⊢
  rw [chan_modChan_same] at running fifo new
  refine works_setChan s fifo.trans fun h => ?_
  rw [State.agreesWith, running, new, enabled, lane]
  exact h

/-- A configuration of a channel that stays enabled on its lane and function. -/
theorem works_sameFunction {n : Fin 16} {cfg : ChannelConfig} (enabled : cfg.enabled = (s.chan n).cfg.enabled)
    (lane : cfg.lane = (s.chan n).cfg.lane) : Works s (s.modChan n fun c => { c with cfg := cfg }) :=
  works_setChan s id fun h => by
    simp only [State.agreesWith, enabled, lane]
    exact h

theorem works_reconfigure {n : Fin 16} {cfg : ChannelConfig} (was : (s.chan n).cfg.enabled = true)
    (enabled : cfg.enabled = true) (at_ : ApplyAt) : Works s (s.reconfigure n cfg at_) := by
  have enabledStays : ({ cfg with lane := (s.chan n).cfg.lane } : ChannelConfig).enabled = (s.chan n).cfg.enabled :=
    enabled.trans was.symm
  unfold State.reconfigure
  dsimp only
  generalize hu : (if (s.chan n).cfg.function = cfg.function then _ else _ : State) = u
  have configured : Works s u ∧ (u.chan n).cfg.enabled = true := by
    rw [← hu]
    split
    · exact ⟨works_sameFunction s enabledStays rfl, by simpa using enabled⟩
    · exact ⟨works_functionChange s enabledStays rfl, by simpa [chan_functionChange] using enabled⟩
  generalize hv : (if cfg.barCodes = true then u else _ : State) = v
  have marked : Works s v ∧ (v.chan n).cfg.enabled = true := by
    rw [← hv]
    split
    · exact configured
    · exact ⟨configured.1.trans (works_modChan u rfl rfl le_rfl), by simpa using configured.2⟩
  refine marked.1.trans (.ite (fun _ => works_laneChange v marked.2 _) fun _ => ?_)
  split
  · exact .ite (fun _ => works_modChan v rfl rfl le_rfl) fun _ => works_reoriginAhead v n
  · exact .ite (fun _ => works_reoriginAhead v n) fun _ => .refl v
  · exact .refl v

theorem works_applyConfig (n : Fin 16) (cfg : ChannelConfig) (at_ : ApplyAt) : Works s (s.applyConfig n cfg at_) := by
  unfold State.applyConfig
  dsimp only
  generalize (if at_ = ApplyAt.switch then _ else cfg : ChannelConfig) = new
  split
  · next enabled => exact works_enableChannel s n enabled at_
  · next disabled => exact works_disableChannel s n disabled
  · next was disabled =>
    refine works_setChan s id fun h => ?_
    have idle : (s.chan n).running = false := by rw [h, was, Bool.false_and]
    simp [State.agreesWith, idle, disabled]
  · next was enabled => exact works_reconfigure s was enabled at_

/-! ## Entries (sections 4.3 to 4.5) -/

theorem works_applyTransport (x : LaneId) (action : EntryAction) : Works s (s.applyTransport x action).1 := by
  unfold State.applyTransport
  cases action with
  | start | join =>
    dsimp only
    split
    · exact .refl s
    · exact works_startLane s x
  | stop =>
    dsimp only
    split
    · exact works_stopLane s x
    · exact .refl s
  | resume =>
    dsimp only
    split
    · exact .refl s
    · exact works_resumeLane s x
  | copy =>
    dsimp only
    split
    · exact .refl s
    · exact works_copyLane s _

variable {s} {s₀ : State}

/-- A change whose values were legal, a METER where R30 lets it take effect. -/
theorem Works.applyChange (h : Works s₀ s) {c : Change} (meter : s₀.metersLegal → c.meterLegal)
    (tempo : s₀.temposLegal → c.tempoLegal)
    (now : ∀ x b p, c = .meter x b p → (s.lane x).isRunning = true → (s.lane x).beatInBar = 0) :
    Works s₀ (s.applyChange c).1 := by
  cases c with
  | tempo x i g => exact h.applyTempo x g tempo
  | meter x b p => exact h.applyMeter meter (now x b p rfl)
  | source x g => exact h.trans (works_applySource s x g)
  | transport x a => exact h.trans (works_applyTransport s x a)
  | channel n cfg => exact h.trans (works_applyConfig s n cfg .acceptance)

variable (s)

/-- A waiting entry carried out, a METER where R30 lets it take effect. -/
theorem works_carryOut {e : Entry} (waiting : e ∈ s.queue)
    (now : ∀ x b p, e.change = .meter x b p → (s.lane x).isRunning = true → (s.lane x).beatInBar = 0) :
    Works s (s.carryOut e) :=
  ((works_removeEntry s e.id).applyChange (fun h => h.2.2 e waiting) (fun ⟨_, _, _, _, _, _, h⟩ => h e waiting)
    fun x b p he => by cases x <;> exact now _ b p he).trans (works_postApplied _ e _)

theorem works_holdOver (e : Entry) (x : LaneId) (y : U32) : Works s (s.holdOver e x y) :=
  (works_retime s _ _ _).trans (works_bumpGeneration _)

/-- An entry that is not held over at a boundary is no METER, or one that may take effect there (R30). -/
theorem beatInBar_of_not_heldOver {s : State} {c : Change} {here : Option LaneId} (h : s.heldOver c here = none) :
    ∀ x b p, c = .meter x b p → (s.lane x).isRunning = true → (s.lane x).beatInBar = 0 := by
  rintro x b p rfl run
  have now : s.meterNow x here = true := by
    by_contra held
    simp [State.heldOver, held] at h
  simp only [State.meterNow, run, Bool.not_true, Bool.false_or, Bool.and_eq_true, beq_iff_eq] at now
  exact now.2

theorem works_boundaryEntries (x : LaneId) (y : U32) (fuel : Nat) (s : State) :
    Works s (State.boundaryEntries x y fuel s) := by
  induction fuel generalizing s with
  | zero => exact .refl s
  | succ fuel ih =>
    unfold State.boundaryEntries
    split
    · exact .refl s
    · next e found =>
      split
      · exact (works_holdOver s e _ _).trans (ih _)
      · next free =>
        have carried : Works s (s.carryOut e) :=
          works_carryOut s (List.mem_of_find?_eq_some found) (beatInBar_of_not_heldOver free)
        exact carried.trans (.ite (fun _ => ih _) fun _ => .refl _)

theorem works_carryOutJoin (e : Entry) (x : LaneId) : Works s (s.carryOutJoin e x) := by
  refine .ite (fun _ => (works_removeEntry s _).trans (works_postApplied _ _ _)) fun _ => ?_
  split
  · exact (works_removeEntry s _).trans ((works_joinLane _ x _).trans (works_postApplied _ _ _))
  · exact works_plainJoin s e x

/-- A METER entry whose IMMEDIATE form makes no entry of it stands on a STOPPED lane (R29). -/
theorem beatInBar_of_immediateDue_none {s : State} {e : Entry} (h : s.immediateDue e = none) :
    ∀ x b p, e.change = .meter x b p → (s.lane x).isRunning = true → (s.lane x).beatInBar = 0 := by
  intro x b p meter run
  simp [State.immediateDue, meter, run] at h

theorem works_resolveCueEntry (q : Quantize) {e : Entry} (waiting : e ∈ s.queue) :
    Works s (s.resolveCueEntry q e).1 := by
  unfold State.resolveCueEntry
  dsimp only
  split
  · exact works_retime s _ _ _
  · exact works_retime s _ _ _
  · split
    · exact works_retime s _ _ _
    · next none => exact works_carryOut s waiting (beatInBar_of_immediateDue_none none)

theorem works_resolveCueEntries (c : Fin 4) (q : Quantize) (ids : List Nat) (s : State) :
    Works s (State.resolveCueEntries c q ids s).1 := by
  induction ids generalizing s with
  | nil => exact .refl s
  | cons id rest ih =>
    unfold State.resolveCueEntries
    split
    · exact ih s
    · next e found => exact (works_resolveCueEntry s q (List.mem_of_find?_eq_some found)).trans (ih _)

theorem works_markPassed (r : Fin 4) (timing : LaneId) (y : U32) : Works s (s.markPassed r timing y) :=
  .forChannels (fun n t => by
    split
    · exact .ite (fun _ => works_modChan t rfl rfl le_rfl) fun _ => .refl t
    · exact .refl t) s

theorem works_markAll (r : Fin 4) : Works s (s.markAll r) :=
  .forChannels (fun n t => by
    split
    · exact .ite (fun _ => works_modChan t rfl rfl le_rfl) fun _ => .refl t
    · exact .refl t) s

theorem works_resolveCueBreak (c : Fin 4) (q : Quantize) (r : Fin 4) : Works s (s.resolveCueBreak c q r) := by
  unfold State.resolveCueBreak
  split
  · exact .refl s
  · refine .ite (fun _ => ?_) fun _ => .refl s
    dsimp only
    split
    · exact (works_setBrk s r _).trans (works_markPassed _ _ _ _)
    · exact (works_setBrk s r _).trans (works_markPassed _ _ _ _)
    · exact (works_setBrk s r _).trans (works_markAll _ r)

theorem works_cues (c : Vector CueLine 4) : Works s { s with cues := c } :=
  ⟨⟨⟨rfl, rfl, rfl, rfl⟩, rfl, rfl, rfl, rfl, fun b => by cases b <;> exact id⟩, id⟩

theorem works_cueEdge (c : Fin 4) : Works s (s.cueEdge c) := by
  refine .ite (fun _ => ?_) fun _ => .refl s
  have resolved (ids : List Nat) :=
    (works_cues s (s.cues.set c.val { s.cues[c] with lastEdge := some s.clock } c.isLt)).trans <|
      (Works.foldl allRecords (fun t r _ => works_resolveCueBreak t c s.cues[c].quantize r) _).trans
        (works_resolveCueEntries c s.cues[c].quantize ids _)
  exact .ite (fun _ => (resolved _).trans (works_bumpGeneration _)) fun _ => resolved _

end

end Sys2Proof.Machine

namespace Sys2Proof.Machine

/-! ## Trackers (chapter 3) -/

section
variable (s : State)

theorem works_setTap (t : TapTracker) (legal : s.temposLegal → optIncLegal t.estimate) : Works s { s with tap := t } :=
  ⟨⟨⟨rfl, rfl, rfl, rfl⟩, rfl, rfl, rfl, rfl, fun b => match b with
    | .tempos => fun h => ⟨h.1, h.2.1, legal h, h.2.2.2⟩
    | .queue | .notices | .fifos | .following | .meters => id⟩, id⟩

theorem works_setRef (t : RefTracker) (legal : s.temposLegal → optIncLegal t.estimate) : Works s { s with ref := t } :=
  ⟨⟨⟨rfl, rfl, rfl, rfl⟩, rfl, rfl, rfl, rfl, fun b => match b with
    | .tempos => fun h => ⟨h.1, h.2.1, h.2.2.1, legal h, h.2.2.2.2⟩
    | .queue | .notices | .fifos | .following | .meters => id⟩, id⟩

theorem optIncLegal_busTracker {s : State} (h : s.temposLegal) (n : Fin 8) : optIncLegal (s.busTracker n).estimate :=
  have ⟨_, _, _, _, bus, _⟩ := h
  bus n

theorem works_setBusTracker (n : Fin 8) (t : BusTracker) (legal : s.temposLegal → optIncLegal t.estimate) :
    Works s (s.setBusTracker n t) :=
  ⟨⟨⟨rfl, rfl, rfl, rfl⟩, rfl, rfl, rfl, rfl, fun b => match b with
    | .tempos => fun h => ⟨h.1, h.2.1, h.2.2.1, h.2.2.2.1, fun m => by
        rw [busTracker_setBusTracker]
        split
        · exact legal h
        · exact optIncLegal_busTracker h m, h.2.2.2.2.2⟩
    | .queue | .notices | .fifos | .following | .meters => id⟩, id⟩

theorem works_forFollowers (k : SourceKind) {f : LaneId → State → State} (h : ∀ x t, Works t (f x t)) :
    Works s (s.forFollowers k f) :=
  .foldl _ (fun t x _ => .ite (fun _ => h x t) fun _ => .refl t) s

theorem works_becameLocked (k : SourceKind) (subject : SourceSubject) (estimate : Option Nat)
    (station : Option (BitVec 10)) : Works s (s.becameLocked k subject estimate station) :=
  (works_post s _).trans (works_forFollowers _ k fun x t => works_followLocked t x)

theorem works_lostSource (k : SourceKind) : Works s (s.lostSource k) :=
  (works_forFollowers s k fun x t => works_followLeft t x).trans (.foldl _ (fun t x _ => works_joinsLeft t x k) _)

theorem works_becameHoldover (k : SourceKind) (subject : SourceSubject) (estimate : Option Nat)
    (station : Option (BitVec 10)) : Works s (s.becameHoldover k subject estimate station) :=
  (works_post s _).trans (works_lostSource _ k)

theorem works_becameSearching (k : SourceKind) (subject : SourceSubject) (estimate : Option Nat)
    (station : Option (BitVec 10)) : Works s (s.becameSearching k subject estimate station) :=
  (works_post s _).trans (works_lostSource _ k)

theorem works_trackerUpdate (k : SourceKind) : Works s (s.trackerUpdate k) :=
  works_forFollowers s k fun x t => works_takeEstimate t x

theorem optIncLegal_tapBegin {t : TapTracker} (h : optIncLegal t.estimate) (now : Nat) :
    optIncLegal (t.begin now).estimate := by
  unfold TapTracker.begin
  split
  · exact h
  · trivial

theorem optIncLegal_tapAppend {t : TapTracker} (h : optIncLegal t.estimate) (now : Nat) :
    optIncLegal (t.append now).estimate := by
  unfold TapTracker.append
  dsimp only
  generalize keepLast 8 _ = list
  split
  · exact h
  · exact incLegal_estimateOf _ _ _

theorem works_tapEdge : Works s s.tapEdge := by
  have appended (lock : LockState) := works_setTap s { s.tap.append s.clock with lock := lock }
    fun h => optIncLegal_tapAppend h.2.2.1 s.clock
  have begun := works_setTap s (s.tap.begin s.clock) fun h => optIncLegal_tapBegin h.2.2.1 s.clock
  unfold State.tapEdge
  split
  · exact .refl s
  · exact begun
  · exact begun
  · exact .ite (fun _ => appended _) fun _ => .ite (fun _ => (appended _).trans (works_trackerUpdate _ _))
      fun _ => (appended _).trans (works_becameLocked _ _ _ _ _)

theorem countPulse_estimate (t : RefTracker) : t.countPulse.estimate = t.estimate := by
  unfold RefTracker.countPulse
  split
  · rfl
  · split <;> rfl

theorem optIncLegal_acquire {t : RefTracker} (h : optIncLegal t.estimate) (now d : Nat) :
    optIncLegal (t.acquire now d).1.estimate := by
  unfold RefTracker.acquire
  dsimp only
  split
  · exact incLegal_estimateOf _ _ _
  · exact (countPulse_estimate t).symm ▸ h

theorem misalign_estimate (t : RefTracker) (now : Nat) : (t.misalign now).estimate = t.estimate := by
  unfold RefTracker.misalign
  split
  · rfl
  · dsimp only
    split <;> exact countPulse_estimate t

theorem works_refPulse : Works s s.refPulse := by
  have first := works_setRef s (s.ref.firstPulse s.clock) fun h => h.2.2.2.1
  unfold State.refPulse
  dsimp only
  split
  · exact first
  · exact first
  · next last _ _ =>
    split
    · have misaligned := works_setRef s (s.ref.misalign s.clock) fun h => (misalign_estimate _ _).symm ▸ h.2.2.2.1
      have updated := works_setRef s (s.ref.update s.clock (since s.clock last)) fun _ => incLegal_estimateOf _ _ _
      exact .ite (fun _ => misaligned.trans ((works_modSticky _ _).trans (works_post _ _)))
        fun _ => updated.trans (works_trackerUpdate _ _)
    · refine .ite (fun _ => first) fun _ => ?_
      have acquired := works_setRef s (s.ref.acquire s.clock (since s.clock last)).1
        fun h => optIncLegal_acquire h.2.2.2.1 _ _
      exact acquired.trans (.ite (fun _ => works_becameLocked _ _ _ _ _) fun _ => .refl _)

theorem works_dbeatEdge : Works s s.dbeatEdge :=
  .ite (fun _ => works_setRef s _ fun h => h.2.2.2.1) fun _ => .refl s

theorem works_refEnterHoldover : Works s s.refEnterHoldover :=
  (works_setRef s (s.ref.heldFrom s.clock) fun h => h.2.2.2.1).trans (works_becameHoldover _ _ _ _ _)

theorem works_refEnterSearching : Works s s.refEnterSearching :=
  have lost := works_setRef s { s.ref with lock := .searching, estimate := none, anchor := none, holdoverStart := none }
    fun _ => trivial
  lost.trans (works_becameSearching _ _ _ _ _)

theorem optIncLegal_take {t : BusTracker} (h : optIncLegal t.estimate) {f : BusFrame} (hf : incLegal f.increment)
    (ref : Nat) : optIncLegal (t.take f ref).1.estimate := by
  unfold BusTracker.take
  dsimp only
  split
  · split
    · exact h
    · exact h
    · split
      · exact hf
      · exact h
  · split
    · split
      · exact hf
      · exact h
    · exact h
  · split
    · split
      · exact hf
      · exact h
    · exact h

theorem works_askJoins (n : Fin 8) (x : LaneId) : Works s (s.askJoins n x) :=
  .foldl _ (fun t e _ => works_setWait t e x _) s

theorem works_acceptFrame (n : Fin 8) {f : BusFrame} (legal : incLegal f.increment) (ref : Nat) :
    Works s (s.acceptFrame n f ref) := by
  have taken := works_setBusTracker s n ((s.busTracker n).take f ref).1
    fun h => optIncLegal_take (optIncLegal_busTracker h n) legal ref
  unfold State.acceptFrame
  dsimp only
  split
  · exact taken
  · exact taken.trans (works_becameLocked _ _ _ _ _)
  · exact taken.trans ((works_trackerUpdate _ _).trans (.foldl _ (fun t x _ => works_askJoins t n x) _))
  · exact taken.trans (works_becameHoldover _ _ _ _ _)

theorem works_deliverFrame (n : Fin 8) (f : BusFrame) (ref : Nat) : Works s (s.deliverFrame n f ref) :=
  .ite (fun _ => works_acceptFrame s n (incLegal_clampInc _) ref) fun _ => .refl s

theorem works_busEnterHoldover (n : Fin 8) : Works s (s.busEnterHoldover n) :=
  have held := works_setBusTracker s n { s.busTracker n with lock := .holdover, holdoverStart := some s.clock }
    fun h => optIncLegal_busTracker h n
  held.trans (works_becameHoldover _ _ _ _ _)

theorem works_busEnterSearching (n : Fin 8) : Works s (s.busEnterSearching n) :=
  have lost := works_setBusTracker s n
    { s.busTracker n with lock := .searching, station := none, estimate := none, holdoverStart := none } fun _ => trivial
  lost.trans (works_becameSearching _ _ _ _ _)

theorem works_workExpiries : Works s s.workExpiries :=
  (Works.ite (fun _ => works_refEnterHoldover s) fun _ => .refl s).trans <|
    (Works.ite (fun _ => works_refEnterSearching _) fun _ => .refl _).trans <|
    .foldl _ (fun t n _ => (Works.ite (fun _ => works_busEnterHoldover t n) fun _ => .refl t).trans
      (.ite (fun _ => works_busEnterSearching _ n) fun _ => .refl _)) _

/-! ## The beat bus (chapter 9) -/

theorem works_modLine (l : BusLine) (f : BusLineState → BusLineState) : Works s (s.modLine l f) := works_modBus s _

theorem works_judgeGood (l : BusLine) : Works s (s.judgeGood l) :=
  .ite (fun _ => (works_modBus s _).trans (works_post _ _)) fun _ => works_modBus s _

theorem works_judgeBad (l : BusLine) (o : BadOutcome) : Works s (s.judgeBad l o) :=
  .ite (fun _ => (works_modBus s _).trans ((works_modSticky _ _).trans (works_post _ _))) fun _ => works_modBus s _

theorem works_judgePair (l : BusLine) (o : BadOutcome) : Works s (s.judgePair l o) := by
  cases l with
  | one => exact (works_judgeGood s _).trans (works_judgeBad _ _ _)
  | two => exact (works_judgeBad s _ _).trans (works_judgeGood _ _)

theorem works_conflict (id : BitVec 10) (cause : ConflictCause) (on1 on2 : Bool) :
    Works s (s.conflict id cause on1 on2) :=
  (works_modSticky s _).trans ((works_post _ _).trans (works_modBus _ _))

theorem works_filterFrame (l : BusLine) (f : BusFrame) (ref : Nat) : Works s (s.filterFrame l f ref) := by
  refine .ite (fun _ => works_conflict s _ _ _ _) fun _ => ?_
  split
  · exact (works_modBus s _).trans (works_deliverFrame _ _ _ _)
  · exact works_modBus s _

theorem works_firstCopy (l : BusLine) (content : List Byte) (ref : Nat) : Works s (s.firstCopy l content ref) := by
  unfold State.firstCopy
  refine (works_filterFrame s l (frameOf content) ref).trans ?_
  dsimp only
  split
  · exact .ite (fun _ => (works_modBus _ _).trans (works_judgePair _ _ _)) fun _ => works_modBus _ _
  · exact works_modBus _ _

theorem works_validCopy (l : BusLine) (chars : List Byte) : Works s (s.validCopy l chars) := by
  unfold State.validCopy
  split
  · refine .ite (fun _ => (works_modLine s l fun v => { v.await with valid := bump16 v.valid }).trans ?_) fun _ => .refl s
    dsimp only
    split
    · exact works_filterFrame _ _ _ _
    · exact works_filterFrame _ _ _ _
    · split
      · exact (works_modBus _ _).trans ((works_modBus _ _).trans ((works_judgeGood _ _).trans (works_judgeGood _ _)))
      · exact works_firstCopy _ _ _ _
  · exact .refl s

theorem works_receiveError (l : BusLine) (e : ReceiveErrorKind) : Works s (s.receiveError l e) := by
  refine .ite (fun _ => (works_modLine s l fun v => (v.countError e).await).trans ?_) fun _ => .refl s
  dsimp only
  split
  · exact .refl _
  · exact .refl _
  · split
    · exact (works_modBus _ _).trans (works_judgePair _ _ _)
    · exact works_modBus _ _

theorem works_timeOutPairing (p : Pairing) : Works s (s.timeOutPairing p) :=
  (works_modBus s _).trans (works_judgePair _ _ _)

theorem works_timeOutPairings (n : Nat) (s : State) : Works s (State.timeOutPairings n s) := by
  induction n generalizing s with
  | zero => exact .refl s
  | succ n ih =>
    unfold State.timeOutPairings
    split
    · exact .refl s
    · exact (works_timeOutPairing s _).trans (ih _)

theorem works_lineIdle (l : BusLine) : Works s (s.lineIdle l) := .ite (fun _ => .refl s) fun _ => works_modBus s _

theorem works_dominantEdge (l : BusLine) : Works s (s.dominantEdge l) := works_modLine s l _

theorem works_runEnd (l : BusLine) (bits : Nat) : Works s (s.runEnd l bits) :=
  .ite (fun _ => .ite (fun _ => works_modBus s _) fun _ => .ite (fun _ => works_modBus s _) fun _ => .refl s)
    fun _ => .refl s

theorem works_firstStart (l : BusLine) : Works s (s.firstStart l) := .ite (fun _ => works_modBus s _) fun _ => .refl s

theorem works_beginFrame : Works s s.beginFrame := by
  unfold State.beginFrame
  split
  · exact .refl s
  · exact .ite (fun _ => works_modBus s _) fun _ => works_modBus s _

theorem works_captureInstant : Works s s.captureInstant := by
  unfold State.captureInstant
  split
  · exact .refl s
  · exact works_modBus s _

theorem works_finishFrame : Works s s.finishFrame := by
  unfold State.finishFrame
  split
  · exact .refl s
  · exact works_modBus s _

theorem works_lose (bit : Nat) (on1 on2 : Bool) : Works s (s.lose bit on1 on2) := by
  unfold State.lose
  split
  · exact .refl s
  · exact (works_modBus s _).trans
      ((Works.ite (fun _ => works_modBus _ _) fun _ => works_conflict _ _ _ _ _).trans (works_modBus _ _))

theorem works_workBus : Works s s.workBus :=
  (works_timeOutPairings _ s).trans <| (Works.ite (fun _ => works_captureInstant _) fun _ => .refl _).trans <|
    (Works.ite (fun _ => works_finishFrame _) fun _ => .refl _).trans (works_beginFrame _)

/-! ## Boundaries of a lane (section 2.2) -/

theorem lane_keeps_refl (l : Lane) : l.Keeps l := ⟨rfl, rfl, id, id⟩

theorem Lane.Keeps.trans {l m k : Lane} (h : l.Keeps m) (g : m.Keeps k) : l.Keeps k :=
  ⟨g.1.trans h.1, g.2.1.trans h.2.1, g.2.2.1 ∘ h.2.2.1, g.2.2.2 ∘ h.2.2.2⟩

/-- Counting a boundary keeps the counters below the meter (R22). -/
theorem count_keeps (l : Lane) : l.Keeps l.count := by
  unfold Lane.count
  split
  · next beat => exact ⟨rfl, rfl, fun ⟨meter, _, bar⟩ => ⟨meter, beat, bar⟩, id⟩
  · split
    · next bar => exact ⟨rfl, rfl, fun ⟨meter, beat, _⟩ => ⟨meter, Nat.zero_lt_of_lt beat, bar⟩, id⟩
    · exact ⟨rfl, rfl, fun ⟨meter, beat, bar⟩ => ⟨meter, Nat.zero_lt_of_lt beat, Nat.zero_lt_of_lt bar⟩, id⟩

/-- A step back stays below the meter (R25). -/
theorem uncount_keeps (l : Lane) : l.Keeps l.uncount := by
  unfold Lane.uncount
  split
  · exact ⟨rfl, rfl, fun ⟨meter, beat, bar⟩ => ⟨meter, by simp only; omega, bar⟩, id⟩
  · split
    · exact ⟨rfl, rfl, fun ⟨meter, beat, bar⟩ => ⟨meter, by simp only; omega, by simp only; omega⟩, id⟩
    · exact ⟨rfl, rfl, fun ⟨meter, beat, bar⟩ => ⟨meter, by simp only; omega, by simp only; omega⟩, id⟩

theorem countMany_keeps (n : Nat) (l : Lane) : l.Keeps (l.countMany n) := by
  induction n generalizing l with
  | zero => exact lane_keeps_refl l
  | succ n ih => exact (count_keeps l).trans (ih _)

theorem uncountMany_keeps (n : Nat) (l : Lane) : l.Keeps (l.uncountMany n) := by
  induction n generalizing l with
  | zero => exact lane_keeps_refl l
  | succ n ih => exact (uncount_keeps l).trans (ih _)

/-- A lane's position and the marks of its advance are under no bound. -/
theorem works_movedLane (x : LaneId) (p : Position) (crossing : Bool) (pull : Int) :
    Works s (s.setLane x { s.lane x with pos := p, crossing := crossing, copiedPull := pull }) :=
  (Works.refl s).setLane fun _ => id

theorem works_advanceLane (x : LaneId) : Works s (s.advanceLane x) :=
  (works_movedLane s x _ false 0).trans (.ite (fun _ => .refl _) fun _ => works_setResidual _ x _ _)

theorem works_beginAdvance (x : LaneId) : Works s (s.beginAdvance x) :=
  .ite (fun _ => .ite (fun _ => (Works.refl s).setLane fun _ => id) fun _ => works_advanceLane s x) fun _ => .refl s

theorem works_postBarPhrase (x : LaneId) (f : BoundaryFacts) : Works s (s.postBarPhrase x f) :=
  (Works.ite (fun _ => works_post s _) fun _ => .refl s).trans (.ite (fun _ => works_post _ _) fun _ => .refl _)

theorem works_partSeven (x : LaneId) (f : BoundaryFacts) (at_ : U32) : Works s (s.partSeven x f at_) :=
  (works_postBarPhrase s x f).trans ((works_makeKnown _ _ _ _ _).trans (works_leadRequest _ _ _))

theorem works_partThree (x : LaneId) : Works s (s.partThree x) :=
  .ite (fun _ => (works_modLane s).trans (works_glideStep _ x)) fun _ => .refl s

theorem openBoundary_keeps (l : Lane) (y : U32) : l.Keeps (l.openBoundary y) :=
  Lane.Keeps.trans (m := { l with high := y, glideDue := l.glide.isSome }) (lane_keeps_refl l) (count_keeps _)

theorem works_openAnnounced (x : LaneId) (y : U32) : Works s (s.openAnnounced x y) :=
  (works_modLane s (openBoundary_keeps _ y)).trans <| (works_boundaryEntries x y _ _).trans <|
    .ite (fun _ => works_partThree _ x) fun _ => .refl _

theorem works_workCrossed (x : LaneId) (n : Nat) (y : U32) (s : State) : Works s (State.workCrossed x n y s) := by
  induction n generalizing y s with
  | zero => exact .refl s
  | succ n ih =>
    refine .ite (fun _ => (works_openAnnounced s x y).trans <| .ite (fun _ => (works_partSeven _ _ _ _).trans (ih _ _))
      fun _ => works_modLane _ (countMany_keeps n _)) fun _ => (works_modLane s (count_keeps _)).trans (ih _ _)

theorem works_jumpAndReport (x : LaneId) (f : BoundaryFacts) : Works s (s.jumpAndReport x f) := by
  refine .ite (fun _ => .ite (fun _ => ?forward) fun _ => ?backward) fun _ => works_partSeven s x f _
  case forward =>
    exact ((works_movedLane s x _ _ _).trans (works_setResidual _ x 0 false)).trans
      ((works_partSeven _ x f _).trans (works_workCrossed x _ _ _))
  case backward =>
    obtain ⟨transport, source, meter, tempo⟩ := uncountMany_keeps
      ((s.lane x).pos.beat - ((s.lane x).pos.retreat (s.lane x).residual.natAbs).beat).toNat
      { s.lane x with pos := (s.lane x).pos.retreat (s.lane x).residual.natAbs }
    exact (((Works.refl s).setLane (fun _ => tempo) transport source fun _ => meter).trans
      (works_setResidual _ x 0 false)).trans (works_partSeven _ x f _)

theorem works_partFive (x : LaneId) : Works s (s.partFive x) := .ite (fun _ => works_reduce s x) fun _ => .refl s

theorem works_closeAnnounced (x : LaneId) (y : U32) : Works s (s.closeAnnounced x y) :=
  .ite (fun _ => (works_followCompare s x).trans ((works_partFive _ x).trans (works_jumpAndReport _ x _)))
    fun _ => .refl s

theorem works_workLaneBy {announce : State → LaneId → State} (h : ∀ t x, Works t (announce t x)) (x : LaneId) :
    Works s (s.workLaneBy announce x) :=
  have advanced := (works_advanceLane s x).trans (works_ripenJoins _ (otherLane x))
  .ite (fun _ => .ite (fun _ => advanced.trans (h _ x)) fun _ =>
    .ite (fun _ => advanced.trans (works_modLane _ (count_keeps _))) fun _ => works_advanceLane s x) fun _ => .refl s

theorem works_announceAlone (x : LaneId) : Works s (s.announceAlone x) :=
  (works_openAnnounced s x _).trans (works_closeAnnounced _ x _)

theorem works_leaderFirst (x : LaneId) : Works s (s.leaderFirst x) := by
  refine .ite (fun _ => ?_) fun _ => .refl s
  exact (works_modLane s).trans <| (works_workLaneBy _ works_announceAlone _).trans (works_modLane _)

theorem works_announce (x : LaneId) : Works s (s.announce x) :=
  (works_openAnnounced s x _).trans ((works_leaderFirst _ x).trans (works_closeAnnounced _ x _))

theorem works_workLane (x : LaneId) : Works s (s.workLane x) := works_workLaneBy s works_announce x

theorem works_workFollowing (x : LaneId) : Works s (s.workFollowing x) :=
  .ite (fun _ => (works_workLane s _).trans (works_workLane _ x)) fun _ => works_workLane s x

theorem works_workLanes : Works s s.workLanes :=
  (works_workFollowing s .a).trans ((works_workFollowing _ .b).trans (works_measureKnown _))

theorem works_announcedBoundary (x : LaneId) : Works s (s.announcedBoundary x) := by
  have led : Works s (if (s.lane x).source = .lane then s.workLane (otherLane x) else s) :=
    .ite (fun _ => works_workLane s _) fun _ => .refl s
  exact .ite (fun _ => led.trans ((works_workLane _ x).trans (works_measureKnown _))) fun _ => .refl s

theorem works_silentBoundary (x : LaneId) : Works s (s.silentBoundary x) :=
  .ite (fun _ => (works_workLane s x).trans (works_measureKnown _)) fun _ => .refl s

theorem works_workJoins (x : LaneId) (fuel : Nat) (s : State) : Works s (State.workJoins x fuel s) := by
  induction fuel generalizing s with
  | zero => exact .refl s
  | succ fuel ih =>
    unfold State.workJoins
    split
    · exact .refl s
    · exact (works_carryOutJoin s _ x).trans (ih _)

end

end Sys2Proof.Machine

namespace Sys2Proof.Machine

/-! ## Evaluations of a channel (sections 6.3 to 8.4) -/

section
variable (s : State)

theorem works_countBeats (n : Fin 16) : Works s (s.countBeats n) := by
  rcases countBeats_cases s n with ⟨y, complete, _, h⟩ | ⟨_, h⟩ | h
  · exact h ▸ works_endMember s n y complete
  · exact h ▸ works_countBreak s n
  · exact h.symm ▸ .refl s

theorem works_keepLead (n : Fin 16) (lead : Nat) : Works s (s.modChan n (·.keepLead lead)) :=
  works_modChan s (by simp) (by simp) (by simp)

theorem works_applyCrossing (n : Fin 16) (e : Entry) : Works s (s.applyCrossing n e) := by
  unfold State.applyCrossing
  split
  · next cfg y _ _ =>
    have counted : Works s (if s.movesLane n cfg then s.countBeats n else s) :=
      .ite (fun _ => works_countBeats s n) fun _ => .refl s
    refine counted.trans <| (works_removeEntry _ e.id).trans <| (works_modChan _ ?_ ?_ ?_).trans <|
      (works_applyConfig _ n cfg _).trans (works_postApplied _ e true)
    all_goals simp
  · exact .refl s

theorem works_applyCrossings (n : Fin 16) (fuel : Nat) (s : State) : Works s (State.applyCrossings n fuel s) := by
  induction fuel generalizing s with
  | zero => exact .refl s
  | succ fuel ih =>
    unfold State.applyCrossings
    split
    · exact .refl s
    · exact (works_applyCrossing s n _).trans (ih _)

theorem works_setHeld (n : Fin 16) : Works s (s.setHeld n) := works_modChan s rfl rfl le_rfl

theorem works_applyAtSwitch (n : Fin 16) (entries : List Entry) : Works s (s.applyAtSwitch n entries) :=
  .foldl entries (fun t e _ => by
    split
    · exact (works_removeEntry t e.id).trans <| (works_keepLead _ n _).trans <|
        (works_applyConfig _ n _ _).trans (works_postApplied _ e true)
    · exact .refl t) s

/-! ### The switch of a member -/

/-- Channel `n` stays enabled and RUNNING and the lanes stand, as they do up to the move of a switch. -/
structure State.Ready (s : State) (n : Fin 16) (t : State) : Prop where
  lanes : ∀ x, t.lane x = s.lane x
  enabled : (t.chan n).cfg.enabled = true
  running : (t.chan n).running = true

@[simp] theorem lane_modChan (n : Fin 16) (f : Channel → Channel) (x : LaneId) : (s.modChan n f).lane x = s.lane x :=
  lane_setChan s n _ x

@[simp] theorem lane_removeEntry (id : Nat) (x : LaneId) : (s.removeEntry id).lane x = s.lane x := by cases x <;> rfl

@[simp] theorem chan_removeEntry (id : Nat) (n : Fin 16) : (s.removeEntry id).chan n = s.chan n := rfl

@[simp] theorem lane_postApplied (e : Entry) (applied : Bool) (x : LaneId) :
    (s.postApplied e applied).lane x = s.lane x := lane_post s _ x

/-- What a configuration of an enabled channel that stays enabled does at a handover switch: no lane change (R77). -/
theorem applyConfig_switch {n : Fin 16} {cfg : ChannelConfig} (was : (s.chan n).cfg.enabled = true)
    (enabled : cfg.enabled = true) :
    let old := (s.chan n).cfg
    let taken := if old.function = cfg.function then s.modChan n fun c => { c with cfg := { cfg with lane := old.lane } }
      else s.functionChange n { cfg with lane := old.lane }
    s.applyConfig n cfg .switch =
      if cfg.barCodes then taken else taken.modChan n fun c => { c with barDue := false, phraseDue := false } := by
  simp [State.applyConfig, was, enabled, State.reconfigure]

theorem ready_applyConfig {s t : State} {n : Fin 16} (h : s.Ready n t) {cfg : ChannelConfig} (enabled : cfg.enabled = true) :
    s.Ready n (t.applyConfig n cfg .switch) := by
  rw [applyConfig_switch t h.enabled enabled]
  generalize hu : (if (t.chan n).cfg.function = cfg.function then _ else _ : State) = u
  have taken : s.Ready n u := by
    rw [← hu]
    split
    · exact ⟨by simpa using h.lanes, by simpa using enabled, by simpa using h.running⟩
    · exact ⟨by simpa [State.functionChange] using h.lanes, by simpa [chan_functionChange] using enabled,
        (functionChange_keeps t n _).1.trans h.running⟩
  split
  · exact taken
  · exact ⟨by simpa using taken.lanes, by simpa using taken.enabled, by simpa using taken.running⟩

theorem ready_applyAtSwitch {s t : State} {n : Fin 16} (h : s.Ready n t) {entries : List Entry}
    (enabled : ∀ e ∈ entries, e.keepsEnabled = true) : s.Ready n (t.applyAtSwitch n entries) := by
  refine foldl_keeps (P := s.Ready n) t entries (fun u e he hu => ?_) h
  split
  · next m cfg hc =>
    have stays : cfg.enabled = true := by simpa [Entry.keepsEnabled, hc] using enabled e he
    have before : s.Ready n ((u.removeEntry e.id).modChan n (·.keepLead cfg.lead)) :=
      ⟨by simpa using hu.lanes, by simpa using hu.enabled, by simpa using hu.running⟩
    have applied := ready_applyConfig before stays
    exact ⟨by simpa using applied.lanes, by simpa using applied.enabled, by simpa using applied.running⟩
  · exact hu

theorem ready_countBeforeSwitch {s : State} {n : Fin 16} (h : s.Ready n s) : s.Ready n (s.countBeforeSwitch n) := by
  rcases countBeforeSwitch_cases s n with ⟨_, e⟩ | ⟨_, e⟩
  · exact e.symm ▸ h
  · rw [e]
    unfold State.countBreak
    split
    · dsimp only
      split
      · exact ⟨by simp, by simpa using h.enabled, by simpa using h.running⟩
      · exact h
    · exact h

theorem switchActions_keeps (c : Channel) (l : Lane) (y : U32) (quiet : Bool) :
    (c.switchActions l y quiet).cfg = c.cfg ∧ (c.switchActions l y quiet).running = c.running ∧
      (c.switchActions l y quiet).fifo = c.fifo := by
  unfold Channel.switchActions
  split
  · exact ⟨rfl, rfl, rfl⟩
  · exact ⟨rfl, rfl, rfl⟩
  · split <;> simp
  · exact ⟨rfl, rfl, rfl⟩

theorem frames_moveMember (n : Fin 16) (x : LaneId) (y : U32) : Frames s (s.moveMember n x y) :=
  frames_setChan s (by simp only [remark_keeps, switchActions_keeps, reorigin_fifo, imp_self])

/-- The member moves as an enabled and RUNNING channel to a RUNNING lane (R102, R151). -/
theorem works_moveMember {n : Fin 16} {x : LaneId} (y : U32) (enabled : (s.chan n).cfg.enabled = true)
    (running : (s.chan n).running = true) (lane : (s.lane x).isRunning = true) : Works s (s.moveMember n x y) := by
  refine works_setChan s ?_ fun _ => ?_
  · simp only [remark_keeps, switchActions_keeps, reorigin_fifo, imp_self]
  · simp only [State.agreesWith, remark_keeps, remark_cfg, switchActions_keeps, reorigin_cfg, reorigin_running, enabled,
      running, lane, Bool.and_true]

theorem works_recordSwitch (n : Fin 16) : Works s (s.recordSwitch n) := by
  unfold State.recordSwitch
  split
  · exact .refl s
  · exact (works_setHo s _ _).trans (works_modChan _ rfl rfl le_rfl)

/-- A member that switches is RUNNING, and so an enabled channel (R102), and stays one up to its move. -/
theorem ready_before_move {s : State} {n : Fin 16} (agrees : s.runningAgrees) (running : (s.chan n).running = true) :
    s.Ready n ((s.countBeforeSwitch n).applyAtSwitch n ((s.channelEntries n).takeWhile (·.keepsEnabled))) := by
  have both := (agrees n).symm.trans running
  have enabled : (s.chan n).cfg.enabled = true := (Bool.and_eq_true _ _ ▸ both).1
  exact ready_applyAtSwitch (ready_countBeforeSwitch ⟨fun _ => rfl, enabled, running⟩) fun e he =>
    List.mem_takeWhile_imp he

theorem works_switchMember {s : State} {n : Fin 16} (due : s.switchDue n = true) : Works s (s.switchMember n) := by
  obtain ⟨y, x, found, running, _, lane, _⟩ := switchDue_some s due
  simp only [State.switchMember, found]
  have before := (works_countBeforeSwitch s n).trans (works_applyAtSwitch _ n ((s.channelEntries n).takeWhile (·.keepsEnabled)))
  have after (t : State) := (works_recordSwitch t n).trans (works_applyAtSwitch _ n ((s.channelEntries n).dropWhile (·.keepsEnabled)))
  refine ⟨before.toFrames.trans ((frames_moveMember _ n x y).trans (after _).toFrames), fun agrees => ?_⟩
  have ready := ready_before_move agrees running
  have moved := works_moveMember _ y ready.enabled ready.running (ready.lanes x ▸ lane)
  exact (before.trans (moved.trans (after _))).running agrees

/-! ### Parts 2 to 6 -/

theorem works_judgeBreak (n : Fin 16) : Works s (s.judgeBreak n) := by
  unfold State.judgeBreak
  extract_lets t
  have entered : Works s t := .ite (fun _ => works_enterBreak s n) fun _ => .refl s
  split
  · exact entered.trans (works_endMember t n _ _)
  · exact entered.trans (.ite (fun _ => works_countBreak t n) fun _ => .refl t)

theorem works_workSwitch (n : Fin 16) : Works s (s.workSwitch n) := by
  refine .ite (fun due => ?_) fun _ => .refl s
  split
  · exact (works_switchMember due).trans ((works_judgeBreak _ n).trans (works_finishHandover _ _))
  · exact .refl s

theorem works_partTwoChannel (n : Fin 16) : Works s (s.partTwoChannel n) :=
  (works_applyCrossings n _ s).trans <| (works_workSwitch _ n).trans <|
    (Works.ite (fun _ => works_setHeld _ n) fun _ => .refl _).trans (works_judgeBreak _ n)

theorem crossings_keeps (c : Channel) (l : Lane) (x : U32) (quiet : Bool) :
    (c.crossings l x quiet).cfg = c.cfg ∧ (c.crossings l x quiet).running = c.running ∧
      (c.crossings l x quiet).fifo = c.fifo := by
  unfold Channel.crossings
  split
  · dsimp only
    split
    · exact ⟨rfl, rfl, rfl⟩
    · exact ⟨rfl, rfl, rfl⟩
    · split <;> exact ⟨rfl, rfl, rfl⟩
    · exact ⟨rfl, rfl, rfl⟩
  · exact ⟨rfl, rfl, rfl⟩

/-- Part 5 keeps a channel's configuration and running state, and puts codes into the FIFO only where the check of R125
found room for them. -/
theorem act_keeps (c : Channel) (l : Lane) (t : U32) (now : Nat) (tick bar code muted : Bool) :
    (c.act l t now tick bar code muted).cfg = c.cfg ∧ (c.act l t now tick bar code muted).running = c.running ∧
      ((code = true → c.fifo.length + c.tickCodes.length ≤ 8) → c.fifo.length ≤ 8 →
        (c.act l t now tick bar code muted).fifo.length ≤ 8) := by
  unfold Channel.act
  split
  · exact ⟨rfl, rfl, fun _ => id⟩
  · split
    · exact ⟨rfl, rfl, fun _ => id⟩
    · split
      · next queued => exact ⟨rfl, rfl, fun room _ => by simpa using room queued⟩
      · split <;> exact ⟨rfl, rfl, fun _ => id⟩

theorem works_completeEvaluation (n : Fin 16) : Works s (s.completeEvaluation n) := by
  obtain ⟨cfg, running, fifo⟩ := act_keeps (s.crossed n) (s.laneOf n) (s.targetCount n) s.clock (s.tickPulseDue n)
    (s.barPulseDue n) (s.tickCodeDue n) (s.muted n)
  obtain ⟨cfg', running', fifo'⟩ : (s.crossed n).cfg = (s.chan n).cfg ∧ (s.crossed n).running = (s.chan n).running ∧
    (s.crossed n).fifo = (s.chan n).fifo := crossings_keeps _ _ _ _
  refine works_setChan s (fun h => fifo (fun due => ?_) (fifo' ▸ h)) fun h => ?_
  · simp only [State.tickCodeDue, Bool.and_eq_true, decide_eq_true_eq] at due
    exact due.2
  · simp only [State.agreesWith, cfg, running, cfg', running']
    exact h

theorem works_endPulse (n : Fin 16) : Works s (s.endPulse n) := works_modChan s rfl rfl le_rfl

theorem works_moveGate (n : Fin 16) : Works s (s.moveGate n) := works_modChan s rfl rfl le_rfl

/-- The transport item moves into the FIFO where it has room (R124). -/
theorem works_moveSlot {n : Fin 16} (due : s.slotDue n = true) : Works s (s.modChan n (·.moveSlot)) := by
  unfold State.slotDue at due
  dsimp only at due
  split at due
  · next item held =>
    simp only [Bool.and_eq_true, decide_eq_true_eq] at due
    refine works_setChan s (fun _ => ?_) fun h => ?_
    · simpa [Channel.moveSlot, held] using due.2
    · simpa [Channel.moveSlot, held, State.agreesWith] using h
  · cases due

theorem takeChar_keeps (c : Channel) (age : Nat) : (c.takeChar age).cfg = c.cfg ∧ (c.takeChar age).running = c.running := by
  unfold Channel.takeChar
  split <;> exact ⟨rfl, rfl⟩

theorem works_takeChar (n : Fin 16) (age : Nat) : Works s (s.modChan n (·.takeChar age)) :=
  works_modChan s (takeChar_keeps _ age).1 (takeChar_keeps _ age).2 (takeChar_fifo_length _ age)

theorem works_endChar (n : Fin 16) : Works s (s.modChan n (·.endChar)) := by
  have kept : ((s.chan n).endChar.cfg = (s.chan n).cfg ∧ (s.chan n).endChar.running = (s.chan n).running) ∧
      (s.chan n).endChar.fifo.length ≤ (s.chan n).fifo.length := by
    unfold Channel.endChar
    split
    · exact ⟨takeChar_keeps _ _, takeChar_fifo_length _ _⟩
    · exact ⟨⟨rfl, rfl⟩, le_rfl⟩
  exact works_modChan s kept.1.1 kept.1.2 kept.2

theorem works_modChan_ite {n : Fin 16} {p : Channel → Bool} {f : Channel → Channel} (h : Works s (s.modChan n f)) :
    Works s (s.modChan n fun c => if p c then f c else c) := by
  by_cases hp : p (s.chan n) = true
  · simpa only [State.modChan, hp, if_true] using h
  · simpa only [State.modChan, hp, if_false, Bool.false_eq_true] using works_modChan s (f := fun c => c) rfl rfl le_rfl

theorem works_closeChannel (n : Fin 16) : Works s (s.closeChannel n) := by
  unfold State.closeChannel
  extract_lets ended charEnded partTwo moved evaluated gated
  have h1 : Works s ended := .ite (fun _ => works_endPulse s n) fun _ => .refl s
  have h2 : Works ended charEnded := works_modChan_ite _ (works_endChar _ n)
  have h3 : Works charEnded partTwo := works_partTwoChannel _ n
  have h4 : Works partTwo moved := .ite (fun due => works_moveSlot _ due) fun _ => .refl _
  have h5 : Works moved evaluated := .ite (fun _ => works_completeEvaluation _ n) fun _ => .refl _
  have h6 : Works evaluated gated := .ite (fun _ => works_moveGate _ n) fun _ => .refl _
  have h7 := works_modChan_ite gated (p := (·.charDue)) (works_takeChar gated n 0)
  exact h1.trans (h2.trans (h3.trans (h4.trans (h5.trans (h6.trans h7)))))

end

end Sys2Proof.Machine

namespace Sys2Proof.Machine

/-! ## The rules of the request catalogue (R186) -/

section
variable {s : State}

theorem queueFull_of_schedulerBar {take : TakeMode} {x : LaneId} (h : s.schedulerBar take x = none)
    (later : take ≠ .immediate) : s.queueFull = false := by
  unfold State.schedulerBar at h
  split at h
  · cases h
  · split at h
    · cases h
    · next free => simpa [later] using free

/-- A change that the scheduler's checks let pass: carried out at once, or an entry with legal values. -/
theorem works_schedule {take : TakeMode} {x : LaneId} {c : Change} {now : State → State}
    (passes : s.schedulerBar take x = none) (meter : c.meterLegal) (tempo : c.tempoLegal)
    (atOnce : take = .immediate → Works s (now s)) : Works s (s.schedule take x c now).1 := by
  unfold State.schedule
  split
  · next immediate => exact atOnce immediate
  · next later => exact works_addEntry s _ _ _ (queueFull_of_schedulerBar passes later) meter fun _ => tempo

variable (p : List Byte) (s)

theorem works_setTempo : Works s (setTempo p s).1 := by
  unfold setTempo
  split
  · split
    · exact .refl s
    · split
      · exact .refl s
      · next passes =>
        exact works_schedule passes trivial (incLegal_tempoToIncrement _)
          fun _ => (Works.refl s).applyTempo _ _ fun _ => incLegal_tempoToIncrement _
  · exact .refl s

theorem inRange_some {lo hi v w : Nat} (h : inRange lo hi v = some w) : lo ≤ w ∧ w ≤ hi := by
  unfold inRange at h
  split at h
  · next within =>
    cases h
    simpa using within
  · cases h

/-- A METER that SET_METER carries out at once stands on a STOPPED lane (R29). -/
theorem stopped_of_meterTake_immediate {take : TakeMode} {x y : LaneId} {running : Bool}
    (h : (meterTake take x y running).1 = .immediate) : running = false := by
  unfold meterTake at h
  split at h
  · cases h
  · next given => simpa [show take = .immediate from h] using given

theorem works_setMeter : Works s (setMeter p s).1 := by
  unfold setMeter
  split
  · next x beats bars given named _ hbeats hbars _ _ =>
    have legal : meterLegal beats bars :=
      ⟨(inRange_some hbeats).1, (inRange_some hbeats).2, (inRange_some hbars).1, (inRange_some hbars).2⟩
    dsimp only
    split
    · exact .refl s
    · next passes =>
      refine works_schedule passes legal trivial fun immediate => (Works.refl s).applyMeter (fun _ => legal) fun run => ?_
      rw [stopped_of_meterTake_immediate immediate] at run
      cases run
  · exact .refl s

theorem works_setSource : Works s (setSource p s).1 := by
  unfold setSource
  split
  · split
    · exact .refl s
    · split
      · exact .refl s
      · next passes => exact works_schedule passes trivial trivial fun _ => works_applySource s _ _
  · exact .refl s

theorem works_transportRule : Works s (transportRule p s).1 := by
  unfold transportRule
  split
  · split
    · exact .refl s
    · dsimp only
      split
      · exact .refl s
      · exact .refl s
      · next passes => exact works_schedule passes trivial trivial fun _ => works_applyTransport s _ _
  · exact .refl s

theorem works_nudge : Works s (nudge p s).1 := by
  unfold nudge
  split
  · exact .refl s
  · dsimp only
    split
    · exact works_nudgeLane s _ _
    · exact .refl s

theorem works_copyRule : Works s (copyRule p s).1 := by
  unfold copyRule
  split
  · split
    · exact .refl s
    · split
      · exact .refl s
      · next passes => exact works_schedule passes trivial trivial fun _ => works_copyLane s _
  · exact .refl s

theorem works_readLane : Works s (readLane p s).1 := by
  unfold readLane
  split <;> exact .refl s

theorem withSettings_estimate (t : RefTracker) (q : Nat) (downbeat realign : Bool) :
    (t.withSettings q downbeat realign).estimate = t.estimate := by
  unfold RefTracker.withSettings
  dsimp only
  split <;> rfl

theorem works_applyReference (q : Nat) (downbeat realign : Bool) : Works s (s.applyReference q downbeat realign) :=
  (works_setRef s (s.ref.withSettings q downbeat realign) fun h => (withSettings_estimate _ _ _ _).symm ▸ h.2.2.2.1).trans <|
    (Works.ite (fun _ => works_refEnterHoldover _) fun _ => .refl _).trans <|
    .ite (fun _ => works_forFollowers _ _ fun x t => works_rangeResidual t x) fun _ => .refl _

theorem works_setReference : Works s (setReference p s).1 := by
  unfold setReference
  split
  · exact works_applyReference s _ _ _
  · exact .refl s

theorem works_listChanges : Works s (listChanges p s).1 := by
  unfold listChanges
  split <;> exact .refl s

theorem works_cancelChange : Works s (cancelChange p s).1 := by
  unfold cancelChange
  split
  · split
    · exact works_cancelEntries s _
    · exact .refl s
  · split
    · exact works_cancelEntries s _
    · exact .refl s
  · exact works_cancelEntries s _
  · exact .refl s

/-! ### Presets and cues (chapters 4 and 5) -/

theorem works_setPreset (i : Fin 16) {r : Preset} (legal : incLegal r.increment) :
    Works s { s with presets := s.presets.set i.val r i.isLt } :=
  ⟨⟨⟨rfl, rfl, rfl, rfl⟩, rfl, rfl, rfl, rfl, fun b => match b with
    | .tempos => fun ⟨a, b, tap, ref, bus, presets, queue⟩ => ⟨a, b, tap, ref, bus, fun m => by
        simp only [State.preset, Fin.getElem_fin, Vector.getElem_set]
        split
        · exact legal
        · exact presets m, queue⟩
    | .queue | .notices | .fifos | .following | .meters => id⟩, id⟩

theorem works_strobe (u : Strobe) : Works s { s with strobe := u } :=
  ⟨⟨⟨rfl, rfl, rfl, rfl⟩, rfl, rfl, rfl, rfl, fun b => by cases b <;> exact id⟩, id⟩

theorem works_writePreset : Works s (writePreset p s).1 := by
  unfold writePreset
  split
  · exact works_setPreset s _ (incLegal_tempoToIncrement _)
  · exact .refl s

theorem works_writeStrobe : Works s (writeStrobe p s).1 := by
  unfold writeStrobe
  split
  · exact works_strobe s _
  · exact .refl s

theorem works_readPreset : Works s (readPreset p s).1 := by
  unfold readPreset
  split <;> exact .refl s

variable {s} in
theorem queueFull_of_recallBar {i : Fin 16} {x : LaneId} (h : s.recallBar i x = none)
    (boundary : (s.preset i).take ≠ .immediate) : s.queueFull = false := by
  rw [recallBar_eq] at h
  simp only [boundary, if_false] at h
  split at h
  · cases h
  · split at h
    · cases h
    · split at h
      · cases h
      · next room => simpa [State.queueFull] using room

variable {s} in
theorem works_recall {i : Fin 16} {x : LaneId} (cause : RecallCause) (passes : s.recallBar i x = none) :
    Works s (s.recall i x cause).1 := by
  have legal : s.temposLegal → incLegal (s.preset i).increment := fun ⟨_, _, _, _, _, presets, _⟩ => presets i
  by_cases take : (s.preset i).take = .immediate
  · simp only [State.recall, take]
    exact ((Works.refl s).applyTempo x _ legal).trans (works_post _ _)
  · rw [recall_of_boundary s i x cause take]
    exact (works_addEntry s (c := .tempo x _ _) _ _ _ (queueFull_of_recallBar passes take) trivial legal).trans (works_post _ _)

theorem works_applyPreset : Works s (applyPreset p s).1 := by
  unfold applyPreset
  split
  · split
    · exact .refl s
    · next passes => exact works_recall _ passes
  · exact .refl s

theorem works_strobeRecall (i : Fin 16) (x : LaneId) : Works s (s.strobeRecall i x) := by
  unfold State.strobeRecall
  split
  · exact works_post s _
  · exact works_post s _
  · exact works_modSticky s _
  · next passes => exact works_recall _ passes

theorem works_strobeEdge : Works s s.strobeEdge := by
  refine .ite (fun _ => ?_) fun _ => .refl s
  exact (works_strobe s _).trans (.foldl _ (fun t x _ => works_strobeRecall t _ x) _)

theorem works_setCue : Works s (setCue p s).1 := by
  unfold setCue
  split
  · exact works_cues s _
  · exact .refl s

/-! ### Channels, breaks and handovers (chapters 6 to 8) -/

theorem works_setChannel : Works s (setChannel p s).1 := by
  unfold setChannel
  split
  · dsimp only
    split
    · exact .refl s
    · split
      · exact .refl s
      · next passes => exact works_schedule passes trivial trivial fun _ => works_applyConfig s _ _ _
  · exact .refl s

theorem works_readChannel : Works s (readChannel p s).1 := by
  unfold readChannel
  split <;> exact .refl s

theorem works_openBreak (r : Fin 4) (set : ChannelSet) (mode : BreakMode) (length : Nat) (take : TakeMode)
    (timing : LaneId) : Works s (s.openBreak r set mode length take timing) := by
  unfold State.openBreak
  extract_lets due opened members
  have h1 : Works s opened := works_setBrk s r _
  have h2 : Works opened members := .forChannels (fun n t => by
    split
    · exact works_modChan t rfl rfl le_rfl
    · exact .refl t) _
  refine (h1.trans h2).trans ?_
  cases due with
  | beat y => exact works_markPassed _ _ _ _
  | cue _ | absent => exact .refl _

theorem works_startBreak : Works s (startBreak p s).1 := by
  unfold startBreak
  dsimp only
  split
  · split
    · exact .refl s
    · split
      · exact .refl s
      · exact .refl s
      · exact works_openBreak s _ _ _ _ _ _
  · exact .refl s

theorem works_cancelBreak (r : Fin 4) (b : BreakRecord) : Works s (s.cancelBreak r b) := by
  refine .ite (fun _ => .refl s) fun _ => (works_setBrk s r _).trans (.trans (.forChannels (fun n t => ?_) _) (works_finishBreak _ r))
  split
  · exact works_modChan t rfl rfl le_rfl
  · exact .refl t

theorem works_cancelBreakRule : Works s (cancelBreakRule p s).1 := by
  unfold cancelBreakRule
  split
  · exact .refl s
  · split
    · exact .refl s
    · exact works_cancelBreak s _ _

theorem works_readBreaks : Works s (readBreaks p s).1 := by
  unfold readBreaks
  split <;> exact .refl s

theorem works_openHandover (r : Fin 4) (set : ChannelSet) (toLane : LaneId) (mode : HandoverMode) (align : AlignLength)
    (window : Window) (deadline : Nat) : Works s (s.openHandover r set toLane mode align window deadline) := by
  unfold State.openHandover
  extract_lets h opened known members
  have h1 : Works s opened := works_setHo s r _
  have h2 : Works opened known := works_known _ _
  have h3 : Works known members := .forChannels (fun n t => by
    split
    · exact works_modChan t rfl rfl le_rfl
    · exact .refl t) _
  refine (h1.trans (h2.trans h3)).trans ?_
  split
  · exact .refl _
  · exact works_setHo _ _ _

theorem works_startHandover : Works s (startHandover p s).1 := by
  unfold startHandover
  dsimp only
  split
  · split
    · exact .refl s
    · split
      · exact .refl s
      · exact .refl s
      · exact works_openHandover s _ _ _ _ _ _ _
  · exact .refl s

theorem works_cancelHandoverRule : Works s (cancelHandoverRule p s).1 := by
  unfold cancelHandoverRule
  split
  · exact .refl s
  · split
    · exact .refl s
    · exact works_cancelHandover s _

theorem works_readHandovers : Works s (readHandovers p s).1 := by
  unfold readHandovers
  split <;> exact .refl s

/-! ### The bus and the link (chapters 9 and 10) -/

theorem works_setBus : Works s (setBus p s).1 := by
  unfold setBus
  split
  · exact works_modBus s (·.withSettings _)
  · exact .refl s

theorem works_resetBusTracker (n : Fin 8) : Works s (s.resetBusTracker n) :=
  (works_setBusTracker s n .reset fun _ => trivial).trans
    (.ite (fun _ => .refl _) fun _ => works_becameSearching _ _ _ _ _)

theorem works_writeFilter : Works s (writeFilter p s).1 := by
  unfold writeFilter
  split
  · exact (works_modBus s _).trans (works_resetBusTracker _ _)
  · exact .refl s

theorem works_readBus : Works s (readBus p s).1 := by
  unfold readBus
  split
  · exact .refl s
  · exact .refl s
  · split <;> exact .refl s
  · exact .refl s

theorem works_status : Works s (status p s).1 := works_modSticky s fun _ => .clear

theorem works_setNoticeMask : Works s (setNoticeMask p s).1 := by
  unfold setNoticeMask
  dsimp only
  split
  · exact works_modLink s (f := fun k => { k with mask := _ }) rfl rfl id
  · exact .refl s

end

end Sys2Proof.Machine

/-! What every command keeps: the queue of waiting commands, and every bound and range. The host link's own work, the
resets and the phase step are joined here to what the operations of the blocks keep. -/

namespace Sys2Proof.Machine

/-! ## The relation -/

/-- From `s` to `t` the waiting commands stand, and every bound and range is kept. -/
structure Runs (s t : State) : Prop where
  pending : t.pending = s.pending
  link : s.linkBounded → t.linkBounded
  bounds : ∀ b, b ≠ .notices → s.meets b → t.meets b
  running : s.runningAgrees → t.runningAgrees

theorem Runs.refl (s : State) : Runs s s := ⟨rfl, id, fun _ _ => id, id⟩

theorem Runs.trans {s t u : State} (h : Runs s t) (g : Runs t u) : Runs s u :=
  ⟨g.pending.trans h.pending, g.link ∘ h.link, fun b hb => g.bounds b hb ∘ h.bounds b hb, g.running ∘ h.running⟩

theorem Runs.ite {s t u : State} {p : Prop} [Decidable p] (h : p → Runs s t) (g : ¬ p → Runs s u) :
    Runs s (if p then t else u) := by
  split
  · exact h ‹_›
  · exact g ‹_›

theorem Works.runs {s t : State} (h : Works s t) : Runs s t where
  pending := h.pending
  link bounded := by
    obtain ⟨requests, refusals, replies, notices⟩ := bounded
    exact ⟨by rwa [h.requests], by rwa [h.requests], by rwa [h.replies], h.bounds .notices notices⟩
  bounds b _ := h.bounds b
  running := h.running

section
variable (s : State)

/-- A change of the host link that keeps the bounds of its queues. -/
theorem runs_modLink {f : Link → Link} (h : s.linkBounded → (s.modLink f).linkBounded) : Runs s (s.modLink f) :=
  ⟨rfl, h, fun b hb => by
    cases b with
    | notices => exact absurd rfl hb
    | queue | fifos | following | meters | tempos => exact id, id⟩

/-- A change of the host link outside its queues. -/
theorem runs_modLink_of_queues {f : Link → Link} (requests : (f s.link).requests = s.link.requests)
    (replies : (f s.link).replies = s.link.replies) (notices : (f s.link).notices = s.link.notices) :
    Runs s (s.modLink f) :=
  runs_modLink s fun ⟨requestsLe, refusalsLe, repliesLe, noticesLe⟩ =>
    ⟨by simpa only [State.modLink, requests] using requestsLe, by simpa only [State.modLink, requests] using refusalsLe,
      by simpa only [State.modLink, replies] using repliesLe, by simpa only [State.modLink, notices] using noticesLe⟩

theorem runs_setRx (rx : HostRx) : Runs s (s.setRx rx) := runs_modLink_of_queues s rfl rfl rfl

theorem runs_modCounts (f : LinkCounts → LinkCounts) : Runs s (s.modCounts f) := runs_modLink_of_queues s rfl rfl rfl

/-! ## Requests and replies (R185 to R187) -/

theorem runs_takeHead : Runs s s.takeHead :=
  runs_modLink s fun ⟨requests, refusals, replies, notices⟩ =>
    ⟨(requestsHeld_tail _).trans requests, (refusalsHeld_tail _).trans refusals, replies, notices⟩

theorem runs_reply (type tag : Byte) (p : List Byte) (z : Bool) (room : s.link.replies.length < 4) :
    Runs s (s.reply type tag p z) :=
  runs_modLink s fun ⟨requests, refusals, _, notices⟩ => ⟨requests, refusals, by simpa [State.modLink] using room, notices⟩

variable {s} in
/-- A request handled by a rule that keeps the bounds. -/
theorem runs_answered {t : State} (type tag : Byte) (p : List Byte) (room : s.link.replies.length < 4)
    (h : Works s.takeHead t) : Runs s (answered t type tag p) :=
  (runs_takeHead s).trans (h.runs.trans (runs_reply t _ _ _ _ (h.replies ▸ room)))

theorem runs_handle (type : Byte) (mine : List Byte → Bool) (len : Nat) {rule : List Byte → State → State × Answer}
    (h : ∀ t p, Works t (rule p t).1) : Runs s (s.handle type mine len rule) := by
  rcases handle_cases (s := s) (type := type) (mine := mine) (len := len) (rule := rule) with
    e | ⟨tag, p, ⟨_, room, _⟩, _, ⟨_, e⟩ | ⟨_, e⟩⟩
  · exact e.symm ▸ .refl s
  · exact e.symm ▸ runs_answered _ _ _ room (h _ _)
  · exact e.symm ▸ runs_answered _ _ _ room (.refl _)

theorem runs_handleReset : Runs s s.handleReset := by
  unfold State.handleReset
  split
  · exact .refl s
  · next f found =>
    obtain ⟨_, _, _, room, _⟩ := headOf_some found
    refine .ite (fun _ => ?_) fun _ => runs_answered _ _ _ room (.refl _)
    have pended : Works s.takeHead (s.takeHead.modLink fun k => { k with resetPending := true }) :=
      works_modLink _ rfl rfl id
    exact (runs_takeHead s).trans (pended.runs.trans (runs_reply _ _ _ _ _ room))

theorem runs_unknownType : Runs s s.unknownType := by
  unfold State.unknownType
  split
  · next found =>
    exact .ite (fun _ => .refl s) fun _ => runs_answered _ _ _ (replies_lt_of_head found) (.refl _)
  · exact .refl s

theorem runs_answerBusy : Runs s s.answerBusy := by
  unfold State.answerBusy
  split
  · next found => exact runs_answered _ _ _ (replies_lt_of_head found) (.refl _)
  · exact .refl s

/-- The rule of a row of the request catalogue, where there is one, keeps the bounds. -/
def RuleWorks : Option (Nat × (List Byte → State → State × Answer)) → Prop
  | none => True
  | some r => ∀ t p, Works t (r.2 p t).1

theorem RuleWorks.ite {c : Prop} [Decidable c] {len : Nat} {rule : List Byte → State → State × Answer}
    {rest : Option (Nat × (List Byte → State → State × Answer))} (h : ∀ t p, Works t (rule p t).1)
    (g : RuleWorks rest) : RuleWorks (if c then some (len, rule) else rest) := by
  split
  · exact h
  · exact g

theorem ruleWorks_ruleOf (type : Byte) (p : List Byte) : RuleWorks (ruleOf type p) := by
  have write (t : State) (q : List Byte) : Works t ((if isStrobeWrite p then writeStrobe else writePreset) q t).1 := by
    split
    · exact works_writeStrobe t q
    · exact works_writePreset t q
  exact .ite (fun t _ => .refl t) <| .ite works_status <| .ite works_setNoticeMask <| .ite works_setTempo <|
    .ite works_setMeter <| .ite works_setSource <| .ite works_transportRule <| .ite works_nudge <|
    .ite works_copyRule <| .ite works_readLane <| .ite works_setReference <| .ite works_listChanges <|
    .ite works_cancelChange <| .ite write <| .ite works_readPreset <| .ite works_applyPreset <| .ite works_setCue <|
    .ite works_setChannel <| .ite works_readChannel <| .ite works_startBreak <| .ite works_cancelBreakRule <|
    .ite works_readBreaks <| .ite works_startHandover <| .ite works_cancelHandoverRule <|
    .ite works_readHandovers <| .ite works_setBus <| .ite works_writeFilter <| .ite works_readBus trivial

theorem runs_handleHead : Runs s s.handleHead := by
  unfold State.handleHead
  split
  · exact .refl s
  · exact runs_answerBusy s
  · next f _ =>
    split
    · next found =>
      have sound := ruleWorks_ruleOf f.type f.payload
      rw [found] at sound
      exact runs_handle s _ _ _ sound
    · exact .ite (fun _ => runs_handleReset s) fun _ => runs_unknownType s

/-! ## Received characters (R182 to R185) -/

theorem runs_placeFrame (f : HostFrame) : Runs s (s.placeFrame f) := by
  rcases placeFrame_cases f (s := s) with ⟨room, e⟩ | ⟨_, room, e⟩ | ⟨_, _, e⟩
  · exact e ▸ runs_modLink s fun ⟨_, refusals, replies, notices⟩ =>
      ⟨by simpa [State.modLink] using room, by simpa [State.modLink] using refusals, replies, notices⟩
  · exact e ▸ runs_modLink s fun ⟨requests, _, replies, notices⟩ =>
      ⟨by simpa [State.modLink] using requests, by simpa [State.modLink] using room, replies, notices⟩
  · exact e ▸ runs_modCounts s _

theorem runs_verifyFrame : Runs s s.verifyFrame := by
  unfold State.verifyFrame
  split
  · exact .refl s
  · have taken : Runs s (s.modLink fun k => { k with complete := none }) := runs_modLink_of_queues s rfl rfl rfl
    exact taken.trans (.ite (fun _ => runs_placeFrame _ _) fun _ => runs_modCounts _ _)

theorem runs_gapTimeout : Runs s s.gapTimeout := (runs_setRx s _).trans (runs_modCounts _ _)

theorem runs_takeChar (v : Byte) : Runs s (s.takeChar v) := by
  unfold State.takeChar
  extract_lets stamped
  refine Runs.trans (t := stamped) (runs_modLink_of_queues s rfl rfl rfl) ?_
  split
  · exact .ite (fun _ => runs_setRx _ _) fun _ => runs_modCounts _ _
  · exact .ite (fun _ => runs_setRx _ _) fun _ => (runs_setRx _ _).trans (runs_modCounts _ _)
  · exact runs_setRx _ _
  · exact runs_setRx _ _
  · exact runs_setRx _ _
  · exact runs_setRx _ _
  · exact (runs_setRx stamped _).trans (runs_modLink_of_queues _ rfl rfl rfl)

theorem runs_charError : Runs s s.charError := (runs_modCounts s _).trans (runs_modLink_of_queues _ rfl rfl rfl)

theorem runs_hostCharacter (v : Byte) (stopHigh : Bool) : Runs s (s.hostCharacter v stopHigh) :=
  .ite (fun _ => .refl s) fun _ => (runs_verifyFrame s).trans <|
    .ite (fun _ => runs_takeChar _ v) fun _ => runs_charError _

/-! ## The transmitter (R188) -/

theorem runs_beginReply : Runs s (s.modLink (·.beginReply)) :=
  runs_modLink s fun ⟨requests, refusals, replies, notices⟩ => by
    simp only [State.linkBounded, State.modLink, Link.beginReply]
    split
    · next first => exact ⟨requests, refusals, by rw [first] at replies; simpa using Nat.le_of_succ_le replies, notices⟩
    · exact ⟨requests, refusals, replies, notices⟩

theorem runs_beginNotice : Runs s (s.modLink (·.beginNotice)) :=
  runs_modLink s fun ⟨requests, refusals, replies, notices⟩ => by
    simp only [State.linkBounded, State.modLink, Link.beginNotice]
    split
    · next first => exact ⟨requests, refusals, replies, by rw [first] at notices; simpa using Nat.le_of_succ_le notices⟩
    · exact ⟨requests, refusals, replies, notices⟩

theorem runs_choose : Runs s (s.modLink (·.choose)) := by
  have cases_ : s.modLink (·.choose) = s.modLink (·.beginReply) ∨ s.modLink (·.choose) = s.modLink (·.beginNotice) ∨
      s.modLink (·.choose) = s.modLink (fun k => { k with tx := .idle }) ∨ s.modLink (·.choose) = s := by
    simp only [State.modLink, Link.choose]
    split
    · split
      · exact .inl rfl
      · split
        · exact .inr (.inl rfl)
        · exact .inr (.inr (.inl rfl))
    · exact .inr (.inr (.inr rfl))
  rcases cases_ with e | e | e | e
  · exact e ▸ runs_beginReply s
  · exact e ▸ runs_beginNotice s
  · exact e ▸ runs_modLink_of_queues s rfl rfl rfl
  · exact e.symm ▸ .refl s

/-! ## Resets (R194, R195) -/

theorem resetValues_chan (mode : PartMode) (rate : HostRate) (pins : SelectPins) (pending : List Instr) (n : Fin 16) :
    (State.resetValues mode rate pins pending).chan n = .reset := by
  simp [State.chan, State.resetValues]

theorem resetValues_lane (mode : PartMode) (rate : HostRate) (pins : SelectPins) (pending : List Instr) (x : LaneId) :
    (State.resetValues mode rate pins pending).lane x = .reset := by
  cases x <;> rfl

/-- The reset values meet every bound and range. -/
theorem resetValues_meets (mode : PartMode) (rate : HostRate) (pins : SelectPins) (pending : List Instr) (b : Bound) :
    (State.resetValues mode rate pins pending).meets b := by
  cases b with
  | queue => exact ⟨Nat.zero_le _, List.nodup_nil, fun _ h => absurd h List.not_mem_nil⟩
  | notices => exact Nat.zero_le _
  | fifos => exact fun n => by rw [resetValues_chan]; exact Nat.zero_le _
  | following => exact fun h => nomatch h.1
  | meters =>
    have legal : Lane.reset.countersLegal := by simp [Lane.countersLegal, Lane.reset, meterLegal]
    exact ⟨legal, legal, fun _ h => absurd h List.not_mem_nil⟩
  | tempos =>
    have legal : Lane.reset.tempoLegal := ⟨incLegal_resetIncrement, trivial⟩
    refine ⟨legal, legal, trivial, trivial, fun n => ?_, fun p => ?_, fun _ h => absurd h List.not_mem_nil⟩
    · simp [State.busTracker, State.resetValues, BusTracker.reset, optIncLegal]
    · simpa [State.preset, State.resetValues] using incLegal_resetIncrement

theorem resetValues_linkBounded (mode : PartMode) (rate : HostRate) (pins : SelectPins) (pending : List Instr) :
    (State.resetValues mode rate pins pending).linkBounded :=
  ⟨Nat.zero_le _, Nat.zero_le _, Nat.zero_le _, Nat.zero_le _⟩

theorem resetValues_runningAgrees (mode : PartMode) (rate : HostRate) (pins : SelectPins) (pending : List Instr) :
    (State.resetValues mode rate pins pending).runningAgrees := fun n => by
  rw [State.laneOf, resetValues_lane, resetValues_chan]
  rfl

theorem runs_resetValues (mode : PartMode) (rate : HostRate) (pins : SelectPins) :
    Runs s (State.resetValues mode rate pins s.pending) :=
  ⟨rfl, fun _ => resetValues_linkBounded _ _ _ _, fun b _ _ => resetValues_meets _ _ _ _ b,
    fun _ => resetValues_runningAgrees _ _ _ _⟩

theorem runs_beginReset (cause : ResetCause) : Runs s (s.beginReset cause) := runs_resetValues s _ _ _

theorem runs_releaseReset (high : Bool) : Runs s (s.releaseReset high) := by
  unfold State.releaseReset
  split
  · exact runs_resetValues s _ _ _
  · exact .refl s

theorem runs_mode (m : PartMode) : Runs s { s with mode := m } :=
  ⟨rfl, id, fun b _ => by cases b <;> exact id, id⟩

theorem runs_resetStep : Runs s s.resetStep := by
  unfold State.resetStep
  split
  · exact runs_mode s _
  · exact .refl s

theorem runs_releaseServed : Runs s s.releaseServed := by
  unfold State.releaseServed
  split
  · exact runs_releaseReset s _
  · exact .refl s

/-! ## The phase step (R1) -/

theorem chan_tickClock (n : Fin 16) : s.tickClock.chan n =
    { (s.chan n).ageChar with evaluated := false, evalLead := none, reached := [], switched := false } := by
  simp [State.chan, State.tickClock]

theorem ageChar_keeps (c : Channel) : c.ageChar.cfg = c.cfg ∧ c.ageChar.running = c.running ∧ c.ageChar.fifo = c.fifo := by
  unfold Channel.ageChar
  split <;> exact ⟨rfl, rfl, rfl⟩

theorem linkAge_keeps (k : Link) : k.age.requests = k.requests ∧ k.age.replies = k.replies ∧ k.age.notices = k.notices := by
  unfold Link.age
  split <;> exact ⟨rfl, rfl, rfl⟩

theorem runs_tickClock : Runs s s.tickClock where
  pending := rfl
  link bounded := by
    obtain ⟨requests, replies, notices⟩ := linkAge_keeps s.link
    simpa [State.linkBounded, State.tickClock, requests, replies, notices] using bounded
  bounds b hb met := by
    cases b with
    | notices => exact absurd rfl hb
    | fifos =>
      intro n
      rw [chan_tickClock]
      simpa only [ageChar_keeps] using met n
    | queue | following | meters | tempos => exact met
  running agrees n := by
    have lanes (x : LaneId) : s.tickClock.lane x = s.lane x := by cases x <;> rfl
    rw [State.laneOf, lanes, chan_tickClock]
    simpa only [ageChar_keeps, State.laneOf] using agrees n

theorem works_quietEvaluate (n : Fin 16) : Works s (s.quietEvaluate n) :=
  .ite (fun _ => (works_countBreak s n).trans (works_completeEvaluation _ n)) fun _ => .refl s

theorem works_settle : Works s s.settle :=
  .ite (fun _ => .forChannels (fun n t => works_quietEvaluate t n) s) fun _ => .refl s

theorem works_advanceStep : Works s s.advanceStep :=
  (works_beginAdvance s .a).trans ((works_beginAdvance _ .b).trans (works_settle _))

theorem runs_newStep : Runs s s.newStep := (runs_tickClock s).trans (works_advanceStep _).runs

theorem runs_firstStep (cause : ResetCause) : Runs s (s.firstStep cause) :=
  (runs_mode s .running).trans <| (runs_tickClock _).trans <|
    (works_post _ _).runs.trans (works_advanceStep _).runs

theorem runs_closeBlocks : Runs s s.closeBlocks := by
  unfold State.closeBlocks
  extract_lets expired joined closed
  have h1 : Works s expired := (works_workLanes s).trans (works_workExpiries _)
  have h2 : Works expired joined := .foldl _ (fun t x _ => works_workJoins x _ t) _
  have h3 : Works joined closed := .forChannels (fun n t => works_closeChannel t n) _
  exact (h1.trans (h2.trans (h3.trans (works_workBus closed)))).runs.trans (runs_choose _)

theorem runs_closeStep : Runs s s.closeStep := by
  unfold State.closeStep
  extract_lets verified gapped
  have h1 : Runs s verified := runs_verifyFrame s
  have h2 : Runs verified gapped := .ite (fun _ => runs_gapTimeout _) fun _ => .refl _
  refine (h1.trans h2).trans (.ite (fun _ => runs_beginReset gapped .request) fun _ => ?_)
  exact (runs_choose gapped).trans ((runs_handleHead _).trans (runs_closeBlocks _))

theorem runs_phaseStep : Runs s s.phaseStep := by
  unfold State.phaseStep
  split
  · exact runs_resetStep s
  · exact (runs_releaseServed s).trans (runs_firstStep _ _)
  · exact (runs_closeStep s).trans (.ite (fun _ => runs_newStep _) fun _ => runs_resetStep _)

/-! ## Commands -/

theorem runs_ite {c : Prop} [Decidable c] {t : State} (h : c → Works s t) : Runs s (if c then t else s) :=
  .ite (fun hc => (h hc).runs) fun _ => .refl s

theorem runs_whenLive {due : Bool} {f : State → State} (h : due = true → Works s (f s)) : Runs s (s.whenLive due f) :=
  runs_ite s fun hc => h (Bool.and_eq_true _ _ ▸ hc).2

theorem exec_channelEntryCrossing_runs (n : Fin 16) : ∃ t, exec (.channelEntryCrossing n) s = .next t ∧ Runs s t := by
  refine ⟨_, rfl, runs_whenLive s fun _ => ?_⟩
  split
  · exact works_applyCrossing s n _
  · exact .refl s

theorem exec_breakEnd_runs (n : Fin 16) : ∃ t, exec (.breakEnd n) s = .next t ∧ Runs s t := by
  refine ⟨_, rfl, runs_whenLive s fun _ => ?_⟩
  split
  · exact works_endMember s n _ _
  · exact .refl s

theorem exec_joinDue_runs (x : LaneId) : ∃ t, exec (.joinDue x) s = .next t ∧ Runs s t := by
  refine ⟨_, rfl, ?_⟩
  split
  · exact (works_carryOutJoin s _ x).runs
  · exact .refl s

theorem exec_pairingTimeout_runs : ∃ t, exec .pairingTimeout s = .next t ∧ Runs s t := by
  refine ⟨_, rfl, ?_⟩
  split
  · exact (works_timeOutPairing s _).runs
  · exact .refl s

/-- Every command answers a next state, keeps the waiting commands, and keeps every bound and range. -/
theorem exec_runs (c : Instr) : ∃ t, exec c s = .next t ∧ Runs s t :=
  match c with
  | .phaseStep => ⟨_, rfl, runs_phaseStep s⟩
  | .announcedBoundary x => ⟨_, rfl, runs_ite s fun _ => works_announcedBoundary s x⟩
  | .silentBoundary x => ⟨_, rfl, runs_ite s fun _ => works_silentBoundary s x⟩
  | .identify => ⟨_, rfl, runs_handle s _ _ _ fun t _ => .refl t⟩
  | .reset => ⟨_, rfl, runs_handleReset s⟩
  | .status => ⟨_, rfl, runs_handle s _ _ _ works_status⟩
  | .setNoticeMask => ⟨_, rfl, runs_handle s _ _ _ works_setNoticeMask⟩
  | .setTempo => ⟨_, rfl, runs_handle s _ _ _ works_setTempo⟩
  | .setMeter => ⟨_, rfl, runs_handle s _ _ _ works_setMeter⟩
  | .setSource => ⟨_, rfl, runs_handle s _ _ _ works_setSource⟩
  | .transportStart | .transportStop | .transportResume => ⟨_, rfl, runs_handle s _ _ _ works_transportRule⟩
  | .nudge => ⟨_, rfl, runs_handle s _ _ _ works_nudge⟩
  | .copyLane => ⟨_, rfl, runs_handle s _ _ _ works_copyRule⟩
  | .readLane => ⟨_, rfl, runs_handle s _ _ _ works_readLane⟩
  | .setReference => ⟨_, rfl, runs_handle s _ _ _ works_setReference⟩
  | .listChanges => ⟨_, rfl, runs_handle s _ _ _ works_listChanges⟩
  | .cancelChange => ⟨_, rfl, runs_handle s _ _ _ works_cancelChange⟩
  | .writePreset => ⟨_, rfl, runs_handle s _ _ _ works_writePreset⟩
  | .writePresetStrobe => ⟨_, rfl, runs_handle s _ _ _ works_writeStrobe⟩
  | .readPreset => ⟨_, rfl, runs_handle s _ _ _ works_readPreset⟩
  | .applyPreset => ⟨_, rfl, runs_handle s _ _ _ works_applyPreset⟩
  | .setCue => ⟨_, rfl, runs_handle s _ _ _ works_setCue⟩
  | .setChannel => ⟨_, rfl, runs_handle s _ _ _ works_setChannel⟩
  | .readChannel => ⟨_, rfl, runs_handle s _ _ _ works_readChannel⟩
  | .startBreak => ⟨_, rfl, runs_handle s _ _ _ works_startBreak⟩
  | .cancelBreak => ⟨_, rfl, runs_handle s _ _ _ works_cancelBreakRule⟩
  | .readBreaks => ⟨_, rfl, runs_handle s _ _ _ works_readBreaks⟩
  | .startHandover => ⟨_, rfl, runs_handle s _ _ _ works_startHandover⟩
  | .cancelHandover => ⟨_, rfl, runs_handle s _ _ _ works_cancelHandoverRule⟩
  | .readHandovers => ⟨_, rfl, runs_handle s _ _ _ works_readHandovers⟩
  | .setBus => ⟨_, rfl, runs_handle s _ _ _ works_setBus⟩
  | .writeFilter => ⟨_, rfl, runs_handle s _ _ _ works_writeFilter⟩
  | .readBus => ⟨_, rfl, runs_handle s _ _ _ works_readBus⟩
  | .unknownTypeRequest => ⟨_, rfl, runs_unknownType s⟩
  | .linkBusy => ⟨_, rfl, runs_answerBusy s⟩
  | .verifiedFrame => ⟨_, rfl, .ite (fun _ => runs_verifyFrame s) fun _ => .refl s⟩
  | .gapTimeout => ⟨_, rfl, .ite (fun _ => runs_gapTimeout s) fun _ => .refl s⟩
  | .replyBegin => ⟨_, rfl, .ite (fun _ => runs_beginReply s) fun _ => .refl s⟩
  | .noticeBegin => ⟨_, rfl, .ite (fun _ => runs_beginNotice s) fun _ => .refl s⟩
  | .resetBegin => ⟨_, rfl, .ite (fun _ => runs_beginReset s _) fun _ => .refl s⟩
  | .powerOnReset => ⟨_, rfl, runs_beginReset s _⟩
  | .resetRelease high => ⟨_, rfl, runs_releaseReset s high⟩
  | .tap => ⟨_, rfl, runs_ite s fun _ => works_tapEdge s⟩
  | .refclkPulse => ⟨_, rfl, runs_ite s fun _ => works_refPulse s⟩
  | .dbeatEdge => ⟨_, rfl, runs_ite s fun _ => works_dbeatEdge s⟩
  | .referenceHoldoverExpiry => ⟨_, rfl, runs_whenLive s fun _ => works_refEnterHoldover s⟩
  | .referenceSearchingExpiry => ⟨_, rfl, runs_whenLive s fun _ => works_refEnterSearching s⟩
  | .busHoldoverExpiry n => ⟨_, rfl, runs_whenLive s fun _ => works_busEnterHoldover s n⟩
  | .busSearchingExpiry n => ⟨_, rfl, runs_whenLive s fun _ => works_busEnterSearching s n⟩
  | .joinDue x => exec_joinDue_runs s x
  | .cueEdge c => ⟨_, rfl, runs_ite s fun _ => works_cueEdge s c⟩
  | .strobeEdge => ⟨_, rfl, runs_ite s fun _ => works_strobeEdge s⟩
  | .channelEntryCrossing n => exec_channelEntryCrossing_runs s n
  | .breakEntry n => ⟨_, rfl, runs_whenLive s fun _ => works_enterBreak s n⟩
  | .breakEnd n => exec_breakEnd_runs s n
  | .memberHold n => ⟨_, rfl, runs_whenLive s fun _ => works_setHeld s n⟩
  | .memberSwitch n => ⟨_, rfl, runs_whenLive s fun _ => works_workSwitch s n⟩
  | .pulseBegin n => ⟨_, rfl, runs_whenLive s fun _ => works_completeEvaluation s n⟩
  | .pulseEnd n => ⟨_, rfl, runs_whenLive s fun _ => works_endPulse s n⟩
  | .barPulseBegin n => ⟨_, rfl, runs_whenLive s fun _ => works_completeEvaluation s n⟩
  | .gateLevelChange n => ⟨_, rfl, runs_whenLive s fun _ => works_moveGate s n⟩
  | .tickCodeQueued n => ⟨_, rfl, runs_whenLive s fun _ => works_completeEvaluation s n⟩
  | .slotMove _ => ⟨_, rfl, runs_whenLive s fun due => works_moveSlot s due⟩
  | .characterEnd n => ⟨_, rfl, runs_whenLive s fun _ => works_endChar s n⟩
  | .characterBegin n => ⟨_, rfl, runs_whenLive s fun _ => works_takeChar s n 0⟩
  | .validCopy l chars => ⟨_, rfl, runs_ite s fun _ => works_validCopy s l chars⟩
  | .receiveError l e => ⟨_, rfl, runs_ite s fun _ => works_receiveError s l e⟩
  | .pairingTimeout => exec_pairingTimeout_runs s
  | .frameBegin => ⟨_, rfl, runs_ite s fun _ => works_beginFrame s⟩
  | .referenceInstant => ⟨_, rfl, runs_ite s fun _ => works_captureInstant s⟩
  | .arbitrationLoss bit on1 on2 => ⟨_, rfl, runs_ite s fun _ => works_lose s bit on1 on2⟩
  | .frameSent => ⟨_, rfl, runs_ite s fun _ => works_finishFrame s⟩
  | .hostCharacter v stopHigh => ⟨_, rfl, .ite (fun _ => runs_hostCharacter s v stopHigh) fun _ => .refl s⟩
  | .hostLineIdle => ⟨_, rfl, .ite (fun _ => runs_modLink_of_queues s rfl rfl rfl) fun _ => .refl s⟩
  | .hostFrameEnd => ⟨_, rfl, .ite (fun _ => runs_modLink_of_queues s rfl rfl rfl) fun _ => .refl s⟩
  | .busLineIdle l => ⟨_, rfl, runs_ite s fun _ => works_lineIdle s l⟩
  | .busDominantEdge l => ⟨_, rfl, runs_ite s fun _ => works_dominantEdge s l⟩
  | .busDominantRunEnd l bits => ⟨_, rfl, runs_ite s fun _ => works_runEnd s l bits⟩
  | .busFirstStartBit l => ⟨_, rfl, runs_ite s fun _ => works_firstStart s l⟩
  | .selectLineChange _ _ => ⟨_, rfl, ⟨rfl, id, fun b _ => by cases b <;> exact id, id⟩⟩

end

theorem runs_of_exec {c : Instr} {s t : State} (h : exec c s = .next t) : Runs s t := by
  obtain ⟨u, hu, runs⟩ := exec_runs s c
  cases hu.symm.trans h
  exact runs

/-- A step keeps every bound and range: taking the command at the front touches none. -/
theorem bounds_step {s t : State} (h : step s = .next t) :
    (s.linkBounded → t.linkBounded) ∧ (∀ b, b ≠ .notices → s.meets b → t.meets b) ∧
      (s.runningAgrees → t.runningAgrees) := by
  unfold step at h
  split at h
  · cases h
    exact ⟨id, fun _ _ => id, id⟩
  · next c rest _ =>
    obtain ⟨_, link, bounds, running⟩ := runs_of_exec h
    exact ⟨link, fun b hb met => bounds b hb (by cases b <;> exact met), running⟩

/-- Settles O7: entries are made where the queue has room, with an id that no other holds, and are otherwise only
re-timed or removed. -/
theorem queueBoundAndIdsKept : Obligations.QueueBoundAndIdsKept := fun _ _ bounded distinct h =>
  (bounds_step h).2.1 .queue nofun ⟨bounded, distinct⟩

/-- Settles O8: a request is handled only where the reply queue has a place, and notices and received frames are placed
where theirs has one. -/
theorem linkBoundsKept : Obligations.LinkBoundsKept := fun _ _ bounded h => (bounds_step h).1 bounded

/-- Settles O9: codes enter a FIFO by TICK_CODE_QUEUED and SLOT_MOVE alone, which ask for the places first. -/
theorem codeFifoBoundsKept : Obligations.CodeFifoBoundsKept := fun _ _ bounded h =>
  (bounds_step h).2.1 .fifos nofun bounded

/-- Settles O10: only a SOURCE change gives a lane the source LANE, and not where the other lane has it. -/
theorem noMutualFollowingKept : Obligations.NoMutualFollowingKept := fun _ _ apart h =>
  (bounds_step h).2.1 .following nofun apart

/-- Settles O11: a lane starts and stops with its channels, a configuration asks its lane, and a member switches to a
running lane. -/
theorem runningStatesKept : Obligations.RunningStatesKept := fun _ _ agrees h => (bounds_step h).2.2 agrees

/-- Settles O12: meters are checked where they enter, take effect at a bar start or on a stopped lane, and counting
carries at them. -/
theorem metersKept : Obligations.MetersKept := fun _ _ legal h => (bounds_step h).2.1 .meters nofun legal

/-- Settles O13: every tempo that enters is clamped, and the rest are copied from tempos that the part holds. -/
theorem temposKept : Obligations.TemposKept := fun _ _ legal h => (bounds_step h).2.1 .tempos nofun legal

/-- Settles O2, from the relation that every command keeps. -/
theorem commandsAnswerNextAndKeepTheQueue : Obligations.CommandsAnswerNextAndKeepTheQueue :=
  ⟨fun c s => (exec_runs s c).imp fun _ h => h.1, fun _ _ _ h => (runs_of_exec h).pending⟩

end Sys2Proof.Machine

/-! What a rule of the request catalogue answers (R186, R187): it refuses and changes nothing, or it carries the request
out and answers OK or CLAMPED. -/

namespace Sys2Proof.Machine

/-- What a rule makes of the state `s`: a refusal, or a request carried out. -/
inductive Answers (s : State) : State × Answer → Prop
  | refused (r : ResultCode) : Answers s (refuse r s)
  | carried (t : State) (clamped : Bool) (data : List Byte) : Answers s (t, .okOr clamped data)

section
variable (s : State) (p : List Byte)

theorem answers_identify : Answers s (identify p s) := .carried _ _ _

theorem answers_status : Answers s (status p s) := .carried _ _ _

theorem answers_setNoticeMask : Answers s (setNoticeMask p s) := by
  unfold setNoticeMask
  dsimp only
  split
  · exact .carried _ _ _
  · exact .refused _

theorem answers_setTempo : Answers s (setTempo p s) := by
  unfold setTempo
  split
  · split
    · exact .refused _
    · split
      · exact .refused _
      · exact .carried _ _ _
  · exact .refused _

theorem answers_setMeter : Answers s (setMeter p s) := by
  unfold setMeter
  split
  · dsimp only
    split
    · exact .refused _
    · exact .carried _ _ _
  · exact .refused _

theorem answers_setSource : Answers s (setSource p s) := by
  unfold setSource
  split
  · split
    · exact .refused _
    · split
      · exact .refused _
      · exact .carried _ _ _
  · exact .refused _

theorem answers_transportRule : Answers s (transportRule p s) := by
  unfold transportRule
  split
  · split
    · exact .refused _
    · dsimp only
      split
      · exact .refused _
      · exact .refused _
      · exact .carried _ _ _
  · exact .refused _

theorem answers_nudge : Answers s (nudge p s) := by
  unfold nudge
  split
  · exact .refused _
  · dsimp only
    split
    · exact .carried _ _ _
    · exact .refused _

theorem answers_copyRule : Answers s (copyRule p s) := by
  unfold copyRule
  split
  · split
    · exact .refused _
    · split
      · exact .refused _
      · exact .carried _ _ _
  · exact .refused _

theorem answers_readLane : Answers s (readLane p s) := by
  unfold readLane
  split
  · exact .carried _ _ _
  · exact .carried _ _ _
  · exact .carried _ _ _
  · exact .refused _

theorem answers_setReference : Answers s (setReference p s) := by
  unfold setReference
  split
  · exact .carried _ _ _
  · exact .refused _

theorem answers_listChanges : Answers s (listChanges p s) := by
  unfold listChanges
  split
  · exact .carried _ _ _
  · exact .refused _

theorem answers_cancelChange : Answers s (cancelChange p s) := by
  unfold cancelChange
  split
  · split
    · exact .carried _ _ _
    · exact .refused _
  · split
    · exact .carried _ _ _
    · exact .refused _
  · exact .carried _ _ _
  · exact .refused _

theorem answers_writePreset : Answers s (writePreset p s) := by
  unfold writePreset
  split
  · exact .carried _ _ _
  · exact .refused _

theorem answers_writeStrobe : Answers s (writeStrobe p s) := by
  unfold writeStrobe
  split
  · exact .carried _ _ _
  · exact .refused _

theorem answers_readPreset : Answers s (readPreset p s) := by
  unfold readPreset
  split
  · exact .carried _ _ _
  · exact .refused _

theorem answers_applyPreset : Answers s (applyPreset p s) := by
  unfold applyPreset
  split
  · split
    · exact .refused _
    · exact .carried _ _ _
  · exact .refused _

theorem answers_setCue : Answers s (setCue p s) := by
  unfold setCue
  split
  · exact .carried _ _ _
  · exact .refused _

theorem answers_setChannel : Answers s (setChannel p s) := by
  unfold setChannel
  split
  · dsimp only
    split
    · exact .refused _
    · split
      · exact .refused _
      · exact .carried _ _ _
  · exact .refused _

theorem answers_readChannel : Answers s (readChannel p s) := by
  unfold readChannel
  split
  · exact .carried _ _ _
  · exact .carried _ _ _
  · exact .carried _ _ _
  · exact .refused _

theorem answers_startBreak : Answers s (startBreak p s) := by
  unfold startBreak
  dsimp only
  split
  · split
    · exact .refused _
    · split
      · exact .refused _
      · exact .refused _
      · exact .carried _ _ _
  · exact .refused _

theorem answers_cancelBreakRule : Answers s (cancelBreakRule p s) := by
  unfold cancelBreakRule
  split
  · exact .refused _
  · split
    · exact .refused _
    · exact .carried _ _ _

theorem answers_readBreaks : Answers s (readBreaks p s) := by
  unfold readBreaks
  split
  · exact .carried _ _ _
  · exact .refused _

theorem answers_startHandover : Answers s (startHandover p s) := by
  unfold startHandover
  dsimp only
  split
  · split
    · exact .refused _
    · split
      · exact .refused _
      · exact .refused _
      · exact .carried _ _ _
  · exact .refused _

theorem answers_cancelHandoverRule : Answers s (cancelHandoverRule p s) := by
  unfold cancelHandoverRule
  split
  · exact .refused _
  · split
    · exact .refused _
    · exact .carried _ _ _

theorem answers_readHandovers : Answers s (readHandovers p s) := by
  unfold readHandovers
  split
  · exact .carried _ _ _
  · exact .refused _

theorem answers_setBus : Answers s (setBus p s) := by
  unfold setBus
  split
  · exact .carried _ _ _
  · exact .refused _

theorem answers_writeFilter : Answers s (writeFilter p s) := by
  unfold writeFilter
  split
  · exact .carried _ _ _
  · exact .refused _

theorem answers_readBus : Answers s (readBus p s) := by
  unfold readBus
  split
  · exact .carried _ _ _
  · exact .carried _ _ _
  · split
    · exact .carried _ _ _
    · exact .refused _
  · exact .refused _

end

/-! ## Rows of the request catalogue -/

/-- The rule keeps what every operation of the blocks keeps, and refuses or carries out. -/
def Rule (rule : List Byte → State → State × Answer) : Prop := ∀ s p, Works s (rule p s).1 ∧ Answers s (rule p s)

/-- The row's command handles the head requests of its TYPE by a rule of its own. -/
def RequestRow.hasRule (row : RequestRow) : Prop :=
  ∃ rule, Rule rule ∧ ∀ s, exec row.command s = .next (s.handle row.type row.mine row.len rule)

/-- Every row other than RESET handles its requests by a rule. -/
theorem row_handles : ∀ row ∈ requestRows, row = ⟨.reset, 0x02, anyPayload, 0⟩ ∨ row.hasRule := by
  have own {row : RequestRow} {rest : List RequestRow} {rule : List Byte → State → State × Answer}
      (works : ∀ s p, Works s (rule p s).1) (answers : ∀ s p, Answers s (rule p s))
      (h : ∀ s, exec row.command s = .next (s.handle row.type row.mine row.len rule))
      (others : ∀ row ∈ rest, row = ⟨.reset, 0x02, anyPayload, 0⟩ ∨ row.hasRule) :
      ∀ r ∈ row :: rest, r = ⟨.reset, 0x02, anyPayload, 0⟩ ∨ r.hasRule :=
    List.forall_mem_cons.2 ⟨.inr ⟨rule, fun s p => ⟨works s p, answers s p⟩, h⟩, others⟩
  exact own (fun s _ => .refl s) answers_identify (fun _ => rfl) <| List.forall_mem_cons.2 ⟨.inl rfl,
    own works_status answers_status (fun _ => rfl) <|
    own works_setNoticeMask answers_setNoticeMask (fun _ => rfl) <|
    own works_setTempo answers_setTempo (fun _ => rfl) <|
    own works_setMeter answers_setMeter (fun _ => rfl) <|
    own works_setSource answers_setSource (fun _ => rfl) <|
    own works_transportRule answers_transportRule (fun _ => rfl) <|
    own works_transportRule answers_transportRule (fun _ => rfl) <|
    own works_transportRule answers_transportRule (fun _ => rfl) <|
    own works_nudge answers_nudge (fun _ => rfl) <|
    own works_copyRule answers_copyRule (fun _ => rfl) <|
    own works_readLane answers_readLane (fun _ => rfl) <|
    own works_setReference answers_setReference (fun _ => rfl) <|
    own works_listChanges answers_listChanges (fun _ => rfl) <|
    own works_cancelChange answers_cancelChange (fun _ => rfl) <|
    own works_writePreset answers_writePreset (fun _ => rfl) <|
    own works_writeStrobe answers_writeStrobe (fun _ => rfl) <|
    own works_readPreset answers_readPreset (fun _ => rfl) <|
    own works_applyPreset answers_applyPreset (fun _ => rfl) <|
    own works_setCue answers_setCue (fun _ => rfl) <|
    own works_setChannel answers_setChannel (fun _ => rfl) <|
    own works_readChannel answers_readChannel (fun _ => rfl) <|
    own works_startBreak answers_startBreak (fun _ => rfl) <|
    own works_cancelBreakRule answers_cancelBreakRule (fun _ => rfl) <|
    own works_readBreaks answers_readBreaks (fun _ => rfl) <|
    own works_startHandover answers_startHandover (fun _ => rfl) <|
    own works_cancelHandoverRule answers_cancelHandoverRule (fun _ => rfl) <|
    own works_readHandovers answers_readHandovers (fun _ => rfl) <|
    own works_setBus answers_setBus (fun _ => rfl) <|
    own works_writeFilter answers_writeFilter (fun _ => rfl) <|
    own works_readBus answers_readBus (fun _ => rfl) fun _ h => absurd h List.not_mem_nil⟩

/-! ## Requests refused and answered -/

/-- A refusal's code is H'10 or above exactly where the answer is no OK or CLAMPED; those two are below. -/
theorem okOr_code_lt (clamped : Bool) (data : List Byte) :
    (Answer.okOr clamped data).payload = (if clamped then 0x01 else 0x00) :: data ∧
      (if clamped then 0x01 else 0x00 : Byte).toNat < 0x10 := by
  cases clamped <;> exact ⟨rfl, by decide⟩

/-- A rule's answer: the request carried out with a code below H'10, or refused with its result byte alone. -/
theorem payload_of_answers {s : State} {out : State × Answer} (h : Answers s out) :
    ∃ code data, out.2.payload = code :: data ∧ (0x10 ≤ code.toNat → data = [] ∧ out.1 = s) := by
  cases h with
  | refused r => exact ⟨BitVec.ofNat 8 r.value, [], rfl, fun _ => ⟨rfl, rfl⟩⟩
  | carried t clamped data =>
    obtain ⟨payload, below⟩ := okOr_code_lt clamped data
    exact ⟨_, _, payload, fun above => absurd above (Nat.not_le.2 below)⟩

/-- What O21 says of the outcome `t` of a request at the head of the queue. -/
theorem answered_of_rule {s : State} {type tag : Byte} {mine : List Byte → Bool} {len : Nat} {p : List Byte}
    {rule : List Byte → State → State × Answer} (sound : Rule rule) (h : RequestAtHead s type tag p)
    (hm : mine p = true) : ∃ t code data resets, s.handle type mine len rule = t ∧
      t.link.requests = s.link.requests.tail ∧ t.link.handled = true ∧
      t.link.replies = s.link.replies ++ [⟨type, tag, code :: data, resets⟩] ∧
      (0x10 ≤ code.toNat → data = [] ∧ t = answered s.takeHead type tag [code]) := by
  rw [handle_of_requestAtHead len rule h hm]
  split
  · obtain ⟨works, answers⟩ := sound s.takeHead p
    obtain ⟨code, data, payload, refusal⟩ := payload_of_answers answers
    refine ⟨_, code, data, false, rfl, works.requests, works.handled, ?_, fun above => ?_⟩
    · rw [answered, reply_replies, works.replies, payload, takeHead_replies]
    · obtain ⟨rfl, same⟩ := refusal above
      exact ⟨rfl, by rw [same, payload]⟩
  · exact ⟨_, 0x11, [], false, rfl, rfl, rfl, rfl, fun _ => ⟨rfl, rfl⟩⟩

/-- RESET at the head of the queue: pending where its LEN is right, BAD_LENGTH otherwise. -/
theorem handleReset_of_requestAtHead {s : State} {tag : Byte} {p : List Byte} (h : RequestAtHead s 0x02 tag p) :
    s.handleReset =
      if p.length = 0 then (s.takeHead.modLink fun k => { k with resetPending := true }).reply 0x02 tag [0x00] true
      else answered s.takeHead 0x02 tag [0x11] := by
  have head : s.headOf 0x02 anyPayload = some ⟨0x02, tag, p⟩ := headOf_of_requestAtHead h rfl
  simp only [State.handleReset, head]
  rfl

/-- Settles O21: a rule refuses and changes nothing, or carries out and answers below H'10; RESET has its own handling. -/
theorem refusedRequestsChangeNothing : Obligations.RefusedRequestsChangeNothing := by
  intro row mem s tag p h hm
  rcases row_handles row mem with rfl | ⟨rule, sound, e⟩
  · have handled := congrArg (Host.Outcome.next (φ := Fault) (ρ := Refusal)) (handleReset_of_requestAtHead h)
    by_cases empty : p.length = 0
    · rw [if_pos empty] at handled
      exact ⟨_, 0x00, [], true, handled, rfl, rfl, rfl, fun above => absurd above (by decide)⟩
    · rw [if_neg empty] at handled
      exact ⟨_, 0x11, [], false, handled, rfl, rfl, rfl, fun _ => ⟨rfl, rfl⟩⟩
  · obtain ⟨t, code, data, resets, rfl, rest⟩ := answered_of_rule (len := row.len) sound h hm
    exact ⟨_, code, data, resets, e s, rest⟩

/-- Settles O22: each row checks the length first, and the other two heads have one answer each. -/
theorem wrongLengthsAndUnknownTypes : Obligations.WrongLengthsAndUnknownTypes := by
  refine ⟨fun row mem s tag p h hm wrong => ?_, fun s => ⟨fun type tag p h unknown => ?_,
    fun type tag running room free open_ head => ?_⟩⟩
  · rcases row_handles row mem with rfl | ⟨rule, _, e⟩
    · exact congrArg Host.Outcome.next ((handleReset_of_requestAtHead h).trans (if_neg wrong))
    · rw [e s, handle_of_requestAtHead row.len rule h hm, if_neg wrong]
  · refine congrArg Host.Outcome.next ?_
    have new : catalogueTypes.contains type = false := by simpa using unknown
    simp only [State.unknownType, head_of_requestAtHead h, new]
    rfl
  · refine congrArg Host.Outcome.next ?_
    have waits : s.head = some (.refusal type tag) := by
      simp [State.head, State.mayHandle, State.live, running, room, free, open_, head]
    simp only [State.answerBusy, waits]
    rfl

end Sys2Proof.Machine

/-! Steps, resets and commands that are not due (O1, O3 to O5). -/

namespace Sys2Proof.Machine

/-- Settles O1: the two cases of the queue of waiting commands. -/
theorem stepTakesFrontCommand : Obligations.StepTakesFrontCommand :=
  ⟨fun _ _ _ h => by simp [step, h], fun _ h => by simp [step, h]⟩

/-! ## Reset values -/

theorem reset_lane (x : LaneId) : State.reset.lane x = .reset := resetValues_lane _ _ _ _ x

theorem reset_chan (n : Fin 16) : State.reset.chan n = .reset := resetValues_chan _ _ _ _ n

theorem reset_busTracker (n : Fin 8) : State.reset.busTracker n = .reset := by
  simp [State.busTracker, State.reset, State.resetValues]

theorem reset_preset (p : Fin 16) : State.reset.preset p = ⟨resetIncrement, 0, .nextBeat⟩ := by
  simp [State.preset, State.reset, State.resetValues]

theorem reset_cue (c : Fin 4) : State.reset.cues[c] = ⟨.beat, none⟩ := by
  simp [State.reset, State.resetValues]

theorem reset_brk (r : Fin 4) : State.reset.brk r = none := by
  simp [State.brk, State.reset, State.resetValues]

theorem reset_ho (r : Fin 4) : State.reset.ho r = none := by
  simp [State.ho, State.reset, State.resetValues]

theorem reset_accept (n : Fin 8) : State.reset.bus.accept[n] = ⟨false, 0, 0⟩ := by
  simp [State.reset, State.resetValues, Bus.reset]

theorem reset_lineOf (l : BusLine) : State.reset.bus.lineOf l = .reset := by
  cases l <;> rfl

theorem incrementToTempo_resetIncrement : incrementToTempo resetIncrement = 120000 := by decide

/-- Every invariant holds at reset, whose values are the reset values of every block. -/
theorem reset_invariants : State.reset.queueBounded ∧ State.reset.idsDistinct ∧ State.reset.linkBounded ∧
    State.reset.fifosBounded ∧ State.reset.noMutualFollowing ∧ State.reset.runningAgrees ∧ State.reset.metersLegal ∧
    State.reset.temposLegal :=
  have meets := resetValues_meets (.released .power) .baud1000000 ⟨0, false⟩ []
  ⟨(meets .queue).1, (meets .queue).2, resetValues_linkBounded _ _ _ _, meets .fifos, meets .following,
    resetValues_runningAgrees _ _ _ _, meets .meters, meets .tempos⟩

/-- Settles O4: the records of each block are its reset record, read field by field. -/
theorem resetValuesAndInvariants : Obligations.ResetValuesAndInvariants := by
  refine ⟨⟨rfl, fun x => ?lane, rfl, ?ref, reset_busTracker, rfl, rfl, rfl, reset_cue, fun p => ?preset, rfl,
    fun n => ?channel, fun r => ⟨reset_brk r, reset_ho r⟩, ?bus, reset_accept, fun l => ?line, rfl, rfl, rfl, rfl, rfl,
    rfl, rfl, rfl⟩, reset_invariants⟩
  case lane =>
    rw [reset_lane]
    simp [Lane.reset, incrementToTempo_resetIncrement, resetIncrement, Position.zero]
  case ref => simp [State.reset, State.resetValues, RefTracker.reset]
  case preset =>
    rw [reset_preset]
    exact ⟨incrementToTempo_resetIncrement, rfl, rfl⟩
  case channel =>
    rw [reset_chan]
    simp [Channel.reset, ChannelConfig.reset, Position.zero]
  case bus => simp [State.reset, State.resetValues, Bus.reset]
  case line =>
    rw [reset_lineOf]
    simp [BusLineState.reset]

/-! ## Rows of the request catalogue -/

theorem handle_of_no_head {s : State} (h : s.head = none) {type : Byte} {mine : List Byte → Bool} {len : Nat}
    {rule : List Byte → State → State × Answer} : s.handle type mine len rule = s := by
  simp [State.handle, State.headOf, h]

theorem handleReset_of_no_head {s : State} (h : s.head = none) : s.handleReset = s := by
  simp [State.handleReset, State.headOf, h]

theorem unknownType_of_no_head {s : State} (h : s.head = none) : s.unknownType = s := by
  simp [State.unknownType, h]

theorem answerBusy_of_no_head {s : State} (h : s.head = none) : s.answerBusy = s := by
  simp [State.answerBusy, h]

/-- Where no entry of the queue may be handled, no row handles one. -/
theorem exec_row_of_no_head {s : State} (h : s.head = none) : ∀ row ∈ requestRows, exec row.command s = .next s := by
  intro row mem
  rcases row_handles row mem with rfl | ⟨rule, _, e⟩
  · exact congrArg Host.Outcome.next (handleReset_of_no_head h)
  · rw [e s, handle_of_no_head h]

/-! ## Resets (R194, R195) -/

theorem strapRate_of_rate (rate : HostRate) : strapRate (rate == .baud115200) = rate := by cases rate <;> rfl

/-- Where both lanes are STOPPED and no channel is RUNNING, a new step has no advance and no evaluation. -/
theorem advanceStep_of_idle {s : State} (lanes : ∀ x, (s.lane x).isRunning = false)
    (channels : ∀ n, (s.chan n).running = false) : s.advanceStep = s := by
  have stays (x : LaneId) : s.beginAdvance x = s := by simp [State.beginAdvance, lanes]
  have quiet (n : Fin 16) : s.quietEvaluate n = s := by
    simp [State.quietEvaluate, State.atPartFive, State.evaluable, State.unevaluated, channels]
  have evaluated : s.forChannels (fun n t => t.quietEvaluate n) = s :=
    foldl_keeps (P := (· = s)) s allChannels (fun t n _ ht => ht ▸ quiet n) rfl
  rw [State.advanceStep, stays, stays, State.settle, evaluated, ite_self]

/-- The first phase step after a release: nothing runs yet, so that the time and READY are all that it brings. -/
theorem firstStep_resetValues (cause : ResetCause) (rate : HostRate) (pins : SelectPins) (pending : List Instr) :
    (State.resetValues (.released cause) rate pins pending).firstStep cause =
      { State.resetValues .running rate pins pending with
        clock := 1
        link := { Link.reset rate with notices := [⟨.ready cause rate, 1⟩] } } := by
  have posted : State.post (State.tickClock { State.resetValues (.released cause) rate pins pending with mode := .running })
      (.ready cause rate) = { State.resetValues .running rate pins pending with
        clock := 1
        link := { Link.reset rate with notices := [⟨.ready cause rate, 1⟩] } } := by
    simp [State.post, enabledBy, NoticeBody.maskBit, State.tickClock, State.modLink, State.stepTime, Link.age, Bus.age,
      State.resetValues, Link.reset, Bus.reset, Channel.reset, Channel.ageChar]
  have rate_ : (State.resetValues (.released cause) rate pins pending).link.rate = rate := rfl
  rw [State.firstStep, rate_, posted]
  exact advanceStep_of_idle (fun x => by cases x <;> rfl) fun n => by
    simp [State.chan, State.resetValues, Channel.reset]

/-- RESET at the head of the queue (R194). -/
theorem exec_reset_of_requestAtHead {s : State} {tag : Byte} (h : RequestAtHead s 0x02 tag []) :
    exec .reset s = .next { s with link := { s.link with
      requests := s.link.requests.tail
      handled := true
      resetPending := true
      replies := s.link.replies ++ [⟨0x02, tag, [0x00], true⟩] } } := by
  have head : s.headOf 0x02 anyPayload = some ⟨0x02, tag, []⟩ := headOf_of_requestAtHead h rfl
  refine congrArg Host.Outcome.next ?_
  simp only [State.handleReset, head]
  rfl

/-- Settles O5: a reset and its release give every block its reset values, and the first step after it finds nothing
to advance. -/
theorem resetsAndTheFirstStep : Obligations.ResetsAndTheFirstStep := by
  refine ⟨fun s => ⟨fun tag p request empty => ?reset, fun pending => ?pending⟩,
    fun s => ⟨fun bytes age isReply live sending ended => ?begin, rfl, fun high age power => ?power,
      fun high age request => ?request, fun cause age n inReset => ?lines, fun _ _ _ _ _ => rfl⟩,
    fun s cause age inReset waits => ?stands, fun s age inReset served => ?served, fun cause rate pins pending => ?first⟩
  case reset =>
    cases List.eq_nil_of_length_eq_zero empty
    exact exec_reset_of_requestAtHead request
  case pending =>
    have head : s.head = none := by simp [State.head, State.mayHandle, pending]
    refine ⟨exec_row_of_no_head head, congrArg Host.Outcome.next (unknownType_of_no_head head),
      congrArg Host.Outcome.next (answerBusy_of_no_head head), congrArg Host.Outcome.next ?_⟩
    simp [Link.noticeNext, pending]
  case begin =>
    have due : s.resetDue = true := by
      simp [State.resetDue, State.live, live, Link.txEnded, Link.txResets, sending, ended]
    refine congrArg Host.Outcome.next ?_
    rw [if_pos due]
    rfl
  case power =>
    refine congrArg Host.Outcome.next ?_
    simp only [State.releaseReset, State.releasable, power, strapRate]
  case request =>
    refine congrArg Host.Outcome.next ?_
    by_cases served : 96 ≤ age <;> simp [State.releaseReset, State.releasable, request, served, strapRate]
  case lines => simp [State.pin, State.htx, inReset]
  case stands =>
    have stays : s.releaseServed = s := by
      rcases waits with rfl | early
      · simp [State.releaseServed, State.releasable, inReset]
      · cases cause <;> simp [State.releaseServed, State.releasable, inReset, early]
    refine congrArg Host.Outcome.next ?_
    rw [State.phaseStep, stays]
    simp [inReset, State.resetStep]
  case served =>
    have released : s.releaseServed = State.resetValues (.released .request) s.link.rate s.pins s.pending := by
      simp [State.releaseServed, State.releasable, State.releaseReset, inReset, served, strapRate_of_rate]
    refine congrArg Host.Outcome.next ?_
    rw [State.phaseStep, released]
    exact firstStep_resetValues _ _ _ _
  case first => exact congrArg Host.Outcome.next (firstStep_resetValues cause rate pins pending)

/-! ## Events that are not due (log 4) -/

/-- A row of the catalogue acts on its own requests alone. -/
theorem exec_row_of_not_at_head {s : State} {row : RequestRow} (mem : row ∈ requestRows)
    (h : ∀ tag p, row.mine p = true → ¬ RequestAtHead s row.type tag p) : exec row.command s = .next s := by
  have none_ : s.headOf row.type row.mine = none := by
    by_contra some_
    obtain ⟨f, found⟩ := Option.ne_none_iff_exists'.1 some_
    obtain ⟨_, mine, head⟩ := headOf_some found
    exact h _ _ mine head
  rcases row_handles row mem with rfl | ⟨rule, _, e⟩
  · have reset : s.headOf 0x02 anyPayload = none := none_
    exact congrArg Host.Outcome.next (by simp only [State.handleReset, reset])
  · rw [e s, State.handle, none_]

section
variable {s : State}

theorem ite_of_dead {t : State} (dead : s.live = false) : (if s.live then t else s) = s := by simp [dead]

theorem ite_of_not_due {due : Bool} {t : State} (h : s.live = false ∨ due = false) :
    (if s.live && due then t else s) = s := by
  rcases h with h | h <;> simp [h]

theorem ite_of_not_due_or {p q : Bool} {t : State} (h : p = false ∨ q = false) :
    (if s.live && p && q then t else s) = s := by
  rcases h with h | h <;> simp [h]

/-- In a reset and before the first phase step only the commands of `actsInReset` act. -/
theorem exec_of_dead {c : Instr} (dead : s.live = false) (idle : actsInReset c = false) : exec c s = .next s := by
  have head : s.head = none := by simp [State.head, State.mayHandle, dead]
  have guarded {t : State} : (if s.live then t else s) = s := ite_of_dead dead
  have due {p : Bool} {t : State} : (if s.live && p then t else s) = s := ite_of_not_due (.inl dead)
  have both {p q : Bool} {t : State} : (if s.live && p && q then t else s) = s := by simp [dead]
  cases c with
  | phaseStep | powerOnReset | resetRelease | selectLineChange => cases idle
  | reset => exact congrArg Host.Outcome.next (handleReset_of_no_head head)
  | unknownTypeRequest => exact congrArg Host.Outcome.next (unknownType_of_no_head head)
  | linkBusy => exact congrArg Host.Outcome.next (answerBusy_of_no_head head)
  | identify | status | setNoticeMask | setTempo | setMeter | setSource | transportStart | transportStop
  | transportResume | nudge | copyLane | readLane | setReference | listChanges | cancelChange | writePreset
  | writePresetStrobe | readPreset | applyPreset | setCue | setChannel | readChannel | startBreak | cancelBreak
  | readBreaks | startHandover | cancelHandover | readHandovers | setBus | writeFilter | readBus =>
    exact congrArg Host.Outcome.next (handle_of_no_head head)
  | announcedBoundary | silentBoundary | verifiedFrame | tap | refclkPulse | dbeatEdge | cueEdge | strobeEdge
  | validCopy | receiveError | frameBegin | hostCharacter | hostLineIdle | busLineIdle | busDominantEdge
  | busDominantRunEnd | busFirstStartBit => exact congrArg Host.Outcome.next guarded
  | replyBegin | noticeBegin => exact congrArg Host.Outcome.next both
  | resetBegin => exact congrArg Host.Outcome.next (by simp [State.resetDue, dead])
  | joinDue => exact congrArg Host.Outcome.next (by simp only [dead])
  | pairingTimeout => exact congrArg Host.Outcome.next (by simp only [dead])
  | gapTimeout | referenceHoldoverExpiry | referenceSearchingExpiry | busHoldoverExpiry | busSearchingExpiry
  | channelEntryCrossing | breakEntry | breakEnd | memberHold | memberSwitch | pulseBegin | pulseEnd | barPulseBegin
  | gateLevelChange | tickCodeQueued | slotMove | characterEnd | characterBegin | referenceInstant | arbitrationLoss
  | frameSent | hostFrameEnd => exact congrArg Host.Outcome.next due

end

/-- Settles O3: a command looks whether its event is due before it acts. -/
theorem eventsNotDueChangeNothing : Obligations.EventsNotDueChangeNothing := by
  intro s
  have due {p : Bool} {t : State} (h : p = false) :
      (.next (if s.live && p then t else s) : Host.Outcome State Fault Refusal) = .next s :=
    congrArg Host.Outcome.next (ite_of_not_due (.inr h))
  have atFive {p q : Bool} {t : State} (h : q = false) :
      (.next (if s.live && (p && q) then t else s) : Host.Outcome State Fault Refusal) = .next s := due (by simp [h])
  refine ⟨fun c dead idle => exec_of_dead (by simpa [State.live] using dead) idle,
    fun row mem h => exec_row_of_not_at_head mem h,
    fun n => ⟨fun h => ?crossing, due, fun h => ?breakEnd, due, due, atFive, due, atFive, atFive, atFive, due, due, due⟩,
    fun x h => ?join, due, due, fun n => ⟨due, due⟩, fun h => ?pairing, fun h => ?frame, due, due, fun _ _ _ => due,
    fun h => ?verified, due, fun h => ?reset, fun h => ?reply, fun h => ?notice, due⟩
  case crossing => exact congrArg Host.Outcome.next (by simp [State.whenLive, h])
  case breakEnd => exact congrArg Host.Outcome.next (by simp [State.whenLive, h])
  case join => exact congrArg Host.Outcome.next (by simp [h])
  case pairing => exact congrArg Host.Outcome.next (by simp [h])
  case frame => exact congrArg Host.Outcome.next (by simp [State.beginFrame, h])
  case verified => exact congrArg Host.Outcome.next (by simp [State.verifyFrame, h])
  case reset => exact congrArg Host.Outcome.next (by simp [h])
  case reply => exact congrArg Host.Outcome.next (ite_of_not_due_or (h.imp_right fun e => by simp [e]))
  case notice => exact congrArg Host.Outcome.next (ite_of_not_due_or h)

end Sys2Proof.Machine

/-! The reading requests and STATUS (O23). -/

namespace Sys2Proof.Machine

section
variable {s : State} {tag : Byte} {p : List Byte}

theorem indexOfByte_of_lt {n v : Nat} (h : v < n) : indexOfByte n v = some ⟨v, h⟩ := dif_pos h

theorem indexOfByte_of_not_lt {n v : Nat} (h : ¬ v < n) : indexOfByte n v = none := dif_neg h

/-- A request at the head whose rule reads, and answers OK with `data`. -/
theorem handle_read {type : Byte} {len : Nat} {rule : List Byte → State → State × Answer} {data : List Byte}
    (h : RequestAtHead s type tag p) (hlen : p.length = len) (read : rule p s.takeHead = (s.takeHead, .okOr false data)) :
    s.handle type anyPayload len rule = answered s.takeHead type tag (0x00 :: data) := by
  rw [handle_anyPayload_of_requestAtHead rule h hlen, read]
  rfl

/-- A request at the head that its rule refuses with BAD_VALUE. -/
theorem handle_badValue {type : Byte} {len : Nat} {rule : List Byte → State → State × Answer}
    (h : RequestAtHead s type tag p) (hlen : p.length = len) (bad : rule p s.takeHead = refuse .badValue s.takeHead) :
    s.handle type anyPayload len rule = answered s.takeHead type tag [0x12] := by
  rw [handle_anyPayload_of_requestAtHead rule h hlen, bad]
  rfl

theorem byte_eq (v : Nat) : byte v = [BitVec.ofNat 8 v] := rfl

/-- A rule that answers by a page below 3. -/
theorem pages_cases (v : Nat) : v = 0 ∨ v = 1 ∨ v = 2 ∨ ∃ k, v = k + 3 := by
  rcases v with _ | _ | _ | k <;> simp

end

/-- Settles O23: each reading rule by its index or page, and STATUS. -/
theorem readsAndStatus : Obligations.ReadsAndStatus := by
  refine ⟨fun s tag p => ⟨fun h hlen => ?identify, fun h hlen => ?lane, fun h hlen => ?list,
    fun h hlen => ?preset, fun h hlen => ?channel, fun h hlen => ?breaks, fun h hlen => ?handovers, fun h hlen => ?bus⟩,
    fun s tag p h hlen => ?status⟩
  case identify =>
    refine congrArg Host.Outcome.next ((handle_read h hlen rfl).trans ?_)
    show _ = answered s.takeHead 0x01 tag (0x00 :: [0x21, 0x60, 0x01, 2, 16, _, 56])
    cases rate : s.link.rate
    all_goals
      have taken : s.takeHead.link.rate = _ := rate
      simp only [taken]
      rfl
  case lane =>
    cases hx : laneOfByte (byteAt p 0) with
    | none => exact congrArg Host.Outcome.next (handle_badValue h hlen (by simp only [readLane, hx]))
    | some x =>
      rcases pages_cases (byteAt p 1) with page | page | page | ⟨k, page⟩
      · simp only [page]
        exact congrArg Host.Outcome.next (handle_read h hlen (by simp only [readLane, hx, page]; rfl))
      · simp only [page]
        exact congrArg Host.Outcome.next (handle_read h hlen (by simp only [readLane, hx, page]; rfl))
      · simp only [page]
        exact congrArg Host.Outcome.next (handle_read h hlen (by simp only [readLane, hx, page]; rfl))
      · simp only [page]
        exact congrArg Host.Outcome.next (handle_badValue h hlen (by simp only [readLane, hx, page]))
  case list =>
    dsimp only
    split
    · next within =>
      exact congrArg Host.Outcome.next (handle_read h hlen (by rw [listChanges, if_pos within]; rfl))
    · next beyond =>
      exact congrArg Host.Outcome.next (handle_badValue h hlen (by rw [listChanges, if_neg beyond]))
  case preset =>
    split
    · next within =>
      exact congrArg Host.Outcome.next (handle_read h hlen (by rw [readPreset, indexOfByte_of_lt within]; rfl))
    · next beyond =>
      exact congrArg Host.Outcome.next (handle_badValue h hlen (by rw [readPreset, indexOfByte_of_not_lt beyond]))
  case channel =>
    split
    · next within =>
      have hn := indexOfByte_of_lt within
      rcases pages_cases (byteAt p 1) with page | page | page | ⟨k, page⟩
      · simp only [page, if_true]
        exact congrArg Host.Outcome.next (handle_read h hlen (by simp only [readChannel, hn, page]; rfl))
      · simp only [page, if_true, one_ne_zero, if_false]
        exact congrArg Host.Outcome.next (handle_read h hlen (by simp only [readChannel, hn, page]; rfl))
      · simp only [page, if_true, OfNat.ofNat_ne_zero, OfNat.ofNat_ne_one, if_false]
        exact congrArg Host.Outcome.next (handle_read h hlen (by simp only [readChannel, hn, page]; rfl))
      · simp only [page, Nat.add_eq_zero_iff, OfNat.ofNat_ne_zero, and_false, if_false, Nat.reduceEqDiff]
        exact congrArg Host.Outcome.next (handle_badValue h hlen (by simp only [readChannel, hn, page]))
    · next beyond =>
      exact congrArg Host.Outcome.next (handle_badValue h hlen (by simp only [readChannel, indexOfByte_of_not_lt beyond]))
  case breaks =>
    split
    · next within =>
      exact congrArg Host.Outcome.next (handle_read h hlen (by rw [readBreaks, indexOfByte_of_lt within]; rfl))
    · next beyond =>
      exact congrArg Host.Outcome.next (handle_badValue h hlen (by rw [readBreaks, indexOfByte_of_not_lt beyond]))
  case handovers =>
    split
    · next within =>
      exact congrArg Host.Outcome.next (handle_read h hlen (by rw [readHandovers, indexOfByte_of_lt within]; rfl))
    · next beyond =>
      exact congrArg Host.Outcome.next (handle_badValue h hlen (by rw [readHandovers, indexOfByte_of_not_lt beyond]))
  case bus =>
    rcases pages_cases (byteAt p 0) with page | page | page | ⟨k, page⟩
    · simp only [page, if_true]
      exact congrArg Host.Outcome.next (handle_read h hlen (by simp only [readBus, page]; rfl))
    · simp only [page, if_true, one_ne_zero, if_false]
      exact congrArg Host.Outcome.next (handle_read h hlen (by simp only [readBus, page]; rfl))
    · simp only [page, OfNat.ofNat_ne_zero, OfNat.ofNat_ne_one, if_false, true_and]
      split
      · next within =>
        exact congrArg Host.Outcome.next (handle_read h hlen (by simp only [readBus, page, indexOfByte_of_lt within]; rfl))
      · next beyond =>
        exact congrArg Host.Outcome.next
          (handle_badValue h hlen (by simp only [readBus, page, indexOfByte_of_not_lt beyond]))
    · simp only [page, Nat.add_eq_zero_iff, OfNat.ofNat_ne_zero, and_false, if_false, Nat.reduceEqDiff, false_and, dite_false]
      exact congrArg Host.Outcome.next (handle_badValue h hlen (by simp only [readBus, page]))
  case status =>
    refine congrArg Host.Outcome.next ((handle_anyPayload_of_requestAtHead status h hlen).trans ?_)
    have layout : (status p s.takeHead).2.payload = 0x00 :: s.statusBytes := rfl
    have cleared : (status p s.takeHead).1 = s.takeHead.modSticky fun _ => .clear := rfl
    rw [layout, cleared]
    simp only [State.statusBytes, byte_eq, List.append_assoc, List.cons_append, List.nil_append]
    rfl

end Sys2Proof.Machine

/-! Requests of lanes and of the bus, by their rules (O26, O28, O32, O53, O54). -/

namespace Sys2Proof.Machine

section
variable {s : State} {type tag : Byte} {p : List Byte} {len : Nat} {rule : List Byte → State → State × Answer}

/-- A request at the head that its rule refuses. -/
theorem handle_refused (h : RequestAtHead s type tag p) (hlen : p.length = len) {r : ResultCode}
    (refused : rule p s.takeHead = refuse r s.takeHead) :
    s.handle type anyPayload len rule = answered s.takeHead type tag [BitVec.ofNat 8 r.value] := by
  rw [handle_anyPayload_of_requestAtHead rule h hlen, refused]
  rfl

/-- A request at the head whose rule carries it out with OK alone. -/
theorem handle_ok (h : RequestAtHead s type tag p) (hlen : p.length = len) {t : State}
    (ok : rule p s.takeHead = (t, .okOr false [])) :
    s.handle type anyPayload len rule = answered t type tag [0x00] := by
  rw [handle_anyPayload_of_requestAtHead rule h hlen, ok]
  rfl

end

/-! ## Meters (R29, R30) -/

theorem isRunning_eq_true {l : Lane} : l.isRunning = true ↔ l.transport = .running := by simp [Lane.isRunning]

theorem inRange_of_mem {lo hi v : Nat} (h : lo ≤ v) (h' : v ≤ hi) : inRange lo hi v = some v := by
  simp [inRange, h, h']

/-- What is scheduled matters only where the change is carried out at once. -/
theorem scheduled_congr {s : State} {take : TakeMode} {timing : LaneId} {change : Change} {now now' : State}
    (h : take = .immediate → now = now') : scheduled s take timing change now = scheduled s take timing change now' := by
  unfold scheduled
  split
  · next immediate => rw [h immediate]
  · rfl

theorem unitLength_pos (a : AlignLength) {b p : Nat} (hb : 1 ≤ b) (hp : 1 ≤ p) : beatUnits ≤ unitLength a b p := by
  cases a
  · exact le_rfl
  · exact Nat.le_mul_of_pos_left _ hb
  · exact Nat.le_mul_of_pos_left _ (Nat.mul_pos hb hp)

/-- A residual of 0 is in the range of every unit. -/
theorem clampResidual_zero (m : AlignMode) {u : Nat} (hu : beatUnits ≤ u) : clampResidual m u 0 = 0 := by
  have : 2 ^ 48 ≤ u := hu
  cases m <;> refine clampInt_of_range ?_ ?_ <;> simp only [residualLow, residualHigh] <;> omega

theorem rangeResidual_of_zero {s : State} {x : LaneId} (zero : (s.lane x).residual = 0) (b : 1 ≤ (s.lane x).beatsPerBar)
    (p : 1 ≤ (s.lane x).barsPerPhrase) : s.rangeResidual x = s := by
  unfold State.rangeResidual
  dsimp only
  rw [if_pos]
  rw [zero]
  exact clampResidual_zero _ (unitLength_pos _ b p)

theorem applyMeter_of_stopped {s : State} {x : LaneId} (stopped : (s.lane x).transport = .stopped) (b p : Nat) :
    s.applyMeter x b p = (s.setLane x { s.lane x with
      beatInBar := (s.lane x).beatInBar % b
      barInPhrase := (s.lane x).barInPhrase % p
      beatsPerBar := b
      barsPerPhrase := p }).rangeResidual x := by
  have idle : (s.lane x).isRunning = false := by simp [Lane.isRunning, stopped]
  simp [State.applyMeter, idle]

theorem applyMeter_of_running {s : State} {x : LaneId} (running : (s.lane x).transport = .running)
    (zero : (s.lane x).residual = 0) {b p : Nat} (hb : 1 ≤ b) (hp : 1 ≤ p) :
    s.applyMeter x b p = s.setLane x (if p ≤ (s.lane x).barInPhrase then
      { s.lane x with
        barInPhrase := 0
        phraseCount := (s.lane x).phraseCount + 1
        beatsPerBar := b
        barsPerPhrase := p }
      else { s.lane x with beatsPerBar := b, barsPerPhrase := p }) := by
  have live : (s.lane x).isRunning = true := isRunning_eq_true.2 running
  simp only [State.applyMeter, live, if_true]
  by_cases below : (s.lane x).barInPhrase < p
  · rw [if_pos below, if_neg (Nat.not_le.2 below)]
    exact rangeResidual_of_zero (by simpa using zero) (by simpa using hb) (by simpa using hp)
  · rw [if_neg below, if_pos (Nat.not_lt.1 below)]
    exact rangeResidual_of_zero (by simpa using zero) (by simpa using hb) (by simpa using hp)

theorem meterTake_eq (given : TakeMode) (named x : LaneId) (l : Lane) :
    meterTake given named x l.isRunning =
      (if given = .immediate ∧ l.transport = .running then .nextBar else given,
        if given = .immediate ∧ l.transport = .running then x else named) := by
  unfold meterTake
  simp only [isRunning_eq_true]
  split <;> rfl

section
variable {s : State} {p : List Byte} {x named timing : LaneId} {given take : TakeMode}

theorem setMeter_of_schedulerBar (hx : laneOfByte (byteAt p 0) = some x) (hgiven : takeNoJoin p 3 = some given)
    (hnamed : laneOfByte (byteAt p 5) = some named) (beats : inRange 1 16 (byteAt p 1) = some (byteAt p 1))
    (bars : inRange 1 64 (byteAt p 2) = some (byteAt p 2))
    (htake : meterTake given named x (s.lane x).isRunning = (take, timing)) {r : ResultCode}
    (hbar : s.schedulerBar take timing = some r) : setMeter p s = refuse r s := by
  simp only [setMeter, hx, hgiven, hnamed, beats, bars, htake, hbar]

/-- SET_METER past its checks (R29, R70). -/
theorem setMeter_of_accepted (hx : laneOfByte (byteAt p 0) = some x) (hgiven : takeNoJoin p 3 = some given)
    (hnamed : laneOfByte (byteAt p 5) = some named) (beats : inRange 1 16 (byteAt p 1) = some (byteAt p 1))
    (bars : inRange 1 64 (byteAt p 2) = some (byteAt p 2))
    (htake : meterTake given named x (s.lane x).isRunning = (take, timing)) (hbar : s.schedulerBar take timing = none) :
    setMeter p s =
      let out := scheduled s take timing (.meter x (byteAt p 1) (byteAt p 2)) (s.applyMeter x (byteAt p 1) (byteAt p 2))
      (out.1, .okOr false out.2) := by
  rw [scheduled_eq s take timing _ fun t => t.applyMeter x (byteAt p 1) (byteAt p 2)]
  simp only [setMeter, hx, hgiven, hnamed, beats, bars, htake, hbar]

end

theorem setMeter_of_illegal {s : State} {p : List Byte}
    (h : ¬ (1 ≤ byteAt p 1 ∧ byteAt p 1 ≤ 16 ∧ 1 ≤ byteAt p 2 ∧ byteAt p 2 ≤ 64)) :
    setMeter p s = refuse .badValue s := by
  unfold setMeter
  split
  · next hb hp _ _ =>
    refine absurd ?_ h
    unfold inRange at hb hp
    split at hb <;> split at hp <;> simp_all
  · rfl

/-- Settles O26: SET_METER by its value checks and the take mode that R29 makes of it, and R30 by the transport. -/
theorem setMeterRequest : Obligations.SetMeterRequest := by
  refine ⟨fun s tag p h hlen => ?_, fun s x beats bars running _ zero hbars hbeats =>
    applyMeter_of_running running zero hbeats hbars⟩
  have bad (refused : setMeter p s.takeHead = refuse .badValue s.takeHead) :
      exec .setMeter s = .next (answered s.takeHead 0x11 tag [0x12]) :=
    congrArg Host.Outcome.next (handle_refused h hlen refused)
  by_cases legal : 1 ≤ byteAt p 1 ∧ byteAt p 1 ≤ 16 ∧ 1 ≤ byteAt p 2 ∧ byteAt p 2 ≤ 64
  · obtain ⟨b1, b16, p1, p64⟩ := legal
    have beats := inRange_of_mem b1 b16
    have bars := inRange_of_mem p1 p64
    cases hx : laneOfByte (byteAt p 0) with
    | none => exact bad (by simp only [setMeter, hx])
    | some x =>
      cases hgiven : takeNoJoin p 3 with
      | none => exact bad (by simp only [setMeter, hx, beats, bars, hgiven])
      | some given =>
        cases hnamed : laneOfByte (byteAt p 5) with
        | none => exact bad (by simp only [setMeter, hx, beats, bars, hgiven, hnamed])
        | some named =>
          have htake := meterTake_eq given named x (s.takeHead.lane x)
          simp only [b1, b16, p1, p64, and_self, not_true_eq_false, if_false]
          rw [schedulerRefusal_eq, ← takeHead_schedulerBar, ← takeHead_lane]
          generalize toBar : (if given = .immediate ∧ (s.takeHead.lane x).transport = .running then TakeMode.nextBar
            else given) = take at htake ⊢
          generalize (if given = .immediate ∧ (s.takeHead.lane x).transport = .running then x else named) = timing
            at htake ⊢
          cases hbar : s.takeHead.schedulerBar take timing with
          | some r =>
            exact congrArg Host.Outcome.next (handle_refused h hlen
              (setMeter_of_schedulerBar hx hgiven hnamed beats bars htake hbar))
          | none =>
            refine (congrArg Host.Outcome.next (handle_anyPayload_of_requestAtHead setMeter h hlen)).trans ?_
            have stopped (immediate : take = .immediate) : (s.takeHead.lane x).transport = .stopped := by
              rw [← isRunning_eq_false]
              exact stopped_of_meterTake_immediate (congrArg Prod.fst htake |>.trans immediate)
            rw [setMeter_of_accepted hx hgiven hnamed beats bars htake hbar,
              scheduled_congr fun immediate => applyMeter_of_stopped (stopped immediate) _ _]
            rfl
  · have refused := bad (setMeter_of_illegal legal)
    rw [refused]
    congr 1
    split
    · exact (if_pos legal).symm
    · rfl

end Sys2Proof.Machine

/-! TRANSPORT (O28): the row that takes a request by its action byte, and each action by its checks. -/

namespace Sys2Proof.Machine

/-! ## The rows (log 2) -/

section
variable {s : State} {tag : Byte} {p : List Byte} (h : RequestAtHead s 0x13 tag p) (hlen : p.length = 5)
include h hlen

theorem exec_transportStop_of_requestAtHead (stop : byteAt p 1 = 1) : exec .transportStop s =
    .next (answered (transportRule p s.takeHead).1 0x13 tag (transportRule p s.takeHead).2.payload) := by
  have mine : stopPayload p = true := by simp [stopPayload, hlen, stop]
  exact congrArg Host.Outcome.next ((handle_of_requestAtHead 5 transportRule h mine).trans (if_pos hlen))

theorem exec_transportResume_of_requestAtHead (resume : byteAt p 1 = 2) : exec .transportResume s =
    .next (answered (transportRule p s.takeHead).1 0x13 tag (transportRule p s.takeHead).2.payload) := by
  have mine : resumePayload p = true := by simp [resumePayload, hlen, resume]
  exact congrArg Host.Outcome.next ((handle_of_requestAtHead 5 transportRule h mine).trans (if_pos hlen))

theorem exec_transportStart_of_requestAtHead (notStop : byteAt p 1 ≠ 1) (notResume : byteAt p 1 ≠ 2) :
    exec .transportStart s =
      .next (answered (transportRule p s.takeHead).1 0x13 tag (transportRule p s.takeHead).2.payload) := by
  have mine : startPayload p = true := by simp [startPayload, stopPayload, resumePayload, notStop, notResume]
  exact congrArg Host.Outcome.next ((handle_of_requestAtHead 5 transportRule h mine).trans (if_pos hlen))

end

/-! ## The rule (R31) -/

section
variable {s : State} {p : List Byte} {x named : LaneId} {take : TakeMode} {a : EntryAction}

theorem transportRule_of_bad_field
    (bad : laneOfByte (byteAt p 0) = none ∨ takeAt p 2 = none ∨ laneOfByte (byteAt p 4) = none) :
    transportRule p s = refuse .badValue s := by
  unfold transportRule
  split
  · next hx htake hnamed => simp [hx, htake, hnamed] at bad
  · rfl

variable (hx : laneOfByte (byteAt p 0) = some x) (htake : takeAt p 2 = some take)
  (hnamed : laneOfByte (byteAt p 4) = some named)
include hx htake hnamed

theorem transportRule_of_unknown (unknown : actionOf (byteAt p 1) take = none) :
    transportRule p s = refuse .badValue s := by
  simp only [transportRule, hx, htake, hnamed, unknown]

variable (known : actionOf (byteAt p 1) take = some a)
include known

theorem transportRule_of_transportBar {r : ResultCode} (bar : s.transportBar x a = some r) :
    transportRule p s = refuse r s := by
  simp only [transportRule, hx, htake, hnamed, known, bar]

variable {timing : LaneId} (htiming : (if a = .join then x else named) = timing) (bar : s.transportBar x a = none)
include htiming bar

theorem transportRule_of_schedulerBar {r : ResultCode} (full : s.schedulerBar take timing = some r) :
    transportRule p s = refuse r s := by
  simp only [transportRule, hx, htake, hnamed, known, htiming, bar, full]

theorem transportRule_of_accepted (free : s.schedulerBar take timing = none) {now : State}
    (carried : take = .immediate → (s.applyTransport x a).1 = now) : transportRule p s =
      let out := scheduled s take timing (.transport x a) now
      (out.1, .okOr false out.2) := by
  rw [← scheduled_congr carried, scheduled_eq s take timing _ fun t => (t.applyTransport x a).1]
  simp only [transportRule, hx, htake, hnamed, known, htiming, bar, free]

/-- An action that R31 lets pass: the scheduler's refusal, or the change scheduled. -/
theorem answered_transportRule (tag : Byte) {now : State}
    (carried : take = .immediate → (s.applyTransport x a).1 = now) :
    answered (transportRule p s).1 0x13 tag (transportRule p s).2.payload =
      match schedulerRefusal s take timing with
      | some refusal => answered s 0x13 tag [refusal]
      | none => answered (scheduled s take timing (.transport x a) now).1 0x13 tag
        (0x00 :: (scheduled s take timing (.transport x a) now).2) := by
  rw [schedulerRefusal_eq]
  cases full : s.schedulerBar take timing with
  | some r => rw [transportRule_of_schedulerBar hx htake hnamed known htiming bar full]; rfl
  | none => rw [transportRule_of_accepted hx htake hnamed known htiming bar full carried]; rfl

end

theorem applyTransport_of_stopped {s : State} {x : LaneId} (stopped : (s.lane x).transport ≠ .running) :
    (s.applyTransport x .start).1 = s.startLane x ∧ (s.applyTransport x .resume).1 = s.resumeLane x := by
  have idle : (s.lane x).isRunning = false := by simpa [Lane.isRunning] using stopped
  simp [State.applyTransport, idle]

theorem applyTransport_of_running {s : State} {x : LaneId} (running : (s.lane x).transport = .running) :
    (s.applyTransport x .stop).1 = s.stopLane x := by
  have live : (s.lane x).isRunning = true := isRunning_eq_true.2 running
  simp [State.applyTransport, live]

@[simp] theorem takeHead_schedulerRefusal (s : State) (take : TakeMode) (timing : LaneId) :
    schedulerRefusal s.takeHead take timing = schedulerRefusal s take timing := by
  rw [schedulerRefusal_eq, schedulerRefusal_eq, takeHead_schedulerBar]

/-- What R31 refuses a START with JOIN, in the terms of the statement. -/
theorem transportBar_join (s : State) (x : LaneId) : s.transportBar x .join =
    if (s.lane x).source.joinable = false then some .badValue
    else if s.sourceLock x ≠ some .locked ∨ (s.lane x).transport = .running then some .wrongState else none := by
  unfold State.transportBar State.joinBar
  cases (s.lane x).source with
  | bus _ | lane =>
    by_cases locked : s.sourceLock x = some .locked <;> simp [SourceKind.joinable, locked, isRunning_eq_true]
  | free | tap | reference => rfl

/-- Settles O28: the row by the action byte, then R31's checks for the action, then the scheduler's. -/
theorem transportRequests : Obligations.TransportRequests := by
  intro s tag p h hlen
  have start := exec_transportStart_of_requestAtHead h hlen
  have stop := exec_transportStop_of_requestAtHead h hlen
  have resume := exec_transportResume_of_requestAtHead h hlen
  have bad (refused : transportRule p s.takeHead = refuse .badValue s.takeHead) :
      answered (transportRule p s.takeHead).1 0x13 tag (transportRule p s.takeHead).2.payload =
        answered s.takeHead 0x13 tag [0x12] := by rw [refused]; rfl
  dsimp only
  cases hx : laneOfByte (byteAt p 0) with
  | none =>
    have refused := bad (transportRule_of_bad_field (.inl hx))
    exact ⟨fun b => refused ▸ stop b, fun b => refused ▸ resume b, fun b c => refused ▸ start b c⟩
  | some x =>
    cases htake : takeAt p 2 with
    | none =>
      have refused := bad (transportRule_of_bad_field (.inr (.inl htake)))
      exact ⟨fun b => refused ▸ stop b, fun b => refused ▸ resume b, fun b c => refused ▸ start b c⟩
    | some take =>
      cases hnamed : laneOfByte (byteAt p 4) with
      | none =>
        have refused := bad (transportRule_of_bad_field (.inr (.inr hnamed)))
        exact ⟨fun b => refused ▸ stop b, fun b => refused ▸ resume b, fun b c => refused ▸ start b c⟩
      | some named =>
        have unknown (none_ : actionOf (byteAt p 1) take = none) :=
          bad (transportRule_of_unknown (s := s.takeHead) hx htake hnamed none_)
        have refused {a : EntryAction} {r : ResultCode} (known : actionOf (byteAt p 1) take = some a)
            (bar : s.takeHead.transportBar x a = some r) :
            answered (transportRule p s.takeHead).1 0x13 tag (transportRule p s.takeHead).2.payload =
              answered s.takeHead 0x13 tag [BitVec.ofNat 8 r.value] := by
          rw [transportRule_of_transportBar hx htake hnamed known bar]; rfl
        refine ⟨fun b join => ?join, fun b plain => ?start, fun b => ?stop, fun b => ?resume, fun b => ?unknown⟩
        case join =>
          rw [start (by omega) (by omega)]
          congr 1
          have known : actionOf (byteAt p 1) take = some .join := by simp [actionOf, b, join]
          have bar := transportBar_join s.takeHead x
          rw [takeHead_sourceLock, takeHead_lane] at bar
          split at bar
          · next foreign => exact (refused known bar).trans (if_pos foreign).symm
          · next joinable =>
            split at bar
            · next barred => exact (refused known bar).trans ((if_neg joinable).trans (if_pos barred)).symm
            · next free =>
              refine .trans ?_ ((if_neg joinable).trans (if_neg free)).symm
              rw [← takeHead_schedulerRefusal]
              exact answered_transportRule hx htake hnamed known (if_pos rfl) bar tag fun atOnce =>
                nomatch join.symm.trans atOnce
        case start =>
          rw [start (by omega) (by omega)]
          congr 1
          have known : actionOf (byteAt p 1) take = some .start := by simp [actionOf, b, plain]
          by_cases running : (s.lane x).transport = .running
          · have bar : s.takeHead.transportBar x .start = some .wrongState := by
              simp [State.transportBar, isRunning_eq_true, running]
            exact (refused known bar).trans (if_pos running).symm
          · have bar : s.takeHead.transportBar x .start = none := by
              simp [State.transportBar, isRunning_eq_true, running]
            refine .trans ?_ (if_neg running).symm
            rw [← takeHead_schedulerRefusal]
            exact answered_transportRule hx htake hnamed known rfl bar tag fun _ =>
              (applyTransport_of_stopped (by rwa [takeHead_lane])).1
        case stop =>
          rw [stop b]
          congr 1
          by_cases join : take = .join
          · exact (unknown (by simp [actionOf, b, join])).trans (if_pos join).symm
          have known : actionOf (byteAt p 1) take = some .stop := by simp [actionOf, b, join]
          refine .trans ?_ (if_neg join).symm
          by_cases running : (s.lane x).transport = .running
          · have bar : s.takeHead.transportBar x .stop = none := by
              simp [State.transportBar, isRunning_eq_true, running]
            refine .trans ?_ (if_neg (not_not_intro running)).symm
            rw [← takeHead_schedulerRefusal]
            exact answered_transportRule hx htake hnamed known rfl bar tag fun _ =>
              applyTransport_of_running (by rwa [takeHead_lane])
          · have bar : s.takeHead.transportBar x .stop = some .wrongState := by
              simp [State.transportBar, isRunning_eq_true, running]
            exact (refused known bar).trans (if_pos running).symm
        case resume =>
          rw [resume b]
          congr 1
          by_cases join : take = .join
          · exact (unknown (by simp [actionOf, b, join])).trans (if_pos join).symm
          have known : actionOf (byteAt p 1) take = some .resume := by simp [actionOf, b, join]
          refine .trans ?_ (if_neg join).symm
          by_cases running : (s.lane x).transport = .running
          · have bar : s.takeHead.transportBar x .resume = some .wrongState := by
              simp [State.transportBar, isRunning_eq_true, running]
            exact (refused known bar).trans (if_pos running).symm
          · have bar : s.takeHead.transportBar x .resume = none := by
              simp [State.transportBar, isRunning_eq_true, running]
            refine .trans ?_ (if_neg running).symm
            rw [← takeHead_schedulerRefusal]
            exact answered_transportRule hx htake hnamed known rfl bar tag fun _ =>
              (applyTransport_of_stopped (by rwa [takeHead_lane])).2
        case unknown =>
          rw [start (by omega) (by omega)]
          obtain ⟨k, hk⟩ := Nat.exists_eq_add_of_le b
          exact congrArg _ (unknown (by rw [hk, Nat.add_comm]; rfl))

end Sys2Proof.Machine

/-! Starts of a lane (O29, O31): what a start, a resume and a copy make of the lane, of its channels and of a lane that
follows it. -/

namespace Sys2Proof.Machine

/-! ## Notices -/

theorem post_link_congr {s t : State} (link : t.link = s.link) (clock : t.clock = s.clock) (n : NoticeBody) :
    (t.post n).link = (s.post n).link := by
  simp only [State.post, State.modLink, State.stepTime, link, clock]
  split
  · exact link
  · split <;> rfl

/-! ## Changes of lanes, channels and notices alone -/

/-- From `s` to `t` the lanes, the channels and the host link alone may have changed. -/
def TouchesLanes (s t : State) : Prop :=
  t = { s with laneA := t.laneA, laneB := t.laneB, channels := t.channels, link := t.link }

theorem TouchesLanes.refl (s : State) : TouchesLanes s s := rfl

theorem TouchesLanes.trans {s t u : State} (h : TouchesLanes s t) (g : TouchesLanes t u) : TouchesLanes s u := by
  unfold TouchesLanes at *
  rw [h] at g
  exact g

theorem TouchesLanes.ite {s t u : State} {p : Prop} [Decidable p] (h : TouchesLanes s t) (g : TouchesLanes s u) :
    TouchesLanes s (if p then t else u) := by
  split
  · exact h
  · exact g

section
variable (s : State)

theorem touches_setLane (x : LaneId) (l : Lane) : TouchesLanes s (s.setLane x l) := by cases x <;> rfl

theorem touches_modLane (x : LaneId) (f : Lane → Lane) : TouchesLanes s (s.modLane x f) := touches_setLane s x _

theorem touches_post (n : NoticeBody) : TouchesLanes s (s.post n) := by
  unfold TouchesLanes
  rw [post_eq_modLink]

theorem touches_modChan (n : Fin 16) (f : Channel → Channel) : TouchesLanes s (s.modChan n f) := rfl

theorem touches_forAttached (x : LaneId) (f : Channel → Channel) :
    TouchesLanes s (s.forChannels fun n t => if t.attached x n then t.modChan n f else t) :=
  forChannels_keeps (P := TouchesLanes s) s (fun n t ht => ht.trans (.ite (touches_modChan t n f) (.refl t))) (.refl s)

theorem touches_takeEstimate (x : LaneId) : TouchesLanes s (s.takeEstimate x) := by
  refine .ite ?_ (.refl s)
  split
  · exact touches_setLane s x _
  · exact .refl s

theorem touches_followLocked (x : LaneId) : TouchesLanes s (s.followLocked x) :=
  (touches_modLane s x _).trans (touches_takeEstimate _ x)

theorem touches_laneStarted (x : LaneId) : TouchesLanes s (s.laneStarted x) :=
  .ite ((touches_post s _).trans (touches_followLocked _ _)) (.refl s)

end

/-! ## The lane that follows a lane started (R61, R63, R66) -/

section
variable (s : State)

theorem takeEstimate_of_not_following {x : LaneId} (h : (s.lane x).follow ≠ .following) : s.takeEstimate x = s := by
  simp [State.takeEstimate, h]

/-- A STOPPED lane that follows the other lane takes its increment (R66). -/
theorem takeEstimate_of_lane {x : LaneId} (source : (s.lane x).source = .lane) : s.takeEstimate x = s.setLane x
    (if (s.lane x).transport = .stopped ∧ (s.lane x).follow = .following then
      { s.lane x with increment := (s.lane (otherLane x)).increment, glide := none } else s.lane x) := by
  simp only [State.takeEstimate, State.sourceEstimate, source, Bool.and_eq_true, Bool.not_eq_true', isRunning_eq_false,
    beq_iff_eq]
  split
  · rfl
  · rw [setLane_lane]

/-- The record of lane `x` once its source LANE has locked on the other lane, whose increment is `i` (R63, R66). -/
def Lane.lockedOn (l : Lane) (i : Nat) : Lane :=
  let follow := if l.follow = .holdover then FollowState.following else l.follow
  if l.transport = .stopped ∧ follow = .following then { l with follow := follow, increment := i, glide := none }
  else { l with follow := follow }

theorem followLocked_of_lane {x : LaneId} (source : (s.lane x).source = .lane) :
    s.followLocked x = s.setLane x ((s.lane x).lockedOn (s.lane (otherLane x)).increment) := by
  have locked : s.followLocked x = (s.setLane x { s.lane x with
      follow := if (s.lane x).follow = .holdover then .following else (s.lane x).follow }).takeEstimate x := by
    refine congrArg (fun l => (s.setLane x l).takeEstimate x) ?_
    by_cases holdover : (s.lane x).follow = .holdover <;> simp [holdover]
  rw [locked, takeEstimate_of_lane _ (by simpa using source)]
  simp only [lane_setLane_same, lane_setLane_other, Lane.lockedOn]
  cases x <;> rfl

variable {s} {x : LaneId}

theorem laneStarted_of_not_followed (h : (s.lane (otherLane x)).source ≠ .lane) : s.laneStarted x = s := if_neg h

theorem laneStarted_of_followed (h : (s.lane (otherLane x)).source = .lane) : s.laneStarted x =
    (s.post (.sourceLocked (.lane (otherLane x)) (incrementToTempo (s.lane x).increment) none)).setLane (otherLane x)
      ((s.lane (otherLane x)).lockedOn (s.lane x).increment) := by
  refine (if_pos h).trans ((followLocked_of_lane _ (by simpa using h)).trans ?_)
  simp

variable (s x)

/-- A start of lane `x` leaves the record of `x` and the channels to what has started them. -/
theorem laneStarted_keeps : (s.laneStarted x).lane x = s.lane x ∧ (s.laneStarted x).channels = s.channels := by
  by_cases h : (s.lane (otherLane x)).source = .lane
  · rw [laneStarted_of_followed h]
    simp
  · rw [laneStarted_of_not_followed h]
    exact ⟨rfl, rfl⟩

end

/-! ## The start of a lane -/

section
variable (s : State) (x : LaneId) (l : Lane) (f : Channel → Channel) (n : NoticeBody)

/-- Lane `x` takes the record `l`, `n` is posted, its channels are changed by `f`, and a lane that follows it locks. -/
def State.started : State :=
  (State.forChannels ((s.setLane x l).post n) fun m t => if t.attached x m then t.modChan m f else t).laneStarted x

theorem startLane_eq_started : s.startLane x =
    s.started x ((s.lane x).startedAt .zero 0 0 0) (·.startAt .zero) (.transportStarted x .start) := rfl

theorem resumeLane_eq_started : s.resumeLane x = s.started x { (s.lane x).clearPull with transport := .running }
    (·.resume ((s.lane x).barCount.toNat % 16384)) (.transportStarted x .resume) := by
  simp [State.resumeLane, State.started, State.modLane, State.resumeChannels, Lane.clearPull]

/-- What stands before the other lane is told. -/
theorem lane_before_started (y : LaneId) :
    (State.forChannels ((s.setLane x l).post n) fun m t => if t.attached x m then t.modChan m f else t).lane y =
      if y = x then l else s.lane y := by
  rw [forAttached_frame _ (·.lane y) x f fun t m c => lane_setChan t m c y, lane_post, lane_setLane]

theorem link_before_started :
    (State.forChannels ((s.setLane x l).post n) fun m t => if t.attached x m then t.modChan m f else t).link =
      (s.post n).link := by
  rw [forAttached_frame _ (·.link) x f fun _ _ _ => rfl]
  exact post_link_congr (by simp) (by simp) n

theorem clock_before_started :
    (State.forChannels ((s.setLane x l).post n) fun m t => if t.attached x m then t.modChan m f else t).clock =
      s.clock := by
  rw [forAttached_frame _ (·.clock) x f fun _ _ _ => rfl]
  simp

theorem started_lane : (s.started x l f n).lane x = l := by
  rw [State.started, (laneStarted_keeps _ x).1, lane_before_started, if_pos rfl]

theorem started_chan (m : Fin 16) : (s.started x l f n).chan m =
    if (s.chan m).cfg.enabled ∧ (s.chan m).cfg.lane = x then f (s.chan m) else s.chan m := by
  have same : ((s.setLane x l).post n).channels = s.channels := by simp
  rw [State.started, chan_eq_of_channels (laneStarted_keeps _ x).2, chan_forAttached, chan_eq_of_channels same]
  exact if_congr (by simp [State.attached, chan_eq_of_channels same]) rfl rfl

theorem started_of_not_followed (h : (s.lane (otherLane x)).source ≠ .lane) :
    (s.started x l f n).lane (otherLane x) = s.lane (otherLane x) ∧ (s.started x l f n).link = (s.post n).link := by
  rw [State.started, laneStarted_of_not_followed (by rwa [lane_before_started, if_neg (otherLane_ne x)]),
    lane_before_started, link_before_started, if_neg (otherLane_ne x)]
  exact ⟨rfl, rfl⟩

theorem started_of_followed (h : (s.lane (otherLane x)).source = .lane) :
    (s.started x l f n).link =
        ((s.post n).post (.sourceLocked (.lane (otherLane x)) (incrementToTempo l.increment) none)).link ∧
      (s.started x l f n).lane (otherLane x) = (s.lane (otherLane x)).lockedOn l.increment := by
  rw [State.started, laneStarted_of_followed (by rwa [lane_before_started, if_neg (otherLane_ne x)])]
  simp only [lane_before_started, if_neg (otherLane_ne x), if_true, lane_setLane_same, setLane_link, and_true]
  exact post_link_congr (link_before_started ..) (by simp [clock_before_started]) _

theorem touches_started : TouchesLanes s (s.started x l f n) :=
  (touches_setLane s x l).trans <| (touches_post _ n).trans <| (touches_forAttached _ x f).trans (touches_laneStarted _ x)

end

theorem codePut_eq (c : Channel) (i : SlotItem) (replaces : ∀ p, i ≠ .position p) :
    c.codePut i = { c with slot := if c.cfg.function = .code then some i else c.slot } := by
  unfold Channel.codePut
  by_cases code : c.cfg.function = .code
  · cases i with
    | position p => exact absurd rfl (replaces p)
    | start => simp [code, Channel.putSlot]
    | stop => simp [code, Channel.putSlot]
    | resume n => simp [code, Channel.putSlot]
  · simp [code]

/-- Settles O29: both are a start of the lane's record and channels; the follower is told by `laneStarted`. -/
theorem startAndResumeOfALane : Obligations.StartAndResumeOfALane := by
  refine ⟨fun s x => ?_, fun s x => ?_⟩
  · rw [startLane_eq_started]
    refine ⟨started_lane .., fun n => ?_, started_of_not_followed s x _ _ _, started_of_followed s x _ _ _, touches_started ..⟩
    refine (started_chan ..).trans (if_congr Iff.rfl ?_ rfl)
    simp [Channel.startAt, codePut_eq, Channel.restartCounts, startMark, Position.zero]
  · rw [resumeLane_eq_started]
    refine ⟨started_lane .., fun n => ?_, started_of_not_followed s x _ _ _, started_of_followed s x _ _ _, touches_started ..⟩
    refine (started_chan ..).trans (if_congr Iff.rfl ?_ rfl)
    simp [Channel.resume, codePut_eq]

end Sys2Proof.Machine

/-! COPY_LANE, NUDGE and SET_REFERENCE (O31, O32). -/

namespace Sys2Proof.Machine

/-! ## Copying a lane (R38, R39) -/

/-- The record that a copy of `l` makes of the lane `into`. -/
def Lane.copied (into l : Lane) : Lane :=
  { into.clearPull with
    transport := .running
    increment := l.increment
    glide := none
    pos := l.pos
    beatInBar := l.beatInBar
    barInPhrase := l.barInPhrase
    barCount := l.barCount
    phraseCount := l.phraseCount
    high := l.pos.beat
    beatsPerBar := l.beatsPerBar
    barsPerPhrase := l.barsPerPhrase
    source := .free
    follow := .free
    barOffset := 0
    crossing := l.crossing
    copiedPull := if l.crossing then pullAmount l.residual l.pullRate + l.copiedPull else 0
    glideDue := false }

theorem copyLane_eq_started (s : State) (f : LaneId) : s.copyLane f = s.started (otherLane f)
    ((s.lane (otherLane f)).copied (s.lane f)) (·.startAt (s.lane f).pos) (.transportStarted (otherLane f) .copy) := rfl

theorem touches_eq {s t : State} (h : TouchesLanes s t) {x : LaneId} (same : t.lane (otherLane x) = s.lane (otherLane x)) :
    t = { s.setLane x (t.lane x) with channels := t.channels, link := t.link } := by
  refine Eq.trans h ?_
  cases x with
  | a => exact congrArg (fun l => { s with laneA := t.laneA, laneB := l, channels := t.channels, link := t.link }) same
  | b => exact congrArg (fun l => { s with laneA := l, laneB := t.laneB, channels := t.channels, link := t.link }) same

theorem copyRule_of_accepted {s : State} {p : List Byte} {f : LaneId} {take : TakeMode}
    (hf : laneOfByte (byteAt p 0) = some f) (htake : takeNoJoin p 1 = some take)
    (free : ¬ ((s.lane (otherLane f)).transport = .running ∨ (s.lane f).transport = .stopped))
    (bar : s.schedulerBar take f = none) : copyRule p s =
      let out := scheduled s take f (.transport (otherLane f) .copy) (s.copyLane f)
      (out.1, .okOr false out.2) := by
  rw [scheduled_eq s take f _ (·.copyLane f)]
  simp only [copyRule, hf, htake, bar]
  exact if_neg (by simpa [isRunning_eq_true, isRunning_eq_false] using free)

/-- Settles O31: R38's checks, then the scheduler's; a copy is a start with the from-lane's record. -/
theorem copyLaneRequest : Obligations.CopyLaneRequest := by
  intro s tag p h hlen
  refine ⟨?_, fun u f => ?_⟩
  · have refused {r : ResultCode} (e : copyRule p s.takeHead = refuse r s.takeHead) :
        exec .copyLane s = .next (answered s.takeHead 0x15 tag [BitVec.ofNat 8 r.value]) :=
      congrArg Host.Outcome.next (handle_refused h hlen e)
    cases hf : laneOfByte (byteAt p 0) with
    | none => exact refused (by simp only [copyRule, hf]; rfl)
    | some f =>
      cases htake : takeNoJoin p 1 with
      | none => exact refused (by simp only [copyRule, hf, htake]; rfl)
      | some take =>
        dsimp only
        by_cases state : (s.lane (otherLane f)).transport = .running ∨ (s.lane f).transport = .stopped
        · rw [if_pos state]
          refine refused (r := .wrongState) ?_
          simp only [copyRule, hf, htake, takeHead_lane]
          refine if_pos ?_
          rw [Bool.or_eq_true, isRunning_eq_true, Bool.not_eq_true', isRunning_eq_false]
          exact state
        · rw [if_neg state, schedulerRefusal_eq, ← takeHead_schedulerBar]
          have runs : ¬ ((s.takeHead.lane (otherLane f)).isRunning || !(s.takeHead.lane f).isRunning) = true := by
            rw [Bool.or_eq_true, isRunning_eq_true, Bool.not_eq_true', isRunning_eq_false, takeHead_lane, takeHead_lane]
            exact state
          cases bar : s.takeHead.schedulerBar take f with
          | some r =>
            refine refused ?_
            simp only [copyRule, hf, htake, bar]
            exact if_neg runs
          | none =>
            refine (congrArg Host.Outcome.next (handle_anyPayload_of_requestAtHead copyRule h hlen)).trans ?_
            rw [copyRule_of_accepted hf htake (by simpa using state) bar]
            rfl
  · simp only [copyLane_eq_started]
    refine ⟨(started_lane ..).trans ?_, started_chan u _ _ _ _, fun own => ?_⟩
    · cases crossing : (u.lane f).crossing <;> simp [Lane.copied, Lane.clearPull, pullAmount, crossing]
    · obtain ⟨same, link⟩ := started_of_not_followed u (otherLane f) ((u.lane (otherLane f)).copied (u.lane f))
        (·.startAt (u.lane f).pos) (.transportStarted (otherLane f) .copy) (by simpa using own)
      refine ⟨by simpa using same, ?_⟩
      rw [← link]
      exact touches_eq (touches_started ..) same

/-! ## Nudging a lane (R13, R40) -/

theorem alignedAfter_false (was : Bool) (r : Int) : alignedAfter was r false = (was || decide (r.natAbs ≤ 2 ^ 40)) := by
  by_cases small : r.natAbs ≤ 2 ^ 40
  · rw [decide_eq_true small, Bool.or_true]
    exact if_pos small
  · rw [decide_eq_false small, Bool.or_false]
    exact (if_neg small).trans (Bool.and_true was)

theorem setResidual_false (s : State) (x : LaneId) (r : Int) : s.setResidual x r false =
    let t := s.setLane x { s.lane x with
      residual := r, aligned := (s.lane x).aligned || decide (r.natAbs ≤ 2 ^ 40) }
    if (s.lane x).aligned = false ∧ r.natAbs ≤ 2 ^ 40 then t.post (.aligned x) else t := by
  unfold State.setResidual
  simp only [alignedAfter_false]
  exact if_congr (by cases (s.lane x).aligned <;> simp) rfl rfl

theorem nudge_of_following {s : State} {p : List Byte} {x : LaneId} (hx : laneOfByte (byteAt p 0) = some x)
    (follows : ¬ ((s.lane x).transport = .stopped ∨ (s.lane x).follow ≠ .following)) :
    nudge p s = ((s.nudgeLane x (int16At p 1)).1, .okOr (s.nudgeLane x (int16At p 1)).2
      (bytesOfInt 2 (clampInt (-512) 511 (int16At p 1)) ++
        bytesOfInt 8 ((s.nudgeLane x (int16At p 1)).1.lane x).residual)) := by
  simp only [nudge, hx]
  refine if_pos ?_
  rw [Bool.and_eq_true, beq_iff_eq, isRunning_eq_true]
  cases running : (s.lane x).transport <;> simp_all

theorem nudge_of_not_following {s : State} {p : List Byte} {x : LaneId} (hx : laneOfByte (byteAt p 0) = some x)
    (idle : (s.lane x).transport = .stopped ∨ (s.lane x).follow ≠ .following) :
    nudge p s = refuse .wrongState s := by
  simp only [nudge, hx]
  refine if_neg ?_
  rw [Bool.and_eq_true, beq_iff_eq, isRunning_eq_true]
  rintro ⟨running, following⟩
  simp_all

theorem lane_residual_setResidual (s : State) (x : LaneId) (r : Int) (b : Bool) :
    ((s.setResidual x r b).lane x).residual = r := by
  unfold State.setResidual
  dsimp only
  split <;> simp

/-- The ends of the residual's range, as the statement writes them (R9, R13). -/
theorem clampResidual_eq (m : AlignMode) (u : Nat) (r : Int) : clampResidual m u r =
    max (match m with | .nearest => -((u : Int) / 2) | .forward => 0)
      (min (match m with | .nearest => (u : Int) / 2 - 1 | .forward => (u : Int) - 1) r) := by
  cases m <;> rfl

theorem nudgeLane_eq {s : State} {x : LaneId} {n n' sum r : Int} (hn : max (-512) (min 511 n) = n')
    (hsum : (s.lane x).residual + n' * 2 ^ 38 = sum)
    (hr : clampResidual (s.lane x).alignMode (s.unitInForce x) sum = r) :
    s.nudgeLane x n = (s.setResidual x r false, n' ≠ n || r ≠ sum) := by
  subst hn hsum hr
  rfl

/-- A nudge past its checks. -/
theorem exec_nudge_of_following {s : State} {tag : Byte} {p : List Byte} (h : RequestAtHead s 0x14 tag p)
    (hlen : p.length = 3) {x : LaneId} (hx : laneOfByte (byteAt p 0) = some x)
    (follows : ¬ ((s.lane x).transport = .stopped ∨ (s.lane x).follow ≠ .following)) {n' sum r : Int}
    (hn : max (-512) (min 511 (int16At p 1)) = n') (hsum : (s.lane x).residual + n' * 2 ^ 38 = sum)
    (hr : clampResidual (s.lane x).alignMode (s.unitInForce x) sum = r) :
    exec .nudge s = .next (answered (s.takeHead.setResidual x r false) 0x14 tag
      ((if n' ≠ int16At p 1 ∨ r ≠ sum then 0x01 else 0x00) :: (bytesOfInt 2 n' ++ bytesOfInt 8 r))) := by
  refine congrArg Host.Outcome.next ((handle_anyPayload_of_requestAtHead nudge h hlen).trans ?_)
  have unit : s.takeHead.unitInForce x = s.unitInForce x := by cases x <;> rfl
  have out : s.takeHead.nudgeLane x (int16At p 1) = (s.takeHead.setResidual x r false, n' ≠ int16At p 1 || r ≠ sum) :=
    nudgeLane_eq hn (by rwa [takeHead_lane]) (by rwa [takeHead_lane, unit])
  have clamped : clampInt (-512) 511 (int16At p 1) = n' := hn
  rw [nudge_of_following hx (by simpa using follows), okOr_payload, out, lane_residual_setResidual, clamped]
  simp

/-! ## The reference settings (R55) -/

theorem withSettings_eq (t : RefTracker) (q : Nat) (downbeat realign : Bool) : t.withSettings q downbeat realign =
    { t with
      q := q
      downbeat := downbeat
      realign := realign
      mark := t.mark && downbeat
      count := if q = t.q then t.count else min t.count (q - 1)
      window := if q = t.q then t.window else []
      restart := if q = t.q then t.restart else true } := by
  unfold RefTracker.withSettings
  by_cases same : q = t.q <;> simp [same]

theorem flagOfByte_of_le {v : Nat} (h : v ≤ 1) : flagOfByte v = some (decide (v = 1)) := by
  interval_cases v <;> rfl

theorem le_of_flagOfByte {v : Nat} {b : Bool} (h : flagOfByte v = some b) : v ≤ 1 := by
  unfold flagOfByte at h
  split at h
  · exact Nat.zero_le 1
  · exact le_rfl
  · cases h

theorem inRange_eq {lo hi v w : Nat} (h : inRange lo hi v = some w) : w = v := by
  unfold inRange at h
  split at h <;> simp_all

theorem setReference_of_illegal {s : State} {p : List Byte}
    (h : ¬ (1 ≤ byteAt p 0 ∧ byteAt p 0 ≤ 96 ∧ byteAt p 1 ≤ 1 ∧ byteAt p 2 ≤ 1)) :
    setReference p s = refuse .badValue s := by
  unfold setReference
  split
  · next q downbeat realign hq hdownbeat hrealign =>
    refine absurd ?_ h
    obtain ⟨low, high⟩ := inRange_some hq
    rw [inRange_eq hq] at low high
    exact ⟨low, high, le_of_flagOfByte hdownbeat, le_of_flagOfByte hrealign⟩
  · rfl

theorem applyReference_eq (s : State) (q : Nat) (downbeat realign : Bool) : s.applyReference q downbeat realign =
    let set : RefTracker := { s.ref with
      q := q
      downbeat := downbeat
      realign := realign
      mark := s.ref.mark && downbeat
      count := if q = s.ref.q then s.ref.count else min s.ref.count (q - 1)
      window := if q = s.ref.q then s.ref.window else []
      restart := if q = s.ref.q then s.ref.restart else true }
    let taken := { s with ref := set }
    let held := if q ≠ s.ref.q ∧ s.ref.lock = .locked then
        { taken with ref := { set with lock := .holdover, holdoverStart := some s.clock } }.becameHoldover
          .reference .reference s.ref.estimate none
      else taken
    if downbeat = s.ref.downbeat then held else held.forFollowers .reference fun x t => t.rangeResidual x := by
  unfold State.applyReference
  dsimp only
  rw [withSettings_eq, ite_not]
  by_cases same : q = s.ref.q
  · simp [same]
  · simp [same, State.refEnterHoldover, RefTracker.heldFrom, keepLast]

/-- Settles O32: a nudge by R40's checks and R13's clamps; the reference's settings field by field. -/
theorem nudgeAndReferenceRequests : Obligations.NudgeAndReferenceRequests := by
  refine ⟨fun s tag p h hlen => ?nudge, fun s tag p h hlen => ?reference⟩
  case nudge =>
    have refused {r : ResultCode} (e : nudge p s.takeHead = refuse r s.takeHead) :
        exec .nudge s = .next (answered s.takeHead 0x14 tag [BitVec.ofNat 8 r.value]) :=
      congrArg Host.Outcome.next (handle_refused h hlen e)
    cases hx : laneOfByte (byteAt p 0) with
    | none => exact refused (r := .badValue) (by simp only [nudge, hx])
    | some x =>
      dsimp only
      by_cases idle : (s.lane x).transport = .stopped ∨ (s.lane x).follow ≠ .following
      · rw [if_pos idle]
        exact refused (r := .wrongState) (nudge_of_not_following hx (by simpa using idle))
      · rw [if_neg idle, exec_nudge_of_following h hlen hx idle rfl rfl (clampResidual_eq ..), setResidual_false,
          takeHead_lane]
        rfl
  case reference =>
    dsimp only
    by_cases legal : 1 ≤ byteAt p 0 ∧ byteAt p 0 ≤ 96 ∧ byteAt p 1 ≤ 1 ∧ byteAt p 2 ≤ 1
    · rw [if_neg (not_not_intro legal)]
      obtain ⟨q1, q96, flag, flag'⟩ := legal
      have accepted : setReference p s.takeHead =
          (s.takeHead.applyReference (byteAt p 0) (decide (byteAt p 1 = 1)) (decide (byteAt p 2 = 1)),
            .okOr false []) := by
        simp only [setReference, inRange_of_mem q1 q96, flagOfByte_of_le flag, flagOfByte_of_le flag']
      refine congrArg Host.Outcome.next ((handle_ok h hlen accepted).trans ?_)
      rw [applyReference_eq]
      rfl
    · rw [if_pos legal]
      exact congrArg Host.Outcome.next (handle_refused (r := .badValue) h hlen (setReference_of_illegal legal))

end Sys2Proof.Machine

/-! SET_BUS and WRITE_FILTER (O53, O54). -/

namespace Sys2Proof.Machine

theorem tenBits_of_lt {v : Nat} (h : v < 1024) : tenBits v = some (BitVec.ofNat 10 v) := if_pos h

theorem tenBits_of_not_lt {v : Nat} (h : ¬ v < 1024) : tenBits v = none := if_neg h

/-! ## SET_BUS (R179) -/

/-- Settles O53: the four values checked, then the settings, which act at once where no own frame is being sent. -/
theorem setBusRequest : Obligations.SetBusRequest := by
  intro s tag p h hlen
  have refused (e : setBus p s.takeHead = refuse .badValue s.takeHead) :
      exec .setBus s = .next (answered s.takeHead 0x50 tag [0x12]) :=
    congrArg Host.Outcome.next (handle_refused h hlen e)
  cases hrate : bitRateOf (byteAt p 0) with
  | none => exact refused (by simp only [setBus, hrate])
  | some rate =>
    cases hmode : lineModeOf (byteAt p 1) with
    | none => exact refused (by simp only [setBus, hrate, hmode])
    | some mode =>
      cases hlead : leadOf (byteAt p 2) with
      | none => exact refused (by simp only [setBus, hrate, hmode, hlead])
      | some lead =>
        dsimp only
        by_cases station : 1024 ≤ fieldAt p 3 2
        · rw [if_pos station]
          exact refused (by simp only [setBus, hrate, hmode, hlead, tenBits_of_not_lt (Nat.not_lt.2 station)])
        · rw [if_neg station]
          refine congrArg Host.Outcome.next ((handle_ok (rule := setBus) h hlen
            (by simp only [setBus, hrate, hmode, hlead, tenBits_of_lt (Nat.not_le.1 station)]; rfl)).trans ?_)
          rfl

/-! ## WRITE_FILTER (R56, R170) -/

theorem writeFilter_of_illegal {s : State} {p : List Byte}
    (h : ¬ (byteAt p 0 < 8 ∧ byteAt p 1 ≤ 1 ∧ fieldAt p 2 2 < 1024 ∧ fieldAt p 4 2 < 1024)) :
    writeFilter p s = refuse .badValue s := by
  unfold writeFilter
  split
  · next hn henabled hcode hmask =>
    refine absurd ⟨?_, le_of_flagOfByte henabled, ?_, ?_⟩ h
    · by_contra above
      rw [indexOfByte_of_not_lt above] at hn
      cases hn
    · by_contra above
      rw [tenBits_of_not_lt above] at hcode
      cases hcode
    · by_contra above
      rw [tenBits_of_not_lt above] at hmask
      cases hmask
  · rfl

/-- Settles O54: the entry is written and its tracker reset, which a tracker that was SEARCHING does not tell. -/
theorem writeFilterRequest : Obligations.WriteFilterRequest := by
  intro s tag p h hlen
  refine ⟨fun illegal => congrArg Host.Outcome.next (handle_refused (r := .badValue) h hlen (writeFilter_of_illegal illegal)),
    fun legal n hn => ?_⟩
  obtain ⟨entry, flag, code, mask⟩ := legal
  have index : indexOfByte 8 (byteAt p 0) = some n := by
    rw [indexOfByte_of_lt entry]
    exact congrArg some (Fin.ext hn)
  refine congrArg Host.Outcome.next ((handle_ok (rule := writeFilter) h hlen
    (by simp only [writeFilter, index, flagOfByte_of_le flag, tenBits_of_lt code, tenBits_of_lt mask]; rfl)).trans ?_)
  rfl

end Sys2Proof.Machine

/-! Beats above a beat (O20): the distance of R2 under additions, and the search of R71 and R144. -/

namespace Sys2Proof.Machine

/-! ## Distances (R2) -/

theorem toInt_add_of_range {x y : U32} (low : -2 ^ 31 ≤ x.toInt + y.toInt) (high : x.toInt + y.toInt < 2 ^ 31) :
    (x + y).toInt = x.toInt + y.toInt := by
  rw [BitVec.toInt_add]
  exact Int.bmod_eq_of_le (by omega) (by omega)

theorem toInt_ofNat_of_lt {n : Nat} (h : n < 2 ^ 31) : (BitVec.ofNat 32 n).toInt = n := by
  have value : (BitVec.ofNat 32 n).toNat = n := by
    rw [BitVec.toNat_ofNat]
    exact Nat.mod_eq_of_lt (by omega)
  rw [BitVec.toInt_eq_toNat_of_lt (by omega), value]

/-- Distances add up while they stay in the range of R2. -/
theorem ahead_trans {x y z : U32} (low : -2 ^ 31 ≤ ahead x y + ahead y z) (high : ahead x y + ahead y z < 2 ^ 31) :
    ahead x z = ahead x y + ahead y z := by
  have split : x - z = (x - y) + (y - z) := by bv_omega
  simp only [ahead] at *
  rw [split]
  exact toInt_add_of_range low high

theorem ahead_add {y z : U32} {n : Nat} (h : ahead y z + n < 2 ^ 31) (small : n < 2 ^ 31) :
    ahead (y + BitVec.ofNat 32 n) z = ahead y z + n := by
  have split : y + BitVec.ofNat 32 n - z = (y - z) + BitVec.ofNat 32 n := by bv_omega
  have below := (ahead_range y z).1
  have length := toInt_ofNat_of_lt small
  simp only [ahead] at *
  rw [split, toInt_add_of_range (by rw [length]; omega) (by rw [length]; omega), length]

theorem ahead_swap {y z : U32} (h : -2 ^ 31 < ahead y z) : ahead z y = -ahead y z := by
  have swap : z - y = -(y - z) := by bv_omega
  simp only [ahead] at *
  rw [swap, BitVec.toInt_neg]
  have := (ahead_range y z).2
  simp only [ahead] at this
  exact Int.bmod_eq_of_le (by omega) (by omega)

/-! ## The first beat above another (R71, R144) -/

/-- `firstAbove` is the first beat of the staircase above `h`, and stands no more than a step above it where it is not
the candidate itself. -/
theorem firstAbove_spec {cand h : U32} {step : Nat} (pos : 0 < step) (small : step ≤ 2 ^ 10)
    (low : -2 ^ 30 ≤ ahead cand h) : ∃ m : Nat,
      firstAbove cand h step = cand + BitVec.ofNat 32 (m * step) ∧
      ahead (firstAbove cand h step) h = ahead cand h + ↑(m * step) ∧
      0 < ahead (firstAbove cand h step) h ∧
      (firstAbove cand h step = cand ∨ ahead (firstAbove cand h step) h ≤ step) ∧
      ∀ j < m, ahead (cand + BitVec.ofNat 32 (j * step)) h ≤ 0 := by
  unfold firstAbove
  split
  · next above => exact ⟨0, by simp, by simp, above, .inl rfl, fun j hj => absurd hj (Nat.not_lt_zero j)⟩
  · next below =>
    obtain ⟨d, hd⟩ : ∃ d : Nat, ahead h cand = d := ⟨(ahead h cand).toNat, by rw [ahead_swap (by omega)]; omega⟩
    have swap := ahead_swap (y := cand) (z := h) (by omega)
    have div := Nat.div_add_mod d step
    have mod := Nat.mod_lt d pos
    have next : step * (d / step + 1) = step * (d / step) + step := Nat.mul_succ step _
    rw [hd, Int.toNat_natCast]
    have dist : ahead (cand + BitVec.ofNat 32 (step * (d / step + 1))) h =
        ahead cand h + ↑(step * (d / step + 1)) := ahead_add (by omega) (by omega)
    refine ⟨d / step + 1, by rw [Nat.mul_comm], by rw [dist, Nat.mul_comm], by omega, .inr (by omega), fun j hj => ?_⟩
    have : j * step ≤ d := (Nat.mul_le_mul_right step (Nat.le_of_lt_succ hj)).trans (Nat.div_mul_le_self d step)
    rw [ahead_add (by omega) (by omega)]
    omega

theorem isFirstAbove_firstAbove {cand h : U32} {step : Nat} (pos : 0 < step) (small : step ≤ 2 ^ 10)
    (low : -2 ^ 30 ≤ ahead cand h) : isFirstAbove (firstAbove cand h step) cand step h := by
  obtain ⟨m, eq, -, above, -, first⟩ := firstAbove_spec pos small low
  exact ⟨m, eq, above, first⟩

/-- A candidate at most `2 ^ 10` beats after the beat that the counters stand at. -/
theorem candidate_low {at_ h : U32} {n : Nat} (small : n ≤ 2 ^ 10) (low : -2 ^ 30 < ahead h at_)
    (high : ahead h at_ < 2 ^ 30) : -2 ^ 30 ≤ ahead (at_ + BitVec.ofNat 32 n) h := by
  have swap := ahead_swap (y := h) (z := at_) (by omega)
  rw [ahead_add (by omega) (by omega)]
  omega

theorem phraseBeats_bounds {b p : Nat} (h : meterLegal b p) : 0 < b * p ∧ b * p ≤ 2 ^ 10 := by
  obtain ⟨hb, hb', hp, hp'⟩ := h
  exact ⟨Nat.mul_pos hb hp, (Nat.mul_le_mul hb' hp' : b * p ≤ 16 * 64)⟩

/-- Settles O20: each boundary mode is a search from its first candidate, at most a phrase after the lane's beat. -/
theorem takeModesResolveAboveH : Obligations.TakeModesResolveAboveH := by
  intro l legal low high
  obtain ⟨meter, -, -⟩ := legal
  obtain ⟨positive, short⟩ := phraseBeats_bounds meter
  obtain ⟨hb, hb', hp, hp'⟩ := meter
  have rest : (l.barsPerPhrase - l.barInPhrase) * l.beatsPerBar - l.beatInBar ≤ 2 ^ 10 :=
    (Nat.sub_le _ _).trans ((Nat.mul_le_mul_right _ (Nat.sub_le _ _)).trans (by rwa [Nat.mul_comm]))
  exact ⟨rfl, isFirstAbove_firstAbove hb (by omega) (candidate_low (by omega) low high),
    isFirstAbove_firstAbove positive short (candidate_low rest low high), fun _ _ _ => rfl⟩

end Sys2Proof.Machine

/-! Handovers measured at a known boundary (O52): the measurement, its test and deadline, and the switch beat. -/

namespace Sys2Proof.Machine

/-! ## The switch beat (R144) -/

theorem staircase_add (y : U32) (m k step : Nat) :
    y + BitVec.ofNat 32 (m * step) + BitVec.ofNat 32 (k * step) = y + BitVec.ofNat 32 ((m + k) * step) := by
  rw [BitVec.add_assoc, Nat.add_mul, BitVec.ofNat_add]

/-- Beats within 2^29 of `h` searched past one after another, from a beat above `h`: the result is the first of the
staircase above all of them. -/
theorem foldl_firstAbove {h : U32} {step : Nat} (pos : 0 < step) (small : step ≤ 2 ^ 10) :
    ∀ (beats : List U32) (y : U32), (∀ b ∈ beats, -2 ^ 29 < ahead b h ∧ ahead b h < 2 ^ 29) →
      0 < ahead y h → ahead y h < 2 ^ 29 + 2 ^ 11 → ∃ m : Nat,
        beats.foldl (fun y b => firstAbove y b step) y = y + BitVec.ofNat 32 (m * step) ∧
        ahead y h + ↑(m * step) < 2 ^ 29 + 2 ^ 11 ∧
        (∀ b ∈ beats, 0 < ahead (y + BitVec.ofNat 32 (m * step)) b) ∧
        ∀ j < m, ∃ b ∈ beats, ahead (y + BitVec.ofNat 32 (j * step)) b ≤ 0
  | [], y, _, _, high => ⟨0, by simp, by simpa using high, by simp, by simp⟩
  | b :: bs, y, near, low, high => by
    obtain ⟨⟨bLow, bHigh⟩, near⟩ := List.forall_mem_cons.1 near
    have swap := ahead_swap (y := b) (z := h) (by omega)
    have from_b {z : U32} (above : 0 < ahead z h) (below : ahead z h < 2 ^ 29 + 2 ^ 11) :
        ahead z b = ahead z h - ahead b h := by
      rw [ahead_trans (y := h) (by omega) (by omega)]
      omega
    have yb := from_b low high
    obtain ⟨k, eq, dist, above, close, before⟩ := firstAbove_spec pos small (cand := y) (h := b) (by omega)
    have together : ahead y h + ↑(k * step) < 2 ^ 29 + 2 ^ 11 := by
      rcases close with same | close
      · rw [same] at dist
        omega
      · omega
    rw [eq] at above dist
    have zh : ahead (y + BitVec.ofNat 32 (k * step)) h = ahead y h + ↑(k * step) := ahead_add (by omega) (by omega)
    obtain ⟨m, fold, bound, all, first⟩ :=
      foldl_firstAbove pos small bs (y + BitVec.ofNat 32 (k * step)) near (by omega) (by omega)
    have wh : ahead (y + BitVec.ofNat 32 (k * step) + BitVec.ofNat 32 (m * step)) h =
        ahead (y + BitVec.ofNat 32 (k * step)) h + ↑(m * step) := ahead_add (by omega) (by omega)
    have zb := from_b (z := y + BitVec.ofNat 32 (k * step)) (by omega) (by omega)
    have wb := from_b (z := y + BitVec.ofNat 32 (k * step) + BitVec.ofNat 32 (m * step)) (by omega) (by omega)
    simp only [staircase_add] at fold all wh wb first
    refine ⟨k + m, by rw [List.foldl_cons, eq, fold], ?_, List.forall_mem_cons.2 ⟨by omega, all⟩, fun j hj => ?_⟩
    · rw [Nat.add_mul]
      omega
    · by_cases early : j < k
      · exact ⟨b, List.mem_cons_self, before j early⟩
      · obtain ⟨b', mem, behind⟩ := first (j - k) (by omega)
        rw [Nat.add_sub_cancel' (Nat.not_lt.1 early)] at behind
        exact ⟨b', List.mem_cons_of_mem _ mem, behind⟩

theorem mem_allChannels : ∀ n, n ∈ allChannels := by decide

/-- The beats that the members of record `r` stand at on lane `x`. -/
def State.memberBeats (s : State) (r : Fin 4) (x : LaneId) : List U32 :=
  (allChannels.filter fun n => s.inHandoverRecord r n).map fun n => ((s.chan n).projectedOn (s.lane x)).beat

theorem forall_memberBeats {s : State} {r : Fin 4} {x : LaneId} {p : U32 → Prop} : (∀ b ∈ s.memberBeats r x, p b) ↔
    ∀ n, s.inHandoverRecord r n = true → p ((s.chan n).projectedOn (s.lane x)).beat := by
  simp [State.memberBeats, mem_allChannels]

theorem switchBeatFor_eq_foldl (s : State) (r : Fin 4) (x : LaneId) (at_ : U32) (len : AlignLength) :
    s.switchBeatFor r x at_ len = (s.memberBeats r x).foldl (fun y b => firstAbove y b (unitBeats len (s.lane x)))
      (nextStartFrom at_ len (s.lane x)) := by
  simp only [State.memberBeats, List.foldl_map, List.foldl_filter]
  rfl

/-- The first candidate of R71 for counters that stand at beat `at_`. -/
def firstCandidate (at_ : U32) (len : AlignLength) (l : Lane) : U32 :=
  match len with
  | .beat => l.high + 1
  | .bar => at_ + BitVec.ofNat 32 (l.beatsPerBar - l.beatInBar)
  | .phrase => at_ + BitVec.ofNat 32 ((l.barsPerPhrase - l.barInPhrase) * l.beatsPerBar - l.beatInBar)

theorem unitBeats_bounds {l : Lane} (h : meterLegal l.beatsPerBar l.barsPerPhrase) (len : AlignLength) :
    0 < unitBeats len l ∧ unitBeats len l ≤ 2 ^ 10 := by
  obtain ⟨hb, hb', -⟩ := id h
  cases len with
  | beat => exact ⟨Nat.one_pos, by simp [unitBeats]⟩
  | bar => exact ⟨hb, hb'.trans (by norm_num)⟩
  | phrase => exact phraseBeats_bounds h

/-- `y` is the first of the staircase from `first` that stands above `h`, and stands near it. -/
def StartsAbove (first : U32) (step : Nat) (h y : U32) : Prop :=
  ∃ m : Nat, y = first + BitVec.ofNat 32 (m * step) ∧ 0 < ahead y h ∧ ahead y h < 2 ^ 29 + 2 ^ 11 ∧
    ∀ j < m, ahead (first + BitVec.ofNat 32 (j * step)) h ≤ 0

theorem startsAbove_firstAbove {h at_ : U32} {n step : Nat} (pos : 0 < step) (small : step ≤ 2 ^ 10) (hn : n ≤ 2 ^ 10)
    (low : -2 ^ 29 < ahead h at_) (high : ahead h at_ < 2 ^ 29) :
    StartsAbove (at_ + BitVec.ofNat 32 n) step h (firstAbove (at_ + BitVec.ofNat 32 n) h step) := by
  have swap := ahead_swap (y := h) (z := at_) (by omega)
  have dist : ahead (at_ + BitVec.ofNat 32 n) h = ahead at_ h + n := ahead_add (by omega) (by omega)
  obtain ⟨m, eq, -, above, close, before⟩ := firstAbove_spec pos small (cand := at_ + BitVec.ofNat 32 n) (h := h)
    (by omega)
  refine ⟨m, eq, above, ?_, before⟩
  rcases close with same | close
  · rw [same]
    omega
  · omega

/-- The candidate of R71 above H, at most a phrase above what it starts from. -/
theorem nextStartFrom_startsAbove {l : Lane} {at_ : U32} (len : AlignLength)
    (meter : meterLegal l.beatsPerBar l.barsPerPhrase) (low : -2 ^ 29 < ahead l.high at_)
    (high : ahead l.high at_ < 2 ^ 29) :
    StartsAbove (firstCandidate at_ len l) (unitBeats len l) l.high (nextStartFrom at_ len l) := by
  obtain ⟨positive, short⟩ := unitBeats_bounds meter len
  obtain ⟨hb, hb', hp, hp'⟩ := meter
  cases len with
  | beat =>
    have next : ahead (l.high + 1) l.high = 1 := ahead_succ l.high
    exact ⟨0, by simp [nextStartFrom, firstCandidate], lt_of_lt_of_eq Int.one_pos next.symm,
      lt_of_eq_of_lt next (by norm_num), fun j hj => absurd hj (Nat.not_lt_zero j)⟩
  | bar => exact startsAbove_firstAbove positive short (by omega) low high
  | phrase =>
    have rest : (l.barsPerPhrase - l.barInPhrase) * l.beatsPerBar ≤ 64 * 16 :=
      Nat.mul_le_mul ((Nat.sub_le _ _).trans hp') hb'
    exact startsAbove_firstAbove positive short ((Nat.sub_le _ _).trans rest) low high

/-- The switch beat is the first of the candidates above H and above every member's beat. -/
theorem switchBeatFor_spec {s : State} {r : Fin 4} {x : LaneId} {at_ : U32} (len : AlignLength)
    (meter : meterLegal (s.lane x).beatsPerBar (s.lane x).barsPerPhrase) (low : -2 ^ 29 < ahead (s.lane x).high at_)
    (high : ahead (s.lane x).high at_ < 2 ^ 29)
    (near : ∀ b ∈ s.memberBeats r x, -2 ^ 29 < ahead b (s.lane x).high ∧ ahead b (s.lane x).high < 2 ^ 29) :
    let y (m : Nat) : U32 := firstCandidate at_ len (s.lane x) + BitVec.ofNat 32 (m * unitBeats len (s.lane x))
    let above (y : U32) : Prop := 0 < ahead y (s.lane x).high ∧ ∀ b ∈ s.memberBeats r x, 0 < ahead y b
    ∃ m : Nat, s.switchBeatFor r x at_ len = y m ∧ above (y m) ∧ ∀ j < m, ¬ above (y j) := by
  obtain ⟨positive, short⟩ := unitBeats_bounds meter len
  obtain ⟨k, start, above, close, before⟩ := nextStartFrom_startsAbove len meter low high
  obtain ⟨m, fold, bound, all, first⟩ := foldl_firstAbove positive short _ _ near above close
  rw [start] at bound all above fold first
  have result : ahead (firstCandidate at_ len (s.lane x) + BitVec.ofNat 32 (k * unitBeats len (s.lane x)) +
      BitVec.ofNat 32 (m * unitBeats len (s.lane x))) (s.lane x).high = _ := ahead_add (by omega) (by omega)
  simp only [staircase_add] at fold all first result
  refine ⟨k + m, by rw [switchBeatFor_eq_foldl, start, fold], ⟨lt_of_lt_of_eq (by omega) result.symm, all⟩, fun j hj ⟨aboveH, aboveAll⟩ => ?_⟩
  by_cases early : j < k
  · exact absurd aboveH (not_lt.2 (before j early))
  · obtain ⟨b, mem, behind⟩ := first (j - k) (by omega)
    rw [Nat.add_sub_cancel' (Nat.not_lt.1 early)] at behind
    exact absurd (aboveAll b mem) (not_lt.2 behind)

/-! ## The measurement (R146 to R148) -/

theorem measure_of_none {s : State} {k : KnownBoundary} {at_ : U32} {r : Fin 4} (h : s.ho r = none) :
    s.measure k at_ r = s := by
  simp only [State.measure, h]

theorem measure_of_other {s : State} {k : KnownBoundary} {at_ : U32} {r : Fin 4} {h : HandoverRecord}
    (eq : s.ho r = some h) (other : h.toLane ≠ k.lane ∨ h.stage ≠ .waitingAlign) : s.measure k at_ r = s := by
  simp only [State.measure, eq]
  refine if_neg fun both => ?_
  simp only [Bool.and_eq_true, beq_iff_eq] at both
  rcases other with lane | stage
  · exact lane both.1
  · exact stage both.2

/-- The record that a measurement leaves, by its residual `d` and its window. -/
theorem measure_of_waiting {s : State} {k : KnownBoundary} {at_ : U32} {r : Fin 4} {h : HandoverRecord}
    (eq : s.ho r = some h) (lane : h.toLane = k.lane) (stage : h.stage = .waitingAlign) {d : Int} {window : Nat}
    (measured : interLaneResidual k h.alignLength (s.lane (otherLane k.lane)) = d) (units : h.window.units = window) :
    let now (g : HandoverRecord) : State := s.setHo r (some { g with residual := some d })
    let y := s.switchBeatFor r k.lane at_ h.alignLength
    (d.natAbs ≤ window → s.measure k at_ r = now { h with
      stage := .switchDue .aligned y (some (nearestBeat (s.lane (otherLane k.lane)).pos + (y - k.index))) }) ∧
    (window < d.natAbs → k.bar = false → s.measure k at_ r = now h) ∧
    (window < d.natAbs → k.bar = true → 1 < h.deadline →
      s.measure k at_ r = now { h with deadline := h.deadline - 1 }) ∧
    (window < d.natAbs → k.bar = true → h.deadline ≤ 1 → s.measure k at_ r =
      now { h with deadline := 0, stage := .switchDue .forced (s.switchBeatFor r k.lane at_ .bar) none }) := by
  subst measured units
  have waits : (h.toLane == k.lane && h.stage == .waitingAlign) = true := by simp [lane, stage]
  have fromLane : h.fromLane = otherLane k.lane := congrArg otherLane lane
  simp only [State.measure, eq, if_pos waits, fromLane]
  refine ⟨fun within => if_pos within, fun outside bar => ?_, fun outside bar left => ?_, fun outside bar last => ?_⟩
  · exact (if_neg (Nat.not_le.2 outside)).trans (if_neg (by simp [bar]))
  · exact (if_neg (Nat.not_le.2 outside)).trans ((if_pos bar).trans (if_neg (Nat.not_le.2 left)))
  · exact (if_neg (Nat.not_le.2 outside)).trans ((if_pos bar).trans (if_pos last))

theorem reduceResidual_nearest (d : Int) (l : Nat) :
    reduceResidual .nearest d l = d - (d + (l : Int) / 2) / l * l := by
  simp [reduceResidual, reduceQuotient, Int.fdiv_eq_ediv_of_nonneg]

theorem window_eq (w : Window) : w.units =
    match w with
    | .w64 => 2 ^ 48 / 64
    | .w32 => 2 ^ 48 / 32
    | .w16 => 2 ^ 48 / 16
    | .w8 => 2 ^ 48 / 8 := by
  cases w <;> norm_num [Window.units]

theorem measureAll_of_no_later {s : State} {k : KnownBoundary} (h : k.later = []) (at_ : U32) : s.measureAll k at_ =
    (((s.measure k at_ 0).measure k at_ 1).measure k at_ 2).measure k at_ 3 := by
  simp [State.measureAll, allRecords, h]

theorem measureKnown_of_single {s : State} {k : KnownBoundary} (known : s.known = [k]) : s.measureKnown =
    if (s.lane (otherLane k.lane)).crossing = true then { s with known := [k] }
    else State.measureAll { s with known := [] } k (s.lane k.lane).pos.beat := by
  simp only [State.measureKnown, known, List.foldl_cons, List.foldl_nil]
  rfl

/-- Settles O52: the measurement by the record and its test, and the switch beat by the search. -/
theorem handoverMeasurementAndTest : Obligations.HandoverMeasurementAndTest := by
  refine ⟨fun s k at_ r => ⟨fun h => measure_of_other, measure_of_none, fun h eq lane stage => ?measured⟩,
    fun s r x at_ len => ?switch, fun s x index at_ bar => ⟨fun outstanding => if_pos outstanding, fun done => ?all⟩,
    fun s k known => ⟨fun outstanding => ?waits, fun done => ?later⟩⟩
  case measured => exact measure_of_waiting eq lane stage (reduceResidual_nearest ..) (window_eq h.window)
  case switch =>
    intro l unit first above legal low high near
    have found := switchBeatFor_spec (r := r) len legal.1 low high (forall_memberBeats.2 near)
    simp only [forall_memberBeats] at found
    cases len with
    | beat => exact found
    | bar => exact found
    | phrase => exact found
  case all => exact (if_neg (by simp [done])).trans (measureAll_of_no_later rfl at_)
  case waits =>
    rw [measureKnown_of_single known, if_pos outstanding, ← known]
  case later => exact (measureKnown_of_single known).trans (if_neg (by simp [done]))

end Sys2Proof.Machine

/-! Requests of the break unit and of the handover unit (O46, O47, O50): changes made to the channels of a set, the break
opened, the break cancelled, and the same for a handover. -/

namespace Sys2Proof.Machine

/-! ## Changes of channels alone -/

/-- From `s` to `t` the channels alone may have changed. -/
def OnlyChannels (s t : State) : Prop := ∃ channels, t = { s with channels := channels }

theorem OnlyChannels.refl (s : State) : OnlyChannels s s := ⟨s.channels, rfl⟩

theorem OnlyChannels.trans {s t u : State} (h : OnlyChannels s t) (g : OnlyChannels t u) : OnlyChannels s u := by
  obtain ⟨c, rfl⟩ := h
  obtain ⟨d, rfl⟩ := g
  exact ⟨d, rfl⟩

theorem OnlyChannels.ite {s t u : State} {p : Prop} [Decidable p] (h : OnlyChannels s t) (g : OnlyChannels s u) :
    OnlyChannels s (if p then t else u) := by
  split
  · exact h
  · exact g

section
variable (s : State)

theorem onlyChannels_modChan (n : Fin 16) (f : Channel → Channel) : OnlyChannels s (s.modChan n f) := ⟨_, rfl⟩

theorem onlyChannels_forChannels {f : Fin 16 → State → State} (h : ∀ n t, OnlyChannels t (f n t)) :
    OnlyChannels s (s.forChannels f) :=
  forChannels_keeps (P := OnlyChannels s) s (fun n t ht => ht.trans (h n t)) (.refl s)

/-- Folds over the channels whose updates agree on the states that the fold comes through are the same. -/
theorem forChannels_congr_of {P : State → Prop} {f g : Fin 16 → State → State} (start : P s)
    (keeps : ∀ n t, P t → P (f n t)) (same : ∀ n t, P t → f n t = g n t) : s.forChannels f = s.forChannels g := by
  unfold State.forChannels
  generalize allChannels = l
  induction l generalizing s with
  | nil => rfl
  | cons n l ih =>
    rw [List.foldl_cons, List.foldl_cons, ← same n s start]
    exact ih (f n s) (keeps n s start)

section
variable (p : Fin 16 → Channel → Prop) [∀ n c, Decidable (p n c)] (f : Fin 16 → Channel → Channel)

/-- Each channel that satisfies `p` changed by `f`. -/
def State.changeWhere : State := s.forChannels fun n t => if p n (t.chan n) then t.modChan n (f n) else t

theorem chan_changeWhere (m : Fin 16) :
    (s.changeWhere p f).chan m = if p m (s.chan m) then f m (s.chan m) else s.chan m := by
  refine forChannels_chan s (g := fun n c => if p n c then f n c else c) (fun n t k => ?_) m
  by_cases h : p n (t.chan n)
  · simp only [if_pos h, chan_modChan]
  · simp only [if_neg h]
    split
    · next e => rw [e]
    · rfl

theorem onlyChannels_changeWhere : OnlyChannels s (s.changeWhere p f) :=
  onlyChannels_forChannels s fun n t => .ite (onlyChannels_modChan t n (f n)) (.refl t)

end

end

theorem OnlyChannels.lane {s t : State} (h : OnlyChannels s t) (x : LaneId) : t.lane x = s.lane x := by
  obtain ⟨_, rfl⟩ := h
  rfl

theorem OnlyChannels.brk {s t : State} (h : OnlyChannels s t) (r : Fin 4) : t.brk r = s.brk r := by
  obtain ⟨_, rfl⟩ := h
  rfl

theorem OnlyChannels.ho {s t : State} (h : OnlyChannels s t) (r : Fin 4) : t.ho r = s.ho r := by
  obtain ⟨_, rfl⟩ := h
  rfl

/-! ## Opening a break (R131, R132) -/

/-- A WAITING member of record `r` whose projection on lane `l` stands at or past beat `y`. -/
def passedMember (r : Fin 4) (l : Lane) (y : U32) (c : Channel) : Bool :=
  match c.brk with
  | some ⟨r', .waiting _⟩ => r' = r && (c.projectedOn l).reached y
  | _ => false

theorem passedMember_waiting (r : Fin 4) (l : Lane) (y : U32) (c : Channel) (once : Bool) :
    passedMember r l y { c with brk := some ⟨r, .waiting once⟩ } = (c.projectedOn l).reached y := by
  simp only [passedMember, decide_true, Bool.true_and]
  rfl

theorem markPassed_eq (s : State) (r : Fin 4) (timing : LaneId) (y : U32) : s.markPassed r timing y =
    s.changeWhere (fun _ c => passedMember r (s.lane timing) y c = true)
      fun _ c => { c with brk := some ⟨r, .waiting true⟩ } := by
  have step (n : Fin 16) (t : State) (h : OnlyChannels s t) :
      (if passedMember r (s.lane timing) y (t.chan n) = true then
        t.modChan n fun c => { c with brk := some ⟨r, .waiting true⟩ } else t) =
      match (t.chan n).brk with
      | some ⟨r', .waiting _⟩ =>
        if r' = r && ((t.chan n).projectedOn (t.lane timing)).reached y then
          t.modChan n fun c => { c with brk := some ⟨r', .waiting true⟩ }
        else t
      | _ => t := by
    unfold passedMember
    rw [h.lane]
    split
    · next r' _ _ =>
      by_cases own : r' = r
      · rw [own]
      · simp [own]
    · rfl
  exact (forChannels_congr_of s (P := OnlyChannels s) (.refl s)
    (fun n t ht => ht.trans (.ite (onlyChannels_modChan t n _) (.refl t))) step).symm

section
variable (s : State) (r : Fin 4) (set : ChannelSet) (mode : BreakMode) (length : Nat) (take : TakeMode) (timing : LaneId)

/-- The record taken and its members waiting, before the members that have passed the due beat are marked. -/
def State.breakPlaced : State :=
  (s.setBrk r (some ⟨false, set, mode, length, timing, s.breakDue take timing, false, 0, false, false⟩)).changeWhere
    (fun n _ => inSet set n = true) fun _ c => { c with brk := some ⟨r, .waiting (take = .immediate)⟩ }

theorem openBreak_eq : s.openBreak r set mode length take timing = match s.breakDue take timing with
    | .beat y => (s.breakPlaced r set mode length take timing).markPassed r timing y
    | _ => s.breakPlaced r set mode length take timing := rfl

theorem chan_breakPlaced (n : Fin 16) : (s.breakPlaced r set mode length take timing).chan n =
    if inSet set n = true then { s.chan n with brk := some ⟨r, .waiting (take = .immediate)⟩ } else s.chan n :=
  chan_changeWhere _ _ _ n

theorem onlyChannels_breakPlaced : OnlyChannels
    (s.setBrk r (some ⟨false, set, mode, length, timing, s.breakDue take timing, false, 0, false, false⟩))
    (s.breakPlaced r set mode length take timing) := onlyChannels_changeWhere _ _ _

theorem onlyChannels_openBreak : OnlyChannels
    (s.setBrk r (some ⟨false, set, mode, length, timing, s.breakDue take timing, false, 0, false, false⟩))
    (s.openBreak r set mode length take timing) := by
  rw [openBreak_eq]
  refine (onlyChannels_breakPlaced ..).trans ?_
  split
  · rw [markPassed_eq]
    exact onlyChannels_changeWhere _ _ _
  · exact .refl _

variable {s r}

theorem chan_openBreak (own : ∀ n m, (s.chan n).brk = some m → m.record ≠ r) (n : Fin 16) :
    (s.openBreak r set mode length take timing).chan n =
      if inSet set n = true then
        { s.chan n with brk := some ⟨r, .waiting (match s.breakDue take timing with
          | .beat y => ((s.chan n).projectedOn (s.lane timing)).reached y
          | _ => decide (take = .immediate))⟩ }
      else s.chan n := by
  have outside (l : Lane) (y : U32) : passedMember r l y (s.chan n) = false := by
    unfold passedMember
    split
    · next r' _ member => simp [own n _ member]
    · rfl
  have placed := chan_breakPlaced s r set mode length take timing n
  rw [openBreak_eq]
  cases due : s.breakDue take timing with
  | beat y =>
    have later : decide (take = .immediate) = false := by
      cases take <;> simp [State.breakDue] at due ⊢
    dsimp only
    rw [markPassed_eq, chan_changeWhere, (onlyChannels_breakPlaced ..).lane, placed, later]
    by_cases member : inSet set n = true
    · simp only [if_pos member]
      rw [passedMember_waiting]
      by_cases passed : ((s.chan n).projectedOn (s.lane timing)).reached y = true
      · rw [if_pos (by exact passed), passed]
      · rw [if_neg (by exact passed), Bool.eq_false_iff.2 passed]
    · simp only [if_neg member]
      refine if_neg ?_
      rw [show (s.setBrk r _).lane timing = s.lane timing from rfl, outside]
      exact Bool.false_ne_true
  | cue c => exact placed
  | absent => exact placed

end

theorem breakBar_eq (s : State) (set : ChannelSet) (take : TakeMode) (timing : LaneId) : s.breakBar set take timing =
    if ∃ n, inSet set n = true ∧ (s.chan n).brk.isSome = true then some .busy
    else if (∃ n, inSet set n = true ∧ (s.laneOf n).transport = .stopped) ∨
        take.isBoundary = true ∧ (s.lane timing).transport = .stopped then some .wrongState
    else none := by
  have stopped (x : Lane) : (!x.isRunning) = true ↔ x.transport = .stopped := by
    rw [Bool.not_eq_true', isRunning_eq_false]
  simp only [State.breakBar, anyIn_eq_true, Bool.and_eq_true, stopped]
  split
  · rfl
  · split
    · next h => exact (if_pos (.inl h)).symm
    · next h => exact if_congr (by simp [h]) rfl rfl

/-- Settles O46: R131's checks in order; the record, its members and those of them that have passed the due beat. -/
theorem startBreakRequest : Obligations.StartBreakRequest := by
  refine ⟨fun s tag p h hlen => ?_, fun s r set mode length take timing => ?_⟩
  · intro set
    have refused {r : ResultCode} (e : startBreak p s.takeHead = refuse r s.takeHead) :
        exec .startBreak s = .next (answered s.takeHead 0x38 tag [BitVec.ofNat 8 r.value]) :=
      congrArg Host.Outcome.next (handle_refused h hlen e)
    cases hmode : breakModeOfByte (byteAt p 2) with
    | none => exact refused (r := .badValue) (by simp only [startBreak, hmode])
    | some mode =>
    cases hlength : inRange 1 256 (fieldAt p 3 2) with
    | none => exact refused (r := .badValue) (by simp only [startBreak, hmode, hlength])
    | some length =>
    cases htake : takeNoJoin p 5 with
    | none => exact refused (r := .badValue) (by simp only [startBreak, hmode, hlength, htake])
    | some take =>
    cases htiming : laneOfByte (byteAt p 7) with
    | none => exact refused (r := .badValue) (by simp only [startBreak, hmode, hlength, htake, htiming])
    | some timing =>
    dsimp only
    have rule : startBreak p s.takeHead =
        if set = 0 ∨ ∃ n, inSet set n = true ∧ (s.chan n).cfg.enabled = false then refuse .badValue s.takeHead
        else match s.takeHead.breakBar set take timing, s.freeBreak with
          | some r, _ => refuse r s.takeHead
          | none, none => refuse .tableFull s.takeHead
          | none, some r => (s.takeHead.openBreak r set mode length take timing, .okOr false (byte r.val)) := by
      simp only [startBreak, hmode, hlength, htake, htiming]
      refine if_congr ?_ rfl rfl
      rw [Bool.or_eq_true, beq_iff_eq, anyIn_eq_true]
      simp only [takeHead_chan, Bool.not_eq_true']
      exact Iff.rfl
    rw [show s.takeHead.breakBar set take timing = s.breakBar set take timing by
      simp [State.breakBar, State.laneOf], breakBar_eq] at rule
    by_cases values : set = 0 ∨ ∃ n, inSet set n = true ∧ (s.chan n).cfg.enabled = false
    · rw [if_pos values] at rule ⊢
      exact refused rule
    rw [if_neg values] at rule ⊢
    by_cases busy : ∃ n, inSet set n = true ∧ (s.chan n).brk.isSome = true
    · rw [if_pos busy] at rule ⊢
      exact refused rule
    rw [if_neg busy] at rule ⊢
    by_cases stopped : (∃ n, inSet set n = true ∧ (s.laneOf n).transport = .stopped) ∨
        take.isBoundary = true ∧ (s.lane timing).transport = .stopped
    · rw [if_pos stopped] at rule ⊢
      exact refused rule
    rw [if_neg stopped] at rule ⊢
    cases free : s.freeBreak with
    | none =>
      rw [free] at rule
      exact refused rule
    | some r =>
      rw [free] at rule
      refine congrArg Host.Outcome.next ((handle_anyPayload_of_requestAtHead startBreak h hlen).trans ?_)
      rw [rule, okOr_payload]
      rfl
  · intro t due past own
    refine ⟨fun q => ?_, chan_openBreak set mode length take timing own, ?_⟩
    · exact ((onlyChannels_openBreak ..).brk q).trans (brk_setBrk s r q _)
    · obtain ⟨channels, only⟩ := onlyChannels_openBreak s r set mode length take timing
      rw [show t = _ from only]
      rfl

end Sys2Proof.Machine

/-! CANCEL_BREAK (O47): a break cancelled, by whether a member is left in it. -/

namespace Sys2Proof.Machine

/-! ## Changes of break records and channels alone -/

/-- From `s` to `t` the break records and the channels alone may have changed. -/
def OnlyBreaks (s t : State) : Prop := ∃ breaks channels, t = { s with breaks := breaks, channels := channels }

theorem OnlyBreaks.frame {s t : State} (h : OnlyBreaks s t) :
    t = { s with breaks := t.breaks, channels := t.channels } := by
  obtain ⟨breaks, channels, rfl⟩ := h
  rfl

theorem OnlyBreaks.trans {s t u : State} (h : OnlyBreaks s t) (g : OnlyBreaks t u) : OnlyBreaks s u := by
  obtain ⟨_, _, rfl⟩ := h
  obtain ⟨breaks, channels, rfl⟩ := g
  exact ⟨breaks, channels, rfl⟩

theorem onlyBreaks_setBrk (s : State) (r : Fin 4) (b : Option BreakRecord) : OnlyBreaks s (s.setBrk r b) :=
  ⟨_, s.channels, rfl⟩

theorem onlyBreaks_modChan (s : State) (n : Fin 16) (f : Channel → Channel) : OnlyBreaks s (s.modChan n f) :=
  ⟨s.breaks, _, rfl⟩

/-- A notice posted behind them is the notice posted in `s`. -/
theorem OnlyBreaks.post {s t : State} (h : OnlyBreaks s t) (n : NoticeBody) : t.post n =
    { s with breaks := (t.post n).breaks, channels := (t.post n).channels, link := (s.post n).link } := by
  obtain ⟨breaks, channels, rfl⟩ := h
  rw [post_breaks, post_channels, ← post_link_congr (s := s) (t := { s with breaks := breaks, channels := channels })
    rfl rfl n]
  exact post_eq_modLink n

/-! ## CANCEL_BREAK (R138) -/

/-- The channel leaves record `r` when a break of `mode` is cancelled. -/
def Channel.leavesAtCancel (r : Fin 4) (mode : BreakMode) (c : Channel) : Bool :=
  match c.brk with
  | some m => m.record == r && (!m.entered || mode == .mute)
  | none => false

/-- The channel is a member of break record `r`. -/
def Channel.inBreakRecord (r : Fin 4) (c : Channel) : Bool :=
  match c.brk with
  | some m => m.record == r
  | none => false

theorem inBreakRecord_eq (s : State) (r : Fin 4) (n : Fin 16) : s.inBreakRecord r n = (s.chan n).inBreakRecord r := rfl

section
variable (s : State) (r : Fin 4) (b : BreakRecord)

/-- The record that has seen the cancel, with the members gone that leave at it. -/
def State.cancelSeen : State :=
  (s.setBrk r (some { b with cancelSeen := true, cancelPending := b.mode == .halt })).changeWhere
    (fun _ c => c.leavesAtCancel r b.mode = true) fun _ c => { c with brk := none }

theorem cancelBreak_eq (first : b.cancelPending = false) : s.cancelBreak r b = (s.cancelSeen r b).finishBreak r :=
  if_neg (by simp [first])

theorem chan_cancelSeen (n : Fin 16) : (s.cancelSeen r b).chan n =
    if (s.chan n).leavesAtCancel r b.mode = true then { s.chan n with brk := none } else s.chan n :=
  chan_changeWhere _ _ _ n

theorem brk_cancelSeen (q : Fin 4) : (s.cancelSeen r b).brk q =
    if q = r then some { b with cancelSeen := true, cancelPending := b.mode == .halt } else s.brk q :=
  ((onlyChannels_changeWhere _ _ _).brk q).trans (brk_setBrk s r q _)

theorem cancelSeen_frame : OnlyBreaks s (s.cancelSeen r b) := by
  obtain ⟨channels, only⟩ : OnlyChannels _ (s.cancelSeen r b) := onlyChannels_changeWhere _ _ _
  exact ⟨_, channels, only⟩

/-- A cancel that every member leaves at ends the record (R138, R140). -/
theorem cancelBreak_of_all_leave (first : b.cancelPending = false)
    (all : ∀ n, s.inBreakRecord r n = true → (s.chan n).leavesAtCancel r b.mode = true) :
    (∀ q, (s.cancelBreak r b).brk q = if q = r then none else s.brk q) ∧
    (∀ n, (s.cancelBreak r b).chan n = if s.inBreakRecord r n = true then { s.chan n with brk := none } else s.chan n) ∧
    s.cancelBreak r b = { s with
      breaks := (s.cancelBreak r b).breaks
      channels := (s.cancelBreak r b).channels
      link := (s.post (.breakDone r (if b.stopSeen then .stopped else .cancelled) b.mode b.set b.completed)).link } := by
  have same (n : Fin 16) : (s.chan n).leavesAtCancel r b.mode = s.inBreakRecord r n := by
    rw [Bool.eq_iff_iff]
    refine ⟨fun h => ?_, all n⟩
    unfold Channel.leavesAtCancel at h
    rw [inBreakRecord_eq, Channel.inBreakRecord]
    split at h
    · exact (Bool.and_eq_true_iff.1 h).1
    · cases h
  have empty (n : Fin 16) : (s.cancelSeen r b).inBreakRecord r n = false := by
    rw [inBreakRecord_eq, chan_cancelSeen, same]
    split
    · rfl
    · next outside => exact (inBreakRecord_eq s r n).symm.trans (by simpa using outside)
  have ends := (cancelBreak_eq s r b first).trans
    (finishBreak_of_empty (s.cancelSeen r b) ((brk_cancelSeen s r b r).trans (if_pos rfl)) empty)
  rw [ends]
  refine ⟨fun q => ?_, fun n => ?_, ?_⟩
  · rw [brk_post, brk_setBrk, brk_cancelSeen]
    split <;> rfl
  · rw [chan_post, chan_setBrk, chan_cancelSeen, same]
  · have reason : BreakRecord.reason { b with cancelSeen := true, cancelPending := b.mode == .halt } =
        if b.stopSeen then .stopped else .cancelled := by simp [BreakRecord.reason]
    rw [reason]
    exact ((cancelSeen_frame s r b).trans (onlyBreaks_setBrk _ r none)).post _

end

theorem leavesAtCancel_of_mute {r : Fin 4} {c : Channel} (member : c.inBreakRecord r = true) :
    c.leavesAtCancel r .mute = true := by
  unfold Channel.inBreakRecord at member
  unfold Channel.leavesAtCancel
  split at member
  · simp [member]
  · cases member

theorem leavesAtCancel_of_waiting {r : Fin 4} {c : Channel} {once : Bool} (waiting : c.brk = some ⟨r, .waiting once⟩)
    (mode : BreakMode) : c.leavesAtCancel r mode = true := by
  simp [Channel.leavesAtCancel, waiting, BreakMembership.entered]

theorem waiting_of_member {r : Fin 4} {c : Channel} (member : c.inBreakRecord r = true)
    (outside : ¬ ∃ k y, c.brk = some ⟨r, .inBreak k y⟩) : ∃ once, c.brk = some ⟨r, .waiting once⟩ := by
  unfold Channel.inBreakRecord at member
  split at member
  · next m h =>
    obtain ⟨record, state⟩ := m
    obtain rfl : record = r := by simpa using member
    cases state with
    | waiting once => exact ⟨once, h⟩
    | inBreak k y => exact absurd ⟨k, y, h⟩ outside
  · cases member

/-- A member that stays at the cancel is in the break, which is a HALT. -/
theorem leavesAtCancel_halt {r : Fin 4} {c : Channel} :
    c.leavesAtCancel r .halt = true ↔ ∃ once, c.brk = some ⟨r, .waiting once⟩ := by
  refine ⟨fun h => ?_, fun ⟨once, waiting⟩ => leavesAtCancel_of_waiting waiting .halt⟩
  unfold Channel.leavesAtCancel at h
  split at h
  · next m member =>
    obtain ⟨record, state⟩ := m
    cases state with
    | waiting once => exact ⟨once, by simpa [member, BreakMembership.entered] using h⟩
    | inBreak k y => simp [BreakMembership.entered] at h
  · cases h

theorem cancelBreak_of_member {s : State} {r : Fin 4} {b : BreakRecord} (first : b.cancelPending = false)
    (halt : b.mode = .halt) {n : Fin 16} {k : Nat} {y : U32} (member : (s.chan n).brk = some ⟨r, .inBreak k y⟩) :
    s.cancelBreak r b = s.cancelSeen r b := by
  refine (cancelBreak_eq s r b first).trans (finishBreak_of_member (n := n) _ ?_)
  rw [inBreakRecord_eq, chan_cancelSeen, if_neg (by simp [halt, leavesAtCancel_halt, member])]
  simp [Channel.inBreakRecord, member]

/-- Settles O47: a second cancel, a cancel at which every member leaves, and a HALT that keeps its members. -/
theorem cancelBreakRequest : Obligations.CancelBreakRequest := by
  intro s tag p h hlen
  refine ⟨fun above => congrArg Host.Outcome.next (handle_refused (r := .badValue) h hlen ?_), fun r hr => ?_⟩
  · simp only [cancelBreakRule, indexOfByte_of_not_lt (Nat.not_lt.2 above)]
  have index : indexOfByte 4 (byteAt p 0) = some r := by
    rw [indexOfByte_of_lt (hr ▸ r.isLt)]
    exact congrArg some (Fin.ext hr)
  refine ⟨fun free => congrArg Host.Outcome.next (handle_refused (r := .wrongState) h hlen ?_), fun b hb => ?_⟩
  · simp only [cancelBreakRule, index, takeHead_brk, free]
  have carried {t : State} (cancelled : s.takeHead.cancelBreak r b = t) :
      exec .cancelBreak s = .next (answered t 0x39 tag [0x00]) :=
    congrArg Host.Outcome.next (handle_ok h hlen (by
      simp only [cancelBreakRule, index, takeHead_brk, hb]
      rw [cancelled]))
  refine ⟨fun pending => carried (if_pos pending), fun first ends => ⟨_, carried rfl, ?_⟩,
    fun first halt ⟨n, k, y, member⟩ => ⟨_, carried (cancelBreak_of_member first halt member), ?_⟩⟩
  · refine cancelBreak_of_all_leave s.takeHead r b first fun n member => ?_
    rcases ends with mute | none_
    · rw [mute]
      exact leavesAtCancel_of_mute member
    · obtain ⟨once, waiting⟩ := waiting_of_member member (none_ n)
      exact leavesAtCancel_of_waiting waiting _
  · refine ⟨fun q => ?_, fun n once waiting => ?_, fun n stays => ?_, (cancelSeen_frame s.takeHead r b).frame⟩
    · rw [brk_cancelSeen, halt]
      rfl
    · exact (chan_cancelSeen s.takeHead r b n).trans (if_pos (leavesAtCancel_of_waiting waiting _))
    · refine (chan_cancelSeen s.takeHead r b n).trans (if_neg ?_)
      rw [halt, leavesAtCancel_halt]
      exact fun ⟨once, waiting⟩ => stays once waiting

end Sys2Proof.Machine

/-! START_HANDOVER and CANCEL_HANDOVER (O50). -/

namespace Sys2Proof.Machine

/-! ## The handover opened (R143, R145, R146) -/

/-- A change of the state that every channel's update commutes with commutes with the fold over the channels. -/
theorem forChannels_comm {f : Fin 16 → State → State} {g : State → State} (comm : ∀ n t, f n (g t) = g (f n t))
    (s : State) : State.forChannels (g s) f = g (s.forChannels f) :=
  List.foldl_hom g fun t n => comm n t

/-- The members of a set placed in handover record `r`. -/
def State.placeMembers (s : State) (r : Fin 4) (set : ChannelSet) : State :=
  s.forChannels fun n t => if inSet set n then t.modChan n fun c => { c with ho := some ⟨r, false⟩ } else t

theorem placeMembers_setHo (s : State) (r q : Fin 4) (set : ChannelSet) (h : Option HandoverRecord) :
    (s.setHo q h).placeMembers r set = (s.placeMembers r set).setHo q h :=
  forChannels_comm (g := fun t => t.setHo q h) (fun n t => by
    by_cases member : inSet set n = true
    · simp only [if_pos member]; rfl
    · simp only [if_neg member]) s

theorem setHo_setHo (s : State) (r : Fin 4) (h g : Option HandoverRecord) : (s.setHo r h).setHo r g = s.setHo r g := by
  simp [State.setHo]

theorem handoverBar_eq (s : State) (set : ChannelSet) : s.handoverBar set =
    if ∃ n, inSet set n = true ∧ (s.chan n).ho.isSome = true then some .busy
    else if s.laneA.transport = .stopped ∨ s.laneB.transport = .stopped then some .wrongState else none := by
  simp only [State.handoverBar, anyIn_eq_true, Bool.or_eq_true, Bool.not_eq_true', isRunning_eq_false]

theorem handoverSetValid_eq (s : State) (set : ChannelSet) (x : LaneId) : (!s.handoverSetValid set x) = true ↔
    set = 0 ∨ ∃ n, inSet set n = true ∧ ((s.chan n).cfg.enabled = false ∨ (s.chan n).cfg.lane = x) := by
  have any := anyIn_eq_true set fun n => !(s.chan n).cfg.enabled || (s.chan n).cfg.lane == x
  simp only [Bool.or_eq_true, Bool.not_eq_true', beq_iff_eq] at any
  rw [State.handoverSetValid, Bool.not_and, Bool.not_not, Bool.or_eq_true, any]
  simp

/-! ## The handover cancelled (R155, R156) -/

/-- From `s` to `t` the handover records and the channels alone may have changed. -/
def OnlyHandovers (s t : State) : Prop := ∃ handovers channels, t = { s with handovers := handovers, channels := channels }

theorem OnlyChannels.setHo {s t : State} (h : OnlyChannels s t) (r : Fin 4) (g : Option HandoverRecord) :
    OnlyHandovers s (t.setHo r g) := by
  obtain ⟨channels, rfl⟩ := h
  exact ⟨_, channels, rfl⟩

/-- A notice posted behind them is the notice posted in `s`. -/
theorem OnlyHandovers.post {s t : State} (h : OnlyHandovers s t) (n : NoticeBody) : t.post n =
    { s with handovers := (t.post n).handovers, channels := (t.post n).channels, link := (s.post n).link } := by
  obtain ⟨handovers, channels, rfl⟩ := h
  rw [post_handovers, post_channels,
    ← post_link_congr (s := s) (t := { s with handovers := handovers, channels := channels }) rfl rfl n]
  exact post_eq_modLink n

/-- The channel is a member of handover record `r`. -/
def Channel.inHandoverRecord (r : Fin 4) (c : Channel) : Bool :=
  match c.ho with
  | some m => m.record == r
  | none => false

theorem inHandoverRecord_eq (s : State) (r : Fin 4) (n : Fin 16) :
    s.inHandoverRecord r n = (s.chan n).inHandoverRecord r := rfl

/-- The channels freed of record `r`, which is FREE. -/
def State.handoverFreed (s : State) (r : Fin 4) : State :=
  (s.changeWhere (fun _ c => c.inHandoverRecord r = true) fun _ c => { c with ho := none }).setHo r none

theorem cancelHandover_eq {s : State} {r : Fin 4} {h : HandoverRecord} (held : s.ho r = some h) :
    s.cancelHandover r = (s.handoverFreed r).post
      (.handoverDone r .cancelled h.fromLane h.toLane h.set h.switched h.switchBeat) := by
  unfold State.cancelHandover
  rw [held]
  rfl

section
variable (s : State) (r : Fin 4)

theorem ho_handoverFreed (q : Fin 4) : (s.handoverFreed r).ho q = if q = r then none else s.ho q := by
  rw [State.handoverFreed, ho_setHo, (onlyChannels_changeWhere s _ _).ho]

theorem chan_handoverFreed (n : Fin 16) : (s.handoverFreed r).chan n =
    if s.inHandoverRecord r n = true then { s.chan n with ho := none } else s.chan n := by
  rw [inHandoverRecord_eq, State.handoverFreed, chan_setHo, chan_changeWhere]

theorem onlyHandovers_handoverFreed : OnlyHandovers s (s.handoverFreed r) := by
  unfold State.handoverFreed
  exact (onlyChannels_changeWhere s (fun _ c => c.inHandoverRecord r = true) fun _ c => { c with ho := none }).setHo
    r none

end

/-- Settles O50: R143's checks and the record opened, in either mode; R156's checks and the members freed. -/
theorem handoverRequests : Obligations.HandoverRequests := by
  refine ⟨fun s tag p h hlen => ⟨?_, fun u r x align window deadline => ?_⟩, fun s tag p h hlen => ?_⟩
  · generalize hset : (BitVec.ofNat 16 (fieldAt p 0 2) : ChannelSet) = set
    have refused {r : ResultCode} (e : startHandover p s.takeHead = refuse r s.takeHead) :
        exec .startHandover s = .next (answered s.takeHead 0x48 tag [BitVec.ofNat 8 r.value]) :=
      congrArg Host.Outcome.next (handle_refused h hlen e)
    cases hx : laneOfByte (byteAt p 2) with
    | none => exact refused (r := .badValue) (by simp only [startHandover, hx])
    | some x =>
    cases hmode : handoverModeOf (byteAt p 3) with
    | none => exact refused (r := .badValue) (by simp only [startHandover, hx, hmode])
    | some mode =>
    cases halign : alignLengthOf (byteAt p 4) with
    | none => exact refused (r := .badValue) (by simp only [startHandover, hx, hmode, halign])
    | some align =>
    cases hwindow : windowOf (byteAt p 5) with
    | none => exact refused (r := .badValue) (by simp only [startHandover, hx, hmode, halign, hwindow])
    | some window =>
    cases hdeadline : inRange 1 64 (byteAt p 6) with
    | none => exact refused (r := .badValue) (by simp only [startHandover, hx, hmode, halign, hwindow, hdeadline])
    | some deadline =>
    dsimp only
    have rule : startHandover p s.takeHead = if (!s.handoverSetValid set x) = true then refuse .badValue s.takeHead
        else match s.handoverBar set, s.freeHandover with
          | some r, _ => refuse r s.takeHead
          | none, none => refuse .tableFull s.takeHead
          | none, some r =>
            (s.takeHead.openHandover r set x mode align window deadline, .okOr false (byte r.val)) := by
      simp only [startHandover, hx, hmode, halign, hwindow, hdeadline, hset]
      rfl
    rw [if_congr (handoverSetValid_eq ..) rfl rfl, handoverBar_eq] at rule
    by_cases values : set = 0 ∨ ∃ n, inSet set n = true ∧ ((s.chan n).cfg.enabled = false ∨ (s.chan n).cfg.lane = x)
    · rw [if_pos values] at rule ⊢
      exact refused rule
    rw [if_neg values] at rule ⊢
    by_cases busy : ∃ n, inSet set n = true ∧ (s.chan n).ho.isSome = true
    · rw [if_pos busy] at rule ⊢
      exact refused rule
    rw [if_neg busy] at rule ⊢
    by_cases stopped : s.laneA.transport = .stopped ∨ s.laneB.transport = .stopped
    · rw [if_pos stopped] at rule ⊢
      exact refused rule
    rw [if_neg stopped] at rule ⊢
    cases free : s.freeHandover with
    | none =>
      rw [free] at rule
      exact refused rule
    | some r =>
      rw [free] at rule
      refine congrArg Host.Outcome.next ((handle_anyPayload_of_requestAtHead startHandover h hlen).trans ?_)
      rw [rule, okOr_payload]
      rfl
  · intro told members
    refine ⟨placeMembers_setHo told r r _ _, ?_⟩
    refine Eq.trans ?_ (setHo_setHo members r
      (some ⟨.waitingAlign, BitVec.ofNat 16 (fieldAt p 0 2), 0, x, .cut, align, window, deadline, none⟩) _)
    exact congrArg (fun t => State.setHo t r (some ⟨.switchDue .cut (t.switchBeatFor r x (t.lane x).pos.beat align) none,
      BitVec.ofNat 16 (fieldAt p 0 2), 0, x, .cut, align, window, deadline, none⟩)) (placeMembers_setHo told r r (BitVec.ofNat 16 (fieldAt p 0 2)) _)
  · refine ⟨fun above => congrArg Host.Outcome.next (handle_refused (r := .badValue) h hlen ?_), fun r hr => ?_⟩
    · simp only [cancelHandoverRule, indexOfByte_of_not_lt (Nat.not_lt.2 above)]
    have index : indexOfByte 4 (byteAt p 0) = some r := by
      rw [indexOfByte_of_lt (hr ▸ r.isLt)]
      exact congrArg some (Fin.ext hr)
    refine ⟨fun free => congrArg Host.Outcome.next (handle_refused (r := .wrongState) h hlen ?_), fun g held => ?_⟩
    · simp only [cancelHandoverRule, index, takeHead_ho, free]
      rfl
    · refine ⟨s.takeHead.cancelHandover r, congrArg Host.Outcome.next (handle_ok h hlen ?_), ?_⟩
      · simp only [cancelHandoverRule, index, takeHead_ho, held]
        exact if_neg Bool.false_ne_true
      · rw [cancelHandover_eq (s := s.takeHead) held]
        exact ⟨fun q => (ho_post ..).trans (ho_handoverFreed s.takeHead r q),
          fun n => (chan_post ..).trans (chan_handoverFreed s.takeHead r n), (onlyHandovers_handoverFreed s.takeHead r).post _⟩

end Sys2Proof.Machine

/-! BREAK_ENTRY and BREAK_END of a member (O48, O49). -/

namespace Sys2Proof.Machine

theorem whenLive_of_due {s : State} {due : Bool} {f : State → State} (running : s.mode = .running) (h : due = true) :
    s.whenLive due f = f s := by
  simp [State.whenLive, State.live, running, h]

/-! ## A member enters its break (R132, R133, R136) -/

section
variable {s : State} {n : Fin 16}

theorem settled_of_lanes (a : s.laneA.crossing = false) (b : s.laneB.crossing = false) :
    (∀ x, s.settledLane x = true) ∧ s.settled n = true ∧ s.switchSettled n = true := by
  have lanes (x : LaneId) : s.settledLane x = true := by cases x <;> simp [State.settledLane, State.lane, a, b]
  refine ⟨lanes, lanes _, ?_⟩
  unfold State.switchSettled
  split
  · exact lanes _
  · rfl

theorem breakEntryDue_of_member {r : Fin 4} {once : Bool} {b : BreakRecord} (settled : s.settledLane b.timing = true)
    (member : (s.chan n).brk = some ⟨r, .waiting once⟩) (record : s.brk r = some b)
    (due : once = true ∨ (s.chan n).evaluated = false ∧
      ∃ y, b.due = .beat y ∧ ((s.chan n).projectedOn (s.lane b.timing)).reached y = true) :
    s.breakEntryDue n = true := by
  simp only [State.breakEntryDue, member, record]
  rcases due with atOnce | ⟨unevaluated, y, beat, passed⟩
  · rw [atOnce, Bool.true_or]
  · simp [beat, unevaluated, settled, passed]

end

/-- The mark that a member takes as it enters: the due beat at its own lane's crossing, the beat of its projection
otherwise (R132). -/
def entryMark (b : BreakRecord) (once : Bool) (lane : LaneId) (own : U32) : U32 :=
  match b.due with
  | .beat y => if once = false ∧ lane = b.timing then y else own
  | _ => own

theorem enterBreak_of_member {s : State} {n : Fin 16} {r : Fin 4} {once : Bool} {b : BreakRecord}
    (member : (s.chan n).brk = some ⟨r, .waiting once⟩) (record : s.brk r = some b) : s.enterBreak n =
      (s.setChan n (({ s.chan n with
        brk := some ⟨r, .inBreak b.length (entryMark b once (s.chan n).cfg.lane (s.projection n).beat)⟩ }).breakEntered
          b.mode)).setBrk r (some { b with active := true }) := by
  have mark : entryMark b once (s.chan n).cfg.lane (s.projection n).beat = match b.due with
      | .beat y => if !once && (s.chan n).cfg.lane == b.timing then y else (s.projection n).beat
      | _ => (s.projection n).beat := by
    unfold entryMark
    cases b.due with
    | beat y => exact if_congr (by simp) rfl rfl
    | cue c => rfl
    | absent => rfl
  rw [mark, enterBreak_eq s member record]
  simp only [State.modBrk, brk_modChan, record]
  rfl

/-- Settles O48: the entry is due, and the member, its record and nothing else change. -/
theorem breakEntryOfAMember : Obligations.BreakEntryOfAMember := by
  intro s n r once b c running a b' noSwitch member record due own mark code
  obtain ⟨lanes, settled, switches⟩ := settled_of_lanes (n := n) a b'
  have dueNow : s.entryOfBreakDue n = true := by
    simp [State.entryOfBreakDue, settled, switches, noSwitch, breakEntryDue_of_member (lanes _) member record due]
  refine ⟨_, congrArg Host.Outcome.next ((whenLive_of_due running dueNow).trans (enterBreak_of_member member record)),
    fun q => brk_setBrk _ r q _, fun m other => (chan_setBrk ..).trans (chan_setChan_ne s n m _ other),
    fun mute => ?_, fun halt => ?_, rfl⟩
  · rw [chan_setBrk, chan_setChan_same, mute, breakEntered_mute]
    rfl
  · rw [chan_setBrk, chan_setChan_same, halt, breakEntered_halt]
    rfl

/-! ## A member ends its break (R134, R135, R137, R138, R140) -/

theorem brk_setChan (s : State) (n : Fin 16) (c : Channel) (r : Fin 4) : (s.setChan n c).brk r = s.brk r := rfl

theorem setBrk_brk (s : State) (r : Fin 4) : s.setBrk r (s.brk r) = s := by
  simp [State.setBrk, State.brk]

/-- The channel once it has ended its break at boundary `y` of lane record `l`. -/
def Channel.breakEnded (c : Channel) (mode : BreakMode) (l : Lane) (y : U32) : Channel :=
  if mode = .halt then Channel.haltEnd { c with brk := none } l y else { c with brk := none }

theorem haltEnd_eq (c : Channel) (l : Lane) (y : U32) : c.haltEnd l y = { c with
    origin := ⟨y, 0⟩
    delta := c.emitted
    owing := false
    slot := if c.cfg.function = .code then some (.resume (barCountAt l y)) else c.slot
    pulseOwed := match c.cfg.function with
      | .bar => isStart .bar l y
      | .phrase => isStart .phrase l y
      | _ => c.pulseOwed } := by
  unfold Channel.haltEnd
  cases function : c.cfg.function <;> simp [Channel.reorigin, Channel.putSlot, Position.atBeat, function]

section
variable {s : State} {n : Fin 16} {r : Fin 4} {beats : Nat} {mark : U32} {b : BreakRecord}
  (member : (s.chan n).brk = some ⟨r, .inBreak beats mark⟩) (record : s.brk r = some b)
include member record

theorem halted_of_member : s.halted n = (b.mode == .halt) := by
  simp [State.halted, State.breakModeOf, member, BreakMembership.entered, record]

/-- The member gone from the record, which holds it as completed where it ends so. -/
theorem endMember_eq (y : U32) (complete : Bool) : s.endMember n y complete =
    ((s.setChan n ((s.chan n).breakEnded b.mode (s.laneOf n) y)).setBrk r
      (some { b with completed := if complete then addTo b.completed n else b.completed })).finishBreak r := by
  have ended : (if s.halted n = true then Channel.haltEnd { s.chan n with brk := none } (s.laneOf n) y
      else { s.chan n with brk := none }) = (s.chan n).breakEnded b.mode (s.laneOf n) y := by
    rw [halted_of_member member record, Channel.breakEnded]
    exact if_congr beq_iff_eq rfl rfl
  simp only [State.endMember, member, State.modChan, ended]
  cases complete with
  | true => simp [State.modBrk, brk_setChan, record]
  | false =>
    have same : (s.setChan n ((s.chan n).breakEnded b.mode (s.laneOf n) y)).setBrk r (some b) =
        s.setChan n ((s.chan n).breakEnded b.mode (s.laneOf n) y) := by
      rw [← record]
      exact setBrk_brk _ r
    simp [same]

theorem endOfBreakDue_of_member (judged : s.judged n = true) (past : 0 < ahead (s.projection n).beat mark) {y : U32}
    {complete : Bool} (at_ : b.mode = .halt ∧ b.cancelPending = true ∧ y = mark + 1 ∧ complete = false ∨
      ¬ (b.mode = .halt ∧ b.cancelPending = true) ∧ (beats : Int) ≤ ahead (s.projection n).beat mark ∧
        y = mark + BitVec.ofNat 32 beats ∧ complete = true) : s.endOfBreakDue n = some (y, complete) := by
  rw [State.endOfBreakDue, if_pos judged]
  simp only [State.breakEndAt, member, record, State.beatsCrossed]
  rcases at_ with ⟨halt, cancelled, rfl, rfl⟩ | ⟨running, usedUp, rfl, rfl⟩
  · simp [halt, cancelled, past]
  · have live : (b.mode == .halt && b.cancelPending) = false := by simpa using running
    simp [live, past, usedUp]

end

/-- A record without members ends, and its notice is posted as in `s`. -/
theorem finishBreak_frame {s t : State} {r : Fin 4} {b : BreakRecord} (frame : OnlyBreaks s t)
    (record : t.brk r = some b) (empty : ∀ n, t.inBreakRecord r n = false) :
    (∀ q, (t.finishBreak r).brk q = if q = r then none else t.brk q) ∧
    (t.finishBreak r).link = (s.post (.breakDone r b.reason b.mode b.set b.completed)).link ∧
    t.finishBreak r = { s with
      breaks := (t.finishBreak r).breaks
      channels := (t.finishBreak r).channels
      link := (t.finishBreak r).link } := by
  have freed := (frame.trans (onlyBreaks_setBrk t r none)).post (.breakDone r b.reason b.mode b.set b.completed)
  rw [finishBreak_of_empty t record empty]
  have link := congrArg State.link freed
  exact ⟨fun q => (brk_post ..).trans (brk_setBrk t r q none), link, by rw [link]; exact freed⟩

theorem breakEnded_outside (c : Channel) (mode : BreakMode) (l : Lane) (y : U32) :
    (c.breakEnded mode l y).brk = none := by
  unfold Channel.breakEnded
  split
  · rw [haltEnd_eq]
  · rfl

/-- Settles O49: the end is due, and the record ends with it where no other member is left. -/
theorem breakEndOfAMember : Obligations.BreakEndOfAMember := by
  intro s n r beats mark b y complete c l k running live unevaluated crossing switches noSwitch member record past at_
    completed others
  have judged : s.judged n = true := by
    have settled : s.settled n = true := by
      rw [State.settled, State.settledLane, Bool.not_eq_true']
      exact crossing
    simp [State.judged, State.unevaluated, live, unevaluated, settled, switches, noSwitch, c]
  have ends := endOfBreakDue_of_member member record judged past at_
  have carried : exec (.breakEnd n) s = .next (s.endMember n y complete) := by
    refine congrArg Host.Outcome.next ((whenLive_of_due running rfl).trans ?_)
    rw [ends]
  refine ⟨s.endMember n y complete, carried, ?_⟩
  rw [endMember_eq member record]
  generalize state : (s.setChan n (c.breakEnded b.mode l y)).setBrk r (some { b with completed := completed }) = t
  have brk (q : Fin 4) : t.brk q = if q = r then some { b with completed := completed } else s.brk q :=
    state ▸ brk_setBrk _ r q _
  have same : t.chan n = c.breakEnded b.mode l y := state ▸ chan_setChan_same s n _
  have different (m : Fin 16) (h : m ≠ n) : t.chan m = s.chan m := state ▸ chan_setChan_ne s n m _ h
  have frame : OnlyBreaks s t := state ▸ (onlyBreaks_modChan s n fun _ => _).trans (onlyBreaks_setBrk _ r _)
  refine ⟨fun m h => (chan_finishBreak t r m).trans (different m h), fun mute => ?_, fun halt => ?_, ?_⟩
  · rw [chan_finishBreak, same, mute]
    rfl
  · rw [chan_finishBreak, same, halt]
    exact haltEnd_eq _ l y
  · by_cases left : others
    · obtain ⟨m, h, other⟩ := id left
      have stays : t.finishBreak r = t := finishBreak_of_member t (n := m) (by
        rw [inBreakRecord_eq, different m h]
        exact other)
      rw [stays]
      obtain ⟨breaks, channels, rfl⟩ := frame
      exact ⟨fun _ => ⟨brk, rfl⟩, fun none_ => absurd left none_, rfl⟩
    · have empty (m : Fin 16) : t.inBreakRecord r m = false := by
        rw [inBreakRecord_eq]
        by_cases h : m = n
        · rw [h, same, Channel.inBreakRecord, breakEnded_outside]
        · rw [different m h, ← inBreakRecord_eq]
          exact Bool.eq_false_iff.2 fun other => left ⟨m, h, other⟩
      obtain ⟨free, link, rest⟩ := finishBreak_frame frame ((brk r).trans (if_pos rfl)) empty
      refine ⟨fun other => absurd other left, fun _ => ⟨fun q => ?_, link⟩, rest⟩
      rw [free, brk]
      split <;> rfl

end Sys2Proof.Machine

/-! The host link: the framing of characters and the check of a frame (O59), and the transmitter (O60). -/

namespace Sys2Proof.Machine

/-! ## The transmitter (R181, R187, R188) -/

/-- The character and the bit that a line sends at age `age`, in characters of `U` units. -/
theorem character_at {U age i bit : Nat} (hbit : bit < 10) (low : (10 * i + bit) * U ≤ 10 * age)
    (high : 10 * age < (10 * i + bit + 1) * U) : age / U = i ∧ age % U * 10 / U = bit := by
  have bits : bit * U ≤ 9 * U := Nat.mul_le_mul_right U (Nat.le_of_lt_succ hbit)
  simp only [Nat.add_mul, Nat.mul_assoc, Nat.one_mul] at low high
  have index : age / U = i := Nat.div_eq_of_lt_le (by omega) (by rw [Nat.add_mul]; omega)
  have split := Nat.div_add_mod' age U
  rw [index] at split
  exact ⟨index, Nat.div_eq_of_lt_le (by omega) (by rw [Nat.add_mul]; omega)⟩

theorem charLevel_eq (v : Byte) {bit : Nat} (h : bit < 10) :
    charLevel v bit = if bit = 0 then false else if bit = 9 then true else v.getLsbD (bit - 1) := by
  unfold charLevel
  refine if_congr Iff.rfl rfl ?_
  by_cases stop : bit = 9
  · rw [if_neg (by omega), if_pos stop]
  · rw [if_pos (by omega), if_neg stop]

theorem live_of_running {s : State} (running : s.mode = .running) : s.live = true := by simp [State.live, running]

theorem chooses_of_idle_or_sent {k : Link} (h : k.tx = .idle ∨ ∃ bytes age isReply,
    k.tx = .sending bytes age isReply false ∧ bytes.length * k.rate.charUnits ≤ age) : k.chooses = true := by
  rcases h with idle | ⟨bytes, age, isReply, tx, sent⟩
  · simp [Link.chooses, idle]
  · simp [Link.chooses, Link.txEnded, Link.txResets, tx, sent]

/-- Settles O60: the transmitter's choice by what waits, and the level of HTX by the character and bit of the age. -/
theorem transmitterChoosesFrames : Obligations.TransmitterChoosesFrames := by
  intro s running k ended
  have live : s.live = true := live_of_running running
  refine ⟨fun r rest free replies => ?reply, fun n rest free replies noReset notices => ?notice,
    fun ⟨bytes, age, isReply, tx, sent⟩ replies none_ => ?idle, fun idle => ?high,
    fun bytes age isReply resets i v bit tx char hbit low high => ?level⟩
  case reply =>
    have chooses : s.link.chooses = true := chooses_of_idle_or_sent free
    refine congrArg Host.Outcome.next ((if_pos ?_).trans ?_)
    · rw [live, chooses, show s.link.replies = r :: rest from replies]
      rfl
    · rw [State.modLink, Link.beginReply, show s.link.replies = r :: rest from replies]
      rfl
  case notice =>
    have chooses : s.link.chooses = true := chooses_of_idle_or_sent free
    have next : s.link.noticeNext = true := by
      rw [Link.noticeNext, show s.link.replies = [] from replies, show s.link.resetPending = false from noReset,
        show s.link.notices = n :: rest from notices]
      rfl
    refine congrArg Host.Outcome.next ((if_pos ?_).trans ?_)
    · rw [live, chooses, next]
      rfl
    · rw [State.modLink, Link.beginNotice, show s.link.notices = n :: rest from notices]
      rfl
  case idle =>
    have ends : k.endsIdle = true := by
      have nothing : (k.resetPending || k.notices.isEmpty) = true := by
        rcases none_ with empty | pending
        · rw [empty, List.isEmpty_nil, Bool.or_true]
        · rw [pending, Bool.true_or]
      simp [Link.endsIdle, Link.txEnded, Link.txResets, tx, sent, replies, nothing]
    exact congrArg Host.Outcome.next (if_pos (by rw [live, ends]; rfl))
  case high =>
    simp only [State.htx, running, Link.htx, show s.link.tx = .idle from idle]
  case level =>
    change (10 * i + bit) * s.link.rate.charUnits ≤ 10 * age at low
    change 10 * age < (10 * i + bit + 1) * s.link.rate.charUnits at high
    obtain ⟨index, offset⟩ := character_at hbit low high
    simp only [State.htx, running, Link.htx, show s.link.tx = _ from tx, index, offset, char]
    exact charLevel_eq v hbit

/-! ## Verified frames (R183, R185) -/

theorem verifyFrame_of_none {s : State} (h : s.link.complete = none) : s.verifyFrame = s := by
  simp only [State.verifyFrame, h]

section
variable {s : State} {f : HostFrame} {high low : Byte} (whole : s.link.complete = some (f, high, low))
include whole

theorem verifyFrame_of_wrong
    (wrong : crcBytes (BitVec.ofNat 8 f.payload.length :: f.type :: f.tag :: f.payload) ≠ [high, low]) :
    s.verifyFrame = { s with link := { s.link with
      complete := none
      counts := { s.link.counts with crc := bump16 s.link.counts.crc } } } := by
  simp only [State.verifyFrame, whole]
  refine if_neg fun right => wrong (beq_iff_eq.1 right)

theorem verifyFrame_of_right
    (right : crcBytes (BitVec.ofNat 8 f.payload.length :: f.type :: f.tag :: f.payload) = [high, low]) :
    s.verifyFrame = State.placeFrame { s with link := { s.link with complete := none } } f := by
  simp only [State.verifyFrame, whole]
  exact if_pos (beq_iff_eq.2 right)

end

theorem placeFrame_keeps (s : State) (f : HostFrame) : (s.placeFrame f).mode = s.mode ∧
    (s.placeFrame f).link.waitIdle = s.link.waitIdle ∧ (s.placeFrame f).link.complete = s.link.complete := by
  rcases placeFrame_cases (s := s) f with ⟨_, h⟩ | ⟨_, _, h⟩ | ⟨_, _, h⟩
  all_goals
    rw [h]
    exact ⟨rfl, rfl, rfl⟩

/-- A frame is checked once. -/
theorem verifyFrame_keeps (s : State) : s.verifyFrame.mode = s.mode ∧
    s.verifyFrame.link.waitIdle = s.link.waitIdle ∧ s.verifyFrame.link.complete = none := by
  cases whole : s.link.complete with
  | none =>
    rw [verifyFrame_of_none whole]
    exact ⟨rfl, rfl, whole⟩
  | some checked =>
    obtain ⟨f, high, low⟩ := checked
    by_cases right : crcBytes (BitVec.ofNat 8 f.payload.length :: f.type :: f.tag :: f.payload) = [high, low]
    · rw [verifyFrame_of_right whole right]
      exact placeFrame_keeps _ f
    · rw [verifyFrame_of_wrong whole right]
      exact ⟨rfl, rfl, rfl⟩

/-! ## Characters (R182, R184) -/

section
variable {s : State} (running : s.mode = .running) (v : Byte)
include running

theorem exec_hostCharacter (high : Bool) : exec (.hostCharacter v high) s = .next (s.hostCharacter v high) :=
  congrArg Host.Outcome.next (if_pos (live_of_running running))

variable (listens : s.link.waitIdle = false)
include listens

theorem exec_hostCharacter_verified (high : Bool) :
    exec (.hostCharacter v high) s = exec (.hostCharacter v high) s.verifyFrame := by
  obtain ⟨mode, waitIdle, complete⟩ := verifyFrame_keeps s
  rw [exec_hostCharacter running, exec_hostCharacter (mode.trans running), State.hostCharacter, State.hostCharacter,
    waitIdle, listens, verifyFrame_of_none complete]
  rfl

variable (checked : s.link.complete = none)
include checked

theorem exec_hostCharacter_of_low : exec (.hostCharacter v false) s = .next s.charError := by
  rw [exec_hostCharacter running, State.hostCharacter, listens, verifyFrame_of_none checked]
  rfl

theorem exec_hostCharacter_of_high : exec (.hostCharacter v true) s = .next (s.takeChar v) := by
  rw [exec_hostCharacter running, State.hostCharacter, listens, verifyFrame_of_none checked]
  rfl

end

/-- Settles O59: each framing state by the character it takes, and a frame received whole by its CRC and the queue. -/
theorem hostFramingAndVerification : Obligations.HostFramingAndVerification := by
  refine ⟨fun s v running => ?_, fun s f high low running whole => ?_⟩
  · intro k c
    refine ⟨congrArg Host.Outcome.next (if_pos (live_of_running running)), fun partial_ late => ?gap,
      fun waits high => ?waits, fun listens whole high => ?whole, fun listens checked => ?_⟩
    case gap =>
      refine congrArg Host.Outcome.next (if_pos ?_)
      rw [live_of_running running, State.gapDue, Bool.true_and, Bool.and_eq_true, bne_iff_ne, decide_eq_true_eq]
      exact ⟨partial_, late⟩
    case waits => exact (exec_hostCharacter running v high).trans (congrArg Host.Outcome.next (if_pos waits))
    case whole =>
      exact ⟨s.verifyFrame, congrArg Host.Outcome.next (if_pos (live_of_running running)),
        exec_hostCharacter_verified running v listens high⟩
    have char := exec_hostCharacter_of_high running v listens checked
    intro next
    refine ⟨exec_hostCharacter_of_low running v listens checked, fun hunt sync => ?_, fun hunt other => ?_,
      fun length short => ?_, fun length long => ?_, fun n header => ?_, fun type empty => ?_,
      fun n type more tag => ?_, fun n type tag got payload => ?_, fun f check => ?_, fun f high low => ?_⟩
    all_goals rw [char]; refine congrArg Host.Outcome.next ?_
    · simp only [State.takeChar, State.modLink, show s.link.rx = _ from hunt]
      exact if_pos sync
    · simp only [State.takeChar, State.modLink, show s.link.rx = _ from hunt]
      refine (if_neg other).trans ?_
      rw [show k.rx = .hunt from hunt]
      rfl
    · simp only [State.takeChar, State.modLink, show s.link.rx = _ from length]
      exact if_pos short
    · simp only [State.takeChar, State.modLink, show s.link.rx = _ from length]
      exact if_neg (Nat.not_le.2 long)
    · simp only [State.takeChar, State.modLink, show s.link.rx = _ from header]
      rfl
    · simp only [State.takeChar, State.modLink, show s.link.rx = _ from empty]
      rfl
    · simp only [State.takeChar, State.modLink, show s.link.rx = _ from tag, if_neg (Nat.ne_of_gt more)]
      rfl
    · simp only [State.takeChar, State.modLink, show s.link.rx = _ from payload, List.length_append]
      rfl
    · simp only [State.takeChar, State.modLink, show s.link.rx = _ from check]
      rfl
    · simp only [State.takeChar, State.modLink, show s.link.rx = _ from low]
      rfl
  · intro k c right
    have carried : exec .verifiedFrame s = .next s.verifyFrame :=
      congrArg Host.Outcome.next (if_pos (live_of_running running))
    rw [carried]
    refine ⟨fun wrong => congrArg Host.Outcome.next (verifyFrame_of_wrong whole wrong), fun ok room => ?_,
      fun ok full room => ?_, fun ok full full' => ?_⟩
    all_goals rw [verifyFrame_of_right whole ok]
    · exact congrArg Host.Outcome.next (if_pos room)
    · exact congrArg Host.Outcome.next ((if_neg (Nat.not_lt.2 full)).trans (if_pos room))
    · exact congrArg Host.Outcome.next ((if_neg (Nat.not_lt.2 full)).trans (if_neg (Nat.not_lt.2 full')))

end Sys2Proof.Machine

/-! The bus controller: the receivers of a line and their errors (O55), copies paired and judged (O56). -/

namespace Sys2Proof.Machine

/-! ## Lines -/

theorem lineOf_setLine (b : Bus) (l : BusLine) (v : BusLineState) : (b.setLine l v).lineOf l = v := by cases l <;> rfl

theorem setLine_setLine (b : Bus) (l : BusLine) (v w : BusLineState) : (b.setLine l v).setLine l w = b.setLine l w := by
  cases l <;> rfl

theorem listens_of {b : Bus} {l : BusLine} (uses : b.uses l = true) (free : b.drives l = false) :
    b.listens l = true := by
  rw [Bus.listens, uses, free]
  rfl

/-! ## Receivers (R158, R163) -/

section
variable {s : State} {l : BusLine}

theorem lineIdle_of {rx : BusRx} (free : s.bus.drives l = false) (noRun : (s.bus.lineOf l).rx ≠ .inBreak)
    (next : (if s.bus.uses l = true ∧ (s.bus.lineOf l).rx = .waitingIdle then BusRx.idle else (s.bus.lineOf l).rx) = rx) :
    s.lineIdle l = s.modLine l fun v => { v with rx := rx, lineIdle := true } := by
  subst next
  refine (if_neg ?_).trans ?_
  · rw [free, Bool.false_or, beq_iff_eq]
    exact noRun
  · refine congrArg (fun w => State.modBus s fun b => b.setLine l w) ?_
    simp only [Bool.and_eq_true, beq_iff_eq]

theorem dominantEdge_of {rx : BusRx}
    (next : (if s.bus.listens l = true ∧ (s.bus.lineOf l).rx = .idle then BusRx.inBreak else (s.bus.lineOf l).rx) = rx) :
    s.dominantEdge l = s.modLine l fun v => { v with rx := rx, lineIdle := false } := by
  subst next
  refine congrArg (fun w => State.modBus s fun b => b.setLine l w) ?_
  simp only [Bool.and_eq_true, beq_iff_eq]

variable (listens : s.bus.listens l = true)
include listens

theorem runEnd_of_run (run : (s.bus.lineOf l).rx = .inBreak) (bits : Nat) : s.runEnd l bits =
    if bits < 11 then s.modLine l fun v => { v with rx := .idle }
    else if bits ≤ 14 then s.modLine l fun v => { v with rx := .afterBreak } else s := by
  refine if_pos ?_
  rw [listens, run]
  rfl

theorem firstStart_of_break (after : (s.bus.lineOf l).rx = .afterBreak) :
    s.firstStart l = s.modLine l fun v => { v with rx := .characters s.clock } := by
  refine if_pos ?_
  rw [listens, after]
  rfl

end

/-! ## Receive errors (R164, R166, R167) -/

theorem admits_of {rx : BusRx} {e : ReceiveErrorKind}
    (h : e = .violation ∨ (∃ ref, rx = .characters ref) ∨ e = .length ∧ rx = .afterBreak) : rx.admits e = true := by
  rcases h with rfl | ⟨ref, rfl⟩ | ⟨rfl, rfl⟩
  · rfl
  · cases e <;> rfl
  · rfl

theorem countError_await (v : BusLineState) (e : ReceiveErrorKind) : (v.countError e).await = { v with
    rx := .waitingIdle
    lineIdle := v.lineIdle && decide (e ≠ .violation)
    framing := if e = .framing then min (v.framing + 1) 65535 else v.framing
    crc := if e = .crc then min (v.crc + 1) 65535 else v.crc
    length := if e = .length then min (v.length + 1) 65535 else v.length
    violations := if e = .violation then min (v.violations + 1) 65535 else v.violations } := by
  cases e <;> simp [BusLineState.countError, BusLineState.await, bump16]

section
variable {s : State} {l : BusLine} {e : ReceiveErrorKind}

/-- The error counted, and the receiver that waits for an idle line. -/
def State.errorCounted (s : State) (l : BusLine) (e : ReceiveErrorKind) : State :=
  s.modLine l fun v => (v.countError e).await

theorem errorCounted_keeps : (s.errorCounted l e).bus.mode = s.bus.mode ∧
    (s.errorCounted l e).pairingFor l = s.pairingFor l := by
  cases l <;> exact ⟨rfl, rfl⟩

variable (listens : s.bus.listens l = true) (possible : (s.bus.lineOf l).rx.admits e = true)
include listens possible

theorem receiveError_of_forced (forced : s.bus.mode ≠ .auto) : s.receiveError l e = s.errorCounted l e := by
  have mode : (s.modLine l fun v => (v.countError e).await).bus.mode = s.bus.mode := errorCounted_keeps.1
  simp only [State.receiveError, listens, possible, mode]
  cases m : s.bus.mode with
  | auto => exact absurd m forced
  | forced1 => rfl
  | forced2 => rfl

variable (auto : s.bus.mode = .auto)
include auto

theorem receiveError_of_open {p : Pairing} (pairing : s.pairingFor l = some p) :
    s.receiveError l e = ((s.errorCounted l e).closePairing p).judgePair (otherLine l) (.receive e) := by
  have mode : (s.modLine l fun v => (v.countError e).await).bus.mode = s.bus.mode := errorCounted_keeps.1
  have same : (s.modLine l fun v => (v.countError e).await).pairingFor l = s.pairingFor l := errorCounted_keeps.2
  simp only [State.receiveError, listens, possible, mode, auto, same, pairing]
  rfl

theorem receiveError_of_alone (alone : s.pairingFor l = none) : s.receiveError l e =
    s.modLine l fun v => { (v.countError e).await with lastError := some (s.clock, e) } := by
  have mode : (s.modLine l fun v => (v.countError e).await).bus.mode = s.bus.mode := errorCounted_keeps.1
  have same : (s.modLine l fun v => (v.countError e).await).pairingFor l = s.pairingFor l := errorCounted_keeps.2
  simp only [State.receiveError, listens, possible, mode, auto, same, alone]
  cases l <;> rfl

end

/-- Settles O55: each receiver state by what the line does, and an error by whether a pairing is open for it. -/
theorem receiversOfALine : Obligations.ReceiversOfALine := by
  refine ⟨fun s l bits running uses free => ?_, fun s l running unused free => ?_, fun s l e running uses free => ?_⟩
  · have live := live_of_running running
    have listens := listens_of uses free
    refine ⟨fun h => ?_, fun h => ?_, fun h => ?_, fun h => ?_, fun h short => ?_, fun h low high => ?_, fun h => ?_⟩
    all_goals refine congrArg Host.Outcome.next ((if_pos live).trans ?_)
    · refine lineIdle_of free (by rcases h with h | h <;> simp [h]) ?_
      rcases h with h | h <;> simp [h, uses]
    · refine lineIdle_of free (by rcases h with h | ⟨ref, h⟩ <;> simp [h]) (if_neg ?_)
      rcases h with h | ⟨ref, h⟩ <;> simp [h]
    · exact dominantEdge_of (if_neg fun both => h both.2)
    · exact dominantEdge_of (if_pos ⟨listens, h⟩)
    · exact (runEnd_of_run listens h bits).trans (if_pos short)
    · exact (runEnd_of_run listens h bits).trans ((if_neg (Nat.not_lt.2 low)).trans (if_pos high))
    · exact firstStart_of_break listens h
  · have live := live_of_running running
    refine ⟨fun h => congrArg Host.Outcome.next ((if_pos live).trans (lineIdle_of free (by simp [h]) (if_neg ?_))),
      congrArg Host.Outcome.next ((if_pos live).trans (dominantEdge_of (if_neg ?_)))⟩
    · simp [unused]
    · simp [Bus.listens, unused]
  · intro v possible counted t
    have live := live_of_running running
    have listens := listens_of uses free
    have counts : s.errorCounted l e = t :=
      congrArg (fun w => State.modBus s fun b => b.setLine l w) (countError_await v e)
    refine ⟨fun forced => ?_, fun auto alone => ?_, fun p auto open_ => ?_⟩
    all_goals refine congrArg Host.Outcome.next ((if_pos live).trans ?_)
    · exact (receiveError_of_forced listens (admits_of possible) forced).trans counts
    · refine (receiveError_of_alone listens (admits_of possible) auto alone).trans ?_
      exact congrArg (fun w => State.modBus s fun b => b.setLine l { w with lastError := some (s.clock, e) })
        (countError_await v e)
    · rw [receiveError_of_open listens (admits_of possible) auto open_, counts]
      rfl

/-! ## Judging the lines (R168, R169) -/

section
variable (s : State) (l : BusLine) (o : BadOutcome)

theorem judgeGood_of_steady (h : ¬ ((s.bus.lineOf l).faulty = true ∧ min 16 ((s.bus.lineOf l).good + 1) = 16)) :
    s.judgeGood l = { s with bus := s.bus.setLine l { s.bus.lineOf l with
      good := min 16 ((s.bus.lineOf l).good + 1), errors := 0 } } :=
  if_neg (by simpa using h)

theorem judgeGood_of_restored (faulty : (s.bus.lineOf l).faulty = true) (h : min 16 ((s.bus.lineOf l).good + 1) = 16) :
    s.judgeGood l = State.post { s with bus := s.bus.setLine l { s.bus.lineOf l with
      good := min 16 ((s.bus.lineOf l).good + 1), errors := 0, faulty := false } } (.lineRestored l) :=
  if_pos (by rw [faulty, h]; rfl)

theorem judgeBad_of_steady (h : ¬ ((s.bus.lineOf l).faulty = false ∧ min 8 ((s.bus.lineOf l).errors + 1) = 8)) :
    s.judgeBad l o = { s with bus := s.bus.setLine l { s.bus.lineOf l with
      errors := min 8 ((s.bus.lineOf l).errors + 1), good := 0 } } :=
  if_neg (by simpa using h)

theorem judgeBad_of_failed (sound : (s.bus.lineOf l).faulty = false) (h : min 8 ((s.bus.lineOf l).errors + 1) = 8) :
    s.judgeBad l o = State.post { s with
      bus := s.bus.setLine l { s.bus.lineOf l with
        errors := min 8 ((s.bus.lineOf l).errors + 1), good := 0, faulty := true }
      link := { s.link with sticky := { s.link.sticky with
        line1Fault := s.link.sticky.line1Fault || decide (l = .one)
        line2Fault := s.link.sticky.line2Fault || decide (l = .two) } } } (.lineFault l o) := by
  refine (if_pos (by rw [sound, h]; rfl)).trans (congrArg (fun t => State.post t (.lineFault l o)) ?_)
  have flags : s.link.sticky.setLineFault l = { s.link.sticky with
      line1Fault := s.link.sticky.line1Fault || decide (l = .one)
      line2Fault := s.link.sticky.line2Fault || decide (l = .two) } := by
    cases l <;> simp [StickyFlags.setLineFault]
  exact congrArg (fun flags => State.modSticky (s.modLine l fun v => { v with
    errors := min 8 (v.errors + 1), good := 0, faulty := true }) fun _ => flags) flags

end

/-! ## Valid copies (R163, R166, R167) -/

section
variable {s : State} {l : BusLine} {chars : List Byte} {ref : Nat} (listens : s.bus.listens l = true)
  (rx : (s.bus.lineOf l).rx = .characters ref) (valid : copyValid chars = true)

/-- The copy counted, and the receiver that waits for an idle line. -/
def State.copyCounted (s : State) (l : BusLine) : State := s.modLine l fun v => { v.await with valid := bump16 v.valid }

theorem copyCounted_keeps (content : List Byte) : (s.copyCounted l).bus.mode = s.bus.mode ∧
    (s.copyCounted l).duplicateOf l content = s.duplicateOf l content := by
  cases l <;> exact ⟨rfl, rfl⟩

include listens rx valid

theorem validCopy_of_forced (forced : s.bus.mode ≠ .auto) :
    s.validCopy l chars = (s.copyCounted l).filterFrame l (frameOf (chars.take 21)) ref := by
  have mode : (s.modLine l fun v => { v.await with valid := bump16 v.valid }).bus.mode = s.bus.mode :=
    (copyCounted_keeps []).1
  simp only [State.validCopy, rx, listens, valid, mode]
  cases m : s.bus.mode with
  | auto => exact absurd m forced
  | forced1 => rfl
  | forced2 => rfl

variable (auto : s.bus.mode = .auto)
include auto

theorem validCopy_of_duplicate {p : Pairing} (duplicate : s.duplicateOf l (chars.take 21) = some p) :
    s.validCopy l chars = (((((s.copyCounted l).modBus fun b => { b with
      duplicates := bump16 b.duplicates }).closePairing p).judgeGood .one).judgeGood .two) := by
  have mode : (s.modLine l fun v => { v.await with valid := bump16 v.valid }).bus.mode = s.bus.mode :=
    (copyCounted_keeps []).1
  have same : (s.modLine l fun v => { v.await with valid := bump16 v.valid }).duplicateOf l
      (chars.take busContentLength) = some p := (copyCounted_keeps _).2.trans duplicate
  simp only [State.validCopy, rx, listens, valid, mode, auto, same]
  rfl

theorem validCopy_of_first (first : s.duplicateOf l (chars.take 21) = none) :
    s.validCopy l chars = (s.copyCounted l).firstCopy l (chars.take 21) ref := by
  have mode : (s.modLine l fun v => { v.await with valid := bump16 v.valid }).bus.mode = s.bus.mode :=
    (copyCounted_keeps []).1
  have same : (s.modLine l fun v => { v.await with valid := bump16 v.valid }).duplicateOf l
      (chars.take busContentLength) = none := (copyCounted_keeps _).2.trans first
  simp only [State.validCopy, rx, listens, valid, mode, auto, same]
  rfl

end

section
variable {s t : State} {l : BusLine} {content : List Byte} {ref : Nat}
  (filtered : s.filterFrame l (frameOf content) ref = t)
include filtered

theorem firstCopy_of_no_error (none_ : (t.bus.lineOf (otherLine l)).lastError = none) : s.firstCopy l content ref =
    t.modBus fun b => { b with pairings := b.pairings ++ [⟨content, l, t.clock⟩] } := by
  simp only [State.firstCopy, filtered, none_]

theorem firstCopy_of_error {at_ : Nat} {e : ReceiveErrorKind}
    (error : (t.bus.lineOf (otherLine l)).lastError = some (at_, e)) : s.firstCopy l content ref =
      if since t.clock at_ ≤ t.bus.rate.pairingTime then
        (t.modLine (otherLine l) fun v => { v with lastError := none }).judgePair l (.receive e)
      else t.modBus fun b => { b with pairings := b.pairings ++ [⟨content, l, t.clock⟩] } := by
  simp only [State.firstCopy, filtered, error]

end

/-- Settles O56: the judging of each line, and a copy by the mode, a duplicate of it, and an error kept for it. -/
theorem copiesArePairedAndJudged : Obligations.CopiesArePairedAndJudged := by
  refine ⟨fun s l o => ⟨judgeGood_of_steady s l, judgeGood_of_restored s l, judgeBad_of_steady s l o,
    judgeBad_of_failed s l o, rfl, rfl⟩, fun s l chars ref running uses free rx length crc => ?_, fun s p running due => ?_⟩
  · intro content v received filtered W opened
    have live := live_of_running running
    have listens := listens_of uses free
    have valid : copyValid chars = true := by simp [copyValid, length, crc]
    refine ⟨fun forced => ?_, fun p auto duplicate => ?_, fun auto first none_ => ?_, fun at_ e auto first error => ?_⟩
    · exact congrArg Host.Outcome.next ((if_pos live).trans (validCopy_of_forced listens rx valid forced))
    · refine congrArg Host.Outcome.next ((if_pos live).trans ?_)
      rw [validCopy_of_duplicate listens rx valid auto duplicate]
      cases l <;> rfl
    · exact congrArg Host.Outcome.next ((if_pos live).trans ((validCopy_of_first listens rx valid auto first).trans
        (firstCopy_of_no_error rfl none_)))
    · have copy : exec (.validCopy l chars) s = .next (if since filtered.clock at_ ≤ W then
          (filtered.modLine (otherLine l) fun v => { v with lastError := none }).judgePair l (.receive e)
          else opened) :=
        congrArg Host.Outcome.next ((if_pos live).trans ((validCopy_of_first listens rx valid auto first).trans
          (firstCopy_of_error rfl error)))
      exact ⟨fun late => copy.trans (congrArg _ (if_neg (Nat.not_le.2 late))),
        fun recent => copy.trans (congrArg _ (if_pos recent))⟩
  · refine congrArg Host.Outcome.next ?_
    rw [live_of_running running, due]
    rfl

end Sys2Proof.Machine

/-! The part's own frames on the bus, their losses and the settings that wait for them (O58). -/

namespace Sys2Proof.Machine

/-! ## Frames begun (R173, R175) -/

theorem fresh_iff (r : TxRequest) (l : Lane) :
    r.fresh l = true ↔ ∀ y, r.kind = .boundary y → Position.distance ⟨y, 0⟩ l.pos < 2 ^ 45 := by
  unfold TxRequest.fresh
  split
  · next stop => simp [stop]
  · next y boundary =>
    rw [boundary, decide_eq_true_eq]
    exact ⟨fun h z e => by cases e; exact h, fun h => h y rfl⟩

section
variable {s : State} {r : TxRequest} {x : LaneId} {on1 on2 : Bool}

theorem beginFrame_of_due (due : s.frameBeginDue = some (r, x, on1, on2)) : s.beginFrame =
    if r.lost && !r.fresh (s.lane x) then s.modBus fun b => { b with request := none, drops := bump16 b.drops }
    else s.modBus fun b => { b with
      request := some { r with begun := true, lost := false, retry := r.retry || r.lost }
      tx := some ⟨x, b.settings.station, on1, on2, 0, none⟩
      line1 := b.line1.beginBreak on1
      line2 := b.line2.beginBreak on2 } := by
  simp only [State.beginFrame, due]

/-- A line that a frame in AUTO need not wait for is idle, or FAULTY beside one that is OK. -/
theorem included_line_iff : ∀ faulty other idle : Bool,
    ((faulty && !other) || idle) = true ↔ (faulty = false ∨ other = true → idle = true) := by decide

theorem included_iff (b : Bus) : b.included = some (on1, on2) ↔ match b.mode with
    | .forced1 => b.line1.lineIdle = true ∧ on1 = true ∧ on2 = false
    | .forced2 => b.line2.lineIdle = true ∧ on1 = false ∧ on2 = true
    | .auto => (b.line1.faulty = false ∨ b.line2.faulty = true → b.line1.lineIdle = true) ∧
      (b.line2.faulty = false ∨ b.line1.faulty = true → b.line2.lineIdle = true) ∧
      on1 = b.line1.lineIdle ∧ on2 = b.line2.lineIdle := by
  unfold Bus.included
  cases b.mode with
  | forced1 =>
    simp only [Option.ite_none_right_eq_some, Option.some.injEq, Prod.mk.injEq]
    exact and_congr Iff.rfl (and_congr eq_comm eq_comm)
  | forced2 =>
    simp only [Option.ite_none_right_eq_some, Option.some.injEq, Prod.mk.injEq]
    exact and_congr Iff.rfl (and_congr eq_comm eq_comm)
  | auto =>
    simp only [Option.ite_none_right_eq_some, Option.some.injEq, Prod.mk.injEq, Bool.and_eq_true, included_line_iff,
      and_assoc]
    exact and_congr Iff.rfl (and_congr Iff.rfl (and_congr eq_comm eq_comm))

theorem frameBeginDue_iff : s.frameBeginDue = some (r, x, on1, on2) ↔ s.bus.tx = none ∧ s.bus.request = some r ∧
    s.bus.settings.lead = some x ∧ s.bus.included = some (on1, on2) := by
  unfold State.frameBeginDue
  cases s.bus.request <;> cases s.bus.tx <;> cases s.bus.settings.lead <;> cases s.bus.included <;>
    simp [Prod.ext_iff]

end

theorem post_modBus (s : State) (f : Bus → Bus) (n : NoticeBody) : (s.modBus f).post n = (s.post n).modBus f := by
  have link : ((s.modBus f).post n).link = (s.post n).link := post_link_congr (s := s) (t := s.modBus f) rfl rfl n
  calc (s.modBus f).post n = { s.modBus f with link := ((s.modBus f).post n).link } := post_eq_modLink n
    _ = State.modBus { s with link := (s.post n).link } f := by rw [link]; rfl
    _ = (s.post n).modBus f := by rw [← post_eq_modLink]

/-! ## The instant and the end of a frame (R173, R177, R179) -/

theorem endFrame_eq (b : Bus) : b.endFrame =
    if b.deferred = true then Bus.takeSettings { b with tx := none } else { b with tx := none } := rfl

section
variable {s : State} {t : BusTx} (tx : s.bus.tx = some t)
include tx

theorem instantDue_of (captured : t.captured = none) (age : 14 * s.bus.rate.unit ≤ t.age)
    (settled : (s.lane (s.bus.settings.lead.getD t.lane)).crossing = false) : s.instantDue = true := by
  simp [State.instantDue, tx, captured, referenceAge, age, State.settledLane, settled]

theorem captureInstant_of : s.captureInstant = s.modBus fun b => { b with
    tx := some { t with
      lane := s.bus.settings.lead.getD t.lane
      captured := some ((s.lane (s.bus.settings.lead.getD t.lane)).busFrame (s.bus.settings.lead.getD t.lane) t.station) }
    line1 := b.line1.atInstant t.on1 s.clock
    line2 := b.line2.atInstant t.on2 s.clock } := by
  simp only [State.captureInstant, tx]

theorem frameSentDue_of {f : BusFrame} (captured : t.captured = some f) (age : 244 * s.bus.rate.unit ≤ t.age) :
    s.frameSentDue = true := by
  simp [State.frameSentDue, tx, captured, frameAge, age]

theorem finishFrame_of : s.finishFrame = s.modBus fun b => Bus.endFrame { b with
    sent := bump16 b.sent
    request := match b.request with
      | some r => if r.begun then none else some r
      | none => none
    line1 := b.line1.leaveFrame t.on1
    line2 := b.line2.leaveFrame t.on2 } := by
  simp only [State.finishFrame, tx] <;> rfl

/-! ## Losses (R174 to R176) -/

/-- The lines on which no loss stood go back to waiting for idle. -/
def State.released (s : State) (t : BusTx) (on1 on2 : Bool) : State := s.modBus fun b => { b with
  line1 := b.line1.leaveFrame (t.on1 && !on1)
  line2 := b.line2.leaveFrame (t.on2 && !on2) }

omit tx in
/-- The flag and the notice of a conflict stand beside what becomes of the lines. -/
theorem released_conflict (id : BitVec 10) (on1 on2 : Bool) :
    (s.released t on1 on2).conflict id .arbitration on1 on2 = { State.post
      { s with link := { s.link with sticky := { s.link.sticky with idConflict := true } } }
      (.idConflict id .arbitration on1 on2) with
    bus := { s.bus with
      line1 := s.bus.line1.leaveFrame (t.on1 && !on1)
      line2 := s.bus.line2.leaveFrame (t.on2 && !on2)
      settings := { s.bus.settings with lead := none }
      request := none } } := by
  have posted : State.post (State.modSticky (s.released t on1 on2) fun f => { f with idConflict := true }) _ = _ :=
    post_modBus (s.modSticky fun f => { f with idConflict := true }) (fun b => { b with
      line1 := b.line1.leaveFrame (t.on1 && !on1)
      line2 := b.line2.leaveFrame (t.on2 && !on2) }) (.idConflict id .arbitration on1 on2)
  refine (congrArg (fun u => State.modBus u fun b => { b with
    settings := { b.settings with lead := none }, request := none }) posted).trans ?_
  simp only [State.modBus, post_bus]
  rfl

theorem lose_of_early {bit : Nat} (early : bit ≤ 26) (on1 on2 : Bool) : s.lose bit on1 on2 =
    ((s.released t on1 on2).modBus fun b => { b with
      losses := bump16 b.losses
      request := (lostRequest b.request).1
      drops := if (lostRequest b.request).2 then bump16 b.drops else b.drops }).modBus (·.endFrame) := by
  simp only [State.lose, tx]
  exact congrArg (fun u => State.modBus u (·.endFrame)) (if_pos early)

theorem lose_of_late {bit : Nat} (late : 26 < bit) (on1 on2 : Bool) : s.lose bit on1 on2 =
    ((s.released t on1 on2).conflict t.station .arbitration on1 on2).modBus (·.endFrame) := by
  simp only [State.lose, tx]
  exact congrArg (fun u => State.modBus u (·.endFrame)) (if_neg (Nat.not_le.2 late))

end

/-- Settles O58: a frame's beginning, instant, end and loss, each with the settings that wait for its end. -/
theorem ownFramesAndTheirLosses : Obligations.OwnFramesAndTheirLosses := by
  refine ⟨fun s running => ⟨fun r x on1 on2 due => ?begins, fun t tx => ⟨fun captured age settled => ?instant,
    fun f captured age => ?sent⟩⟩, fun s bit on1 on2 t running possible tx => ?loss, fun s r x on1 on2 => ?due,
    fun b => rfl⟩
  case begins =>
    have live := live_of_running running
    refine ⟨fun lost stale => ?_, fun again => ?_⟩
    all_goals refine congrArg Host.Outcome.next ((if_pos live).trans ((beginFrame_of_due due).trans ?_))
    · refine if_pos ?_
      rw [lost, Bool.true_and, Bool.not_eq_true', Bool.eq_false_iff]
      exact fun fresh => stale ((fresh_iff r _).1 fresh)
    · refine if_neg ?_
      rcases again with first | fresh
      · simp [first]
      · simp [(fresh_iff r _).2 fresh]
  case instant =>
    refine congrArg Host.Outcome.next ((if_pos ?_).trans ?_)
    · rw [live_of_running running, instantDue_of tx captured age settled]
      rfl
    · exact captureInstant_of tx
  case sent =>
    refine congrArg Host.Outcome.next ((if_pos ?_).trans ?_)
    · rw [live_of_running running, frameSentDue_of tx captured age]
      rfl
    · rw [finishFrame_of tx]
      rfl
  case loss =>
    have lost : exec (.arbitrationLoss bit on1 on2) s = .next (s.lose bit on1 on2) := by
      refine congrArg Host.Outcome.next (if_pos ?_)
      rw [live_of_running running, possible]
      rfl
    intro settled left released
    refine ⟨fun r early request begun first => ?_, fun r early request begun again => ?_, fun early newer => ?_,
      fun late => ?_⟩
    · rw [lost, lose_of_early tx early]
      simp only [State.released, State.modBus, request, lostRequest, begun, first]
      rfl
    · rw [lost, lose_of_early tx early]
      simp only [State.released, State.modBus, request, lostRequest, begun, again]
      rfl
    · have kept : lostRequest s.bus.request = (s.bus.request, false) := by
        cases request : s.bus.request with
        | none => rfl
        | some r => simp [lostRequest, newer r request]
      rw [lost, lose_of_early tx early]
      simp only [State.released, State.modBus, kept]
      rfl
    · rw [lost, lose_of_late tx late, released_conflict]
      rfl
  case due => exact frameBeginDue_iff.trans (and_congr Iff.rfl (and_congr Iff.rfl (and_congr Iff.rfl (included_iff _))))

end Sys2Proof.Machine

/-! Frames filtered, delivered and tracked (O57). -/

namespace Sys2Proof.Machine

/-! ## Filtering (R171, R176) -/

theorem accepts_iff (e : AcceptEntry) (id : BitVec 10) : e.accepts id = true ↔
    e.enabled = true ∧ ∀ i < 10, e.mask.getLsbD i = false → id.getLsbD i = e.code.getLsbD i := by
  rw [AcceptEntry.accepts, Bool.and_eq_true, beq_iff_eq]
  refine and_congr Iff.rfl ⟨fun zero i hi unmasked => ?_, fun same => BitVec.eq_of_getLsbD_eq fun i hi => ?_⟩
  · have bit : ((id ^^^ e.code) &&& ~~~e.mask).getLsbD i = (0 : BitVec 10).getLsbD i := by rw [zero]
    rw [BitVec.getLsbD_and, BitVec.getLsbD_xor, BitVec.getLsbD_not, unmasked, decide_eq_true hi] at bit
    simpa using bit
  · cases masked : e.mask.getLsbD i with
    | true => simp [masked]
    | false => simp [masked, same i hi masked]

/-- The first of the entries is the lowest that matches. -/
theorem find_allEntries {p : Fin 8 → Bool} {n : Fin 8} (h : p n = true) (first : ∀ m, m < n → p m = false) :
    allEntries.find? p = some n := by
  have split : ∀ n : Fin 8, allEntries = allEntries.take n ++ n :: allEntries.drop (n + 1) := by decide
  have below : ∀ n : Fin 8, ∀ m ∈ allEntries.take n, m < n := by decide
  rw [List.find?_eq_some_iff_append]
  exact ⟨h, _, _, split n, fun m mem => by simp [first m (below n m mem)]⟩

theorem filterFrame_of_foreign {s : State} {f : BusFrame}
    (foreign : ¬ (s.bus.settings.lead ≠ none ∧ f.station = s.bus.settings.station)) (l : BusLine) (ref : Nat) :
    s.filterFrame l f ref = match s.bus.firstMatch f.station with
      | some n => (s.modBus fun b => { b with accepted := bump16 b.accepted }).deliverFrame n f ref
      | none => s.modBus fun b => { b with unmatched := bump16 b.unmatched } := by
  refine if_neg fun own => foreign ⟨?_, own.2⟩
  exact Option.isSome_iff_ne_none.1 own.1

/-! ## Frames taken by a tracker (R57 to R59) -/

theorem recent_eq_some {t : BusTracker} {ref : Nat} {g : BusFrame} : t.recent ref = some g ↔
    ∃ at_, t.last = some (g, at_) ∧ g.run = true ∧ since ref at_ * g.increment ≤ 2 * 2 ^ 48 := by
  unfold BusTracker.recent
  cases last : t.last with
  | none => simp
  | some pair =>
    obtain ⟨f, at_⟩ := pair
    simp only [Option.ite_none_right_eq_some, Bool.and_eq_true, decide_eq_true_eq, Option.some.injEq, Prod.mk.injEq]
    constructor
    · rintro ⟨⟨run, near⟩, rfl⟩
      exact ⟨at_, ⟨rfl, rfl⟩, run, near⟩
    · rintro ⟨_, ⟨rfl, rfl⟩, run, near⟩
      exact ⟨⟨run, near⟩, rfl⟩

theorem recent_eq_none {t : BusTracker} {ref : Nat} (h : ∀ g, ¬ ∃ at_, t.last = some (g, at_) ∧ g.run = true ∧
    since ref at_ * g.increment ≤ 2 * 2 ^ 48) : t.recent ref = none :=
  Option.eq_none_iff_forall_not_mem.2 fun g mem => h g (recent_eq_some.1 mem)

section
variable {t : BusTracker} {f : BusFrame} {ref : Nat}

theorem take_of_searching (searching : t.lock = .searching) :
    (f.run = false → t.take f ref = ({ t with last := some (f, ref) }, .none)) ∧
    (f.run = true → t.recent ref = none → t.take f ref = ({ t with last := some (f, ref) }, .none)) ∧
    (∀ g, f.run = true → t.recent ref = some g → t.take f ref = if g.station = f.station then ({ t with
      lock := .locked
      station := some f.station
      last := some (f, ref)
      estimate := some f.increment
      holdoverStart := none }, .locked) else (t, .none)) := by
  refine ⟨fun still => ?_, fun run none_ => ?_, fun g run recent => ?_⟩
  · simp only [BusTracker.take, searching, still]
  · simp only [BusTracker.take, searching, run, none_]
  · simp only [BusTracker.take, searching, run, recent]

theorem take_of_own (own : t.station = some f.station) (locked : t.lock = .locked) : t.take f ref =
    if f.run then ({ t with last := some (f, ref), estimate := some f.increment }, .update)
    else ({ t with last := some (f, ref), lock := .holdover, holdoverStart := some ref }, .holdover) := by
  simp only [BusTracker.take, locked, own, if_true]

theorem take_of_holdover (own : t.station = some f.station) (holdover : t.lock = .holdover) : t.take f ref =
    if f.run && (t.recent ref).isSome then ({ t with
      lock := .locked
      station := some f.station
      last := some (f, ref)
      estimate := some f.increment
      holdoverStart := none }, .locked) else ({ t with last := some (f, ref) }, .none) := by
  simp only [BusTracker.take, holdover, own, if_true]

theorem take_of_other (found : t.lock ≠ .searching) (other : t.station ≠ some f.station) :
    t.take f ref = ({ t with rejects := bump16 t.rejects }, .none) := by
  cases lock : t.lock with
  | searching => exact absurd lock found
  | locked => simp only [BusTracker.take, lock, if_neg other]
  | holdover => simp only [BusTracker.take, lock, if_neg other]

end

/-! ## The update of a tracker (R66) -/

/-- The estimate of source `k` for the lanes that follow it, but for LANE. -/
def State.estimateOf (s : State) : SourceKind → Option Nat
  | .tap => s.tap.estimate
  | .reference => s.ref.estimate
  | .bus n => (s.busTracker n).estimate
  | _ => none

/-- The lane's record after an update of source `k` with estimate `e` (R66). -/
def Lane.updated (l : Lane) (k : SourceKind) (e : Option Nat) : Lane :=
  match e with
  | some i =>
    if l.source = k ∧ l.transport = .stopped ∧ l.follow = .following then { l with increment := i, glide := none } else l
  | none => l

theorem takeEstimate_of_follower {s : State} {k : SourceKind} (tracker : k ≠ .lane) (x : LaneId) :
    (if (s.lane x).source = k then s.takeEstimate x else s) = s.setLane x ((s.lane x).updated k (s.estimateOf k)) := by
  by_cases source : (s.lane x).source = k
  · have estimate : s.sourceEstimate x = s.estimateOf k := by
      subst source
      unfold State.sourceEstimate State.estimateOf
      cases kind : (s.lane x).source with
      | lane => exact absurd kind tracker
      | _ => rfl
    rw [if_pos source, State.takeEstimate, estimate]
    cases s.estimateOf k with
    | none => simp [Lane.updated]
    | some i =>
      simp only [Lane.updated, source, true_and, Bool.and_eq_true, Bool.not_eq_true', isRunning_eq_false, beq_iff_eq]
      split
      · rfl
      · rw [setLane_lane]
  · rw [if_neg source]
    cases s.estimateOf k with
    | none => simp [Lane.updated]
    | some i => simp [Lane.updated, source]

theorem trackerUpdate_eq (s : State) {k : SourceKind} (tracker : k ≠ .lane) : s.trackerUpdate k =
    { s with laneA := s.laneA.updated k (s.estimateOf k), laneB := s.laneB.updated k (s.estimateOf k) } := by
  have steps : s.trackerUpdate k = _ := congrArg (fun t => if (State.lane t .b).source = k then t.takeEstimate .b else t)
    (takeEstimate_of_follower tracker .a)
  rw [steps, takeEstimate_of_follower tracker .b]
  cases k <;> rfl

/-! ## The joins that wait for a tracker (R78, R84) -/

theorem joinWait_eq_some {e : Entry} {x : LaneId} {w : JoinWait} :
    e.joinWait x = some w ↔ e.change = .transport x .join ∧ e.due = .join w := by
  unfold Entry.joinWait
  split
  · next y v change due => simp [change, due]
  · next other => simpa using fun change due => other x w change due

theorem joinsOn_iff {e : Entry} {x : LaneId} {k : SourceKind} :
    e.joinsOn x k = true ↔ e.change = .transport x .join ∧ ∃ w, e.due = .join w ∧ w.source = k := by
  unfold Entry.joinsOn
  split
  · next w wait =>
    obtain ⟨change, due⟩ := joinWait_eq_some.1 wait
    simp [change, due]
  · next none_ =>
    refine ⟨fun h => absurd h Bool.false_ne_true, fun ⟨change, w, due, _⟩ => ?_⟩
    rw [joinWait_eq_some.2 ⟨change, due⟩] at none_
    cases none_

/-- A START with JOIN joins its own lane. -/
theorem joinsOn_other {e : Entry} {x y : LaneId} (change : e.change = .transport x .join) (other : y ≠ x)
    (k : SourceKind) : e.joinsOn y k = false := by
  refine Bool.eq_false_iff.2 fun h => other ?_
  have own := (joinsOn_iff.1 h).1
  rw [change] at own
  cases own
  rfl

theorem filter_eq_singleton_of {before after : List Entry} {e : Entry} {p : Entry → Bool}
    (none_ : ∀ d ∈ before ++ after, p d = false) (mem : p e = true) : (before ++ e :: after).filter p = [e] := by
  have left : before.filter p = [] := List.filter_eq_nil_iff.2 fun d h => by simp [none_ d (List.mem_append_left _ h)]
  have right : after.filter p = [] := List.filter_eq_nil_iff.2 fun d h => by simp [none_ d (List.mem_append_right _ h)]
  rw [List.filter_append, List.filter_cons_of_pos mem, left, right]
  rfl

/-- With distinct ids a retiming changes its own entry alone. -/
theorem retime_of_queue {s : State} {before after : List Entry} {e : Entry} (queue : s.queue = before ++ e :: after)
    (distinct : s.idsDistinct) (x : LaneId) (due : Due) :
    s.retime e.id x due = { s with queue := before ++ { e with timing := x, due := due } :: after } := by
  have ids := distinct.1
  rw [queue, List.map_append, List.map_cons, List.nodup_middle, List.nodup_cons] at ids
  have others (l : List Entry) (sub : ∀ d ∈ l, d ∈ before ++ after) :
      l.map (fun d => if d.id = e.id then { d with timing := x, due := due } else d) = l := by
    refine (List.map_congr_left (g := id) fun d mem => if_neg fun same => ids.1 ?_).trans (List.map_id l)
    rw [← List.map_append, ← same]
    exact List.mem_map_of_mem (sub d mem)
  refine congrArg (fun q => { s with queue := q }) ?_
  rw [queue, List.map_append, List.map_cons, if_pos rfl, others before fun d => List.mem_append_left after,
    others after fun d => List.mem_append_right before]

theorem askJoins_of_none {s : State} {n : Fin 8} {x : LaneId} (none_ : ∀ d ∈ s.queue, d.joinsOn x (.bus n) = false) :
    s.askJoins n x = s := by
  have empty : s.queue.filter (·.joinsOn x (.bus n)) = [] :=
    List.filter_eq_nil_iff.2 fun d mem => by simp [none_ d mem]
  rw [State.askJoins, empty]
  rfl

theorem askJoins_of_one {s : State} {n : Fin 8} {x : LaneId} {before after : List Entry} {e : Entry}
    (queue : s.queue = before ++ e :: after) (distinct : s.idsDistinct) (joins : e.joinsOn x (.bus n) = true)
    (none_ : ∀ d ∈ before ++ after, d.joinsOn x (.bus n) = false) : s.askJoins n x =
      if e.due = .join (.bus n (s.predictedOf (.bus n))) then s else { s with
        queue := before ++ { e with timing := x, due := .join (.bus n (s.predictedOf (.bus n))) } :: after
        generation := s.generation + 1 } := by
  rw [State.askJoins, queue, filter_eq_singleton_of none_ joins, List.foldl_cons, List.foldl_nil]
  refine if_congr Iff.rfl rfl ?_
  rw [retime_of_queue queue distinct]
  rfl

/-- Both lanes' joins ask: that of lane `x` is the only one. -/
theorem askJoins_both {s : State} {n : Fin 8} {x : LaneId} {before after : List Entry} {e : Entry}
    (queue : s.queue = before ++ e :: after) (distinct : s.idsDistinct) (joins : e.joinsOn x (.bus n) = true)
    (none_ : ∀ d ∈ before ++ after, ∀ z, d.joinsOn z (.bus n) = false) :
    bothLanes.foldl (fun t y => t.askJoins n y) s = s.askJoins n x := by
  have change := (joinsOn_iff.1 joins).1
  have others {t : State} {d : Entry} {y : LaneId} (queue : t.queue = before ++ d :: after)
      (same : d.change = e.change) (other : y ≠ x) : t.askJoins n y = t := by
    refine askJoins_of_none fun c mem => ?_
    rw [queue, List.mem_append, List.mem_cons] at mem
    rcases mem with mem | rfl | mem
    · exact none_ c (List.mem_append_left _ mem) y
    · exact joinsOn_other (same.trans change) other _
    · exact none_ c (List.mem_append_right _ mem) y
  have asked : ∃ d : Entry, (s.askJoins n x).queue = before ++ d :: after ∧ d.change = e.change := by
    rw [askJoins_of_one queue distinct joins fun d mem => none_ d mem x]
    split
    · exact ⟨e, queue, rfl⟩
    · exact ⟨_, rfl, rfl⟩
  obtain ⟨d, after_, same⟩ := asked
  cases x with
  | a => exact others after_ same (by decide)
  | b => exact congrArg (fun t => State.askJoins t n .b) (others queue rfl (by decide))

/-! ## Frames delivered (R57 to R59, R78) -/

theorem valid_iff (f : BusFrame) : f.valid = true ↔ 1 ≤ f.beatsPerBar ∧ f.beatsPerBar ≤ 16 ∧ 1 ≤ f.barsPerPhrase ∧
    f.barsPerPhrase ≤ 64 ∧ f.beatInBar < f.beatsPerBar ∧ f.barInPhrase < f.barsPerPhrase := by
  simp only [BusFrame.valid, Bool.and_eq_true, decide_eq_true_eq, and_assoc]

section
variable {s : State} {n : Fin 8} {f : BusFrame} {ref : Nat} {out : BusTracker × FrameEffect}
  (taken : (s.busTracker n).take f ref = out)
include taken

theorem acceptFrame_of_update (update : out.2 = .update) : s.acceptFrame n f ref =
    bothLanes.foldl (fun t x => t.askJoins n x) ((s.setBusTracker n out.1).trackerUpdate (.bus n)) := by
  simp only [State.acceptFrame, taken, update]

theorem acceptFrame_of_no_ask (told : (∀ e ∈ s.queue, ∀ x, e.joinsOn x (.bus n) = false) ∨ out.2 ≠ .update) :
    s.acceptFrame n f ref = match out.2 with
      | .none => s.setBusTracker n out.1
      | .locked => (s.setBusTracker n out.1).becameLocked (.bus n) (.bus n) out.1.estimate out.1.station
      | .update => (s.setBusTracker n out.1).trackerUpdate (.bus n)
      | .holdover => (s.setBusTracker n out.1).becameHoldover (.bus n) (.bus n) out.1.estimate out.1.station := by
  unfold State.acceptFrame
  simp only [taken]
  cases effect : out.2 with
  | update =>
    rcases told with none_ | other
    · have queue : ((s.setBusTracker n out.1).trackerUpdate (.bus n)).queue = s.queue := by
        rw [trackerUpdate_eq _ (by simp)]
        rfl
      have quiet (x : LaneId) : ((s.setBusTracker n out.1).trackerUpdate (.bus n)).askJoins n x =
          (s.setBusTracker n out.1).trackerUpdate (.bus n) :=
        askJoins_of_none fun d mem => none_ d (queue ▸ mem) x
      exact (congrArg (fun t => State.askJoins t n .b) (quiet .a)).trans (quiet .b)
    · exact absurd effect other
  | _ => rfl

end

/-- Settles O57: the filter by its entries, a frame by the tracker's lock, and what is told of it to lanes and joins. -/
theorem framesAreFilteredAndTracked : Obligations.FramesAreFilteredAndTracked := by
  refine ⟨fun s l f ref => ?filter, fun t f ref => ?take, fun s k tracker => ?update⟩
  case filter =>
    intro own fits
    have fit (n : Fin 8) : fits n ↔ (s.bus.accept[n]).accepts f.station = true := (accepts_iff ..).symm
    refine ⟨fun mine => ?_, fun n foreign fitting lowest => ?_, fun foreign none_ => ?_⟩
    · exact if_pos ⟨Option.isSome_iff_ne_none.2 mine.1, mine.2⟩
    · have first : s.bus.firstMatch f.station = some n :=
        find_allEntries ((fit n).1 fitting) fun m below => Bool.eq_false_iff.2 fun h => lowest m below ((fit m).2 h)
      rw [filterFrame_of_foreign foreign, first]
      rfl
    · have first : s.bus.firstMatch f.station = none :=
        List.find?_eq_none.2 fun n _ h => none_ n ((fit n).2 h)
      rw [filterFrame_of_foreign foreign, first]
      rfl
  case take =>
    intro kept recent locked
    refine ⟨fun searching => ?_, fun lock own => take_of_own own lock, fun lock own => ⟨fun g run near => ?_, fun stale => ?_⟩,
      fun found other => take_of_other found other, fun s n => ?_⟩
    · obtain ⟨still, none_, some_⟩ := take_of_searching (f := f) (ref := ref) searching
      exact ⟨still, fun run stale => none_ run (recent_eq_none stale),
        fun g run near => some_ g run (recent_eq_some.2 near)⟩
    · rw [take_of_holdover own lock, run, recent_eq_some.2 near]
      rfl
    · rw [take_of_holdover own lock]
      refine if_neg ?_
      rcases stale with still | stale
      · simp [still]
      · simp [recent_eq_none stale]
    · intro legal
      refine ⟨fun illegal => if_neg fun valid => illegal ((valid_iff f).1 valid), fun valid => ?_⟩
      intro out told
      have delivered : s.deliverFrame n f ref = s.acceptFrame n
          { f with increment := max 977343669 (min 14660155037 f.increment) } ref := if_pos ((valid_iff f).2 valid)
      refine ⟨fun x e before after update queue distinct joins none_ => ?_, fun quiet => ?_⟩
      · intro updated asked
        have same : updated.queue = s.queue ∧ updated.generation = s.generation := by
          rw [show updated = _ from trackerUpdate_eq told (by simp)]
          exact ⟨rfl, rfl⟩
        have distinct' : updated.idsDistinct := by rwa [State.idsDistinct, same.1]
        refine (delivered.trans (acceptFrame_of_update rfl update)).trans
          ((askJoins_both (same.1.trans queue) distinct' joins none_).trans ?_)
        rw [askJoins_of_one (same.1.trans queue) distinct' joins fun d mem => none_ d mem x, same.2]
      · rw [delivered]
        exact acceptFrame_of_no_ask rfl quiet
  case update => exact trackerUpdate_eq s tracker

end Sys2Proof.Machine

/-! What a configuration makes of a channel's record, as one equation for each of its parts (R105, R106, R128), and
what the leaving of a member makes of its break and handover records (R139, R140, R153, R154). -/

namespace Sys2Proof.Machine

section
variable (s : State)

theorem setChan_setChan (n : Fin 16) (c d : Channel) : (s.setChan n c).setChan n d = s.setChan n d := by
  simp [State.setChan]

theorem setChan_chan (n : Fin 16) : s.setChan n (s.chan n) = s := by simp [State.setChan, State.chan]

theorem setChan_setBrk (n : Fin 16) (c : Channel) (r : Fin 4) (b : Option BreakRecord) :
    (s.setChan n c).setBrk r b = (s.setBrk r b).setChan n c := rfl

theorem setChan_setHo (n : Fin 16) (c : Channel) (r : Fin 4) (h : Option HandoverRecord) :
    (s.setChan n c).setHo r h = (s.setHo r h).setChan n c := rfl

theorem setBrk_setBrk (r : Fin 4) (b b' : Option BreakRecord) : (s.setBrk r b).setBrk r b' = s.setBrk r b' := by
  simp [State.setBrk]

theorem post_setChan (n : Fin 16) (c : Channel) (b : NoticeBody) : (s.setChan n c).post b = (s.post b).setChan n c := by
  have link : ((s.setChan n c).post b).link = (s.post b).link := post_link_congr (s := s) (t := s.setChan n c) rfl rfl b
  obtain ⟨eq, eq'⟩ := And.intro (post_eq_modLink (s := s.setChan n c) b) (post_eq_modLink (s := s) b)
  rw [eq, eq', link]
  rfl

end

/-! ## A member leaves its break record (R139, R140) -/

section
variable (s : State) (n : Fin 16)

/-- The records once channel `n` has left its break record: the record has seen why, and is FREE with its notice where
no other member is left. -/
def State.breakLeft (by_ : LeaveBy) : State :=
  match (s.chan n).brk with
  | none => s
  | some m =>
    match s.brk m.record with
    | none => s
    | some b =>
      if ∃ k, k ≠ n ∧ s.inBreakRecord m.record k = true then s.setBrk m.record (some (b.see by_))
      else (s.setBrk m.record none).post (.breakDone m.record (b.see by_).reason b.mode b.set b.completed)

/-- Another channel's membership is read in the state as it was. -/
theorem no_member_left {r : Fin 4} {c : Channel} (leaves : c.inBreakRecord r = false)
    (alone : ¬ ∃ k, k ≠ n ∧ s.inBreakRecord r k = true) (k : Fin 16) :
    (s.setChan n c).inBreakRecord r k = false := by
  rw [inBreakRecord_eq, chan_setChan]
  split
  · exact leaves
  · next other => exact Bool.eq_false_iff.2 fun member => alone ⟨k, other, member⟩

theorem leaveBreak_eq (by_ : LeaveBy) :
    s.leaveBreak n by_ = (s.breakLeft n by_).setChan n { s.chan n with brk := none } := by
  cases member : (s.chan n).brk with
  | none =>
    simp only [State.leaveBreak, State.breakLeft, member]
    rw [← member]
    exact (setChan_chan s n).symm
  | some m =>
    simp only [State.leaveBreak, State.breakLeft, State.dropMember, State.modBrk, member]
    change State.finishBreak ((s.setChan n { s.chan n with brk := none }).setBrk m.record
      ((s.brk m.record).map (·.see by_))) m.record = _
    cases record : s.brk m.record with
    | none =>
      have same : (s.setChan n { s.chan n with brk := none }).setBrk m.record none =
          s.setChan n { s.chan n with brk := none } := by
        rw [← record]
        exact setBrk_brk (s.setChan n _) m.record
      simp only [Option.map_none, same, State.finishBreak, brk_setChan, record]
    | some b =>
      simp only [Option.map_some]
      split
      · next left =>
        obtain ⟨k, other, staying⟩ := left
        refine finishBreak_of_member (n := k) _ ?_
        rw [inBreakRecord_eq, chan_setBrk, chan_setChan_ne s n k _ other]
        exact staying
      · next alone =>
        have empty := no_member_left s n (c := { s.chan n with brk := none }) (r := m.record) rfl alone
        rw [finishBreak_of_empty ((s.setChan n _).setBrk m.record (some (b.see by_))) ((brk_setBrk _ _ _ _).trans (if_pos rfl)) empty,
          setBrk_setBrk, setChan_setBrk, post_setChan]
        cases by_ <;> rfl

variable {s n}

/-- The records that a member leaves depend on its own record by its membership's index alone. -/
theorem breakLeft_setChan {c : Channel} (same : c.brk.map (·.record) = (s.chan n).brk.map (·.record)) (by_ : LeaveBy) :
    (s.setChan n c).breakLeft n by_ = (s.breakLeft n by_).setChan n c := by
  have others (r : Fin 4) : (∃ k, k ≠ n ∧ (s.setChan n c).inBreakRecord r k = true) ↔
      ∃ k, k ≠ n ∧ s.inBreakRecord r k = true := by
    refine exists_congr fun k => and_congr_right fun other => ?_
    rw [inBreakRecord_eq, inBreakRecord_eq, chan_setChan_ne s n k c other]
  unfold State.breakLeft
  rw [chan_setChan_same]
  cases member : c.brk with
  | none =>
    have outside : (s.chan n).brk = none := by
      rw [member] at same
      simpa using same.symm
    simp only [outside]
  | some m' =>
    obtain ⟨m, inside, record⟩ : ∃ m, (s.chan n).brk = some m ∧ m.record = m'.record := by
      rw [member] at same
      simpa using same.symm
    simp only [inside, ← record, brk_setChan]
    cases s.brk m.record with
    | none => rfl
    | some b =>
      dsimp only
      by_cases left : ∃ k, k ≠ n ∧ s.inBreakRecord m.record k = true
      · rw [if_pos left, if_pos ((others _).2 left), setChan_setBrk]
      · rw [if_neg left, if_neg (mt (others _).1 left), setChan_setBrk, post_setChan]

theorem chan_breakLeft (by_ : LeaveBy) (k : Fin 16) : (s.breakLeft n by_).chan k = s.chan k := by
  unfold State.breakLeft
  split
  · rfl
  · split
    · rfl
    · split <;> simp

theorem ho_breakLeft (by_ : LeaveBy) (r : Fin 4) : (s.breakLeft n by_).ho r = s.ho r := by
  unfold State.breakLeft
  split
  · rfl
  · split
    · rfl
    · split
      · rfl
      · simp [State.ho]

end

/-! ## A member leaves its handover record (R153, R154) -/

section
variable (s : State) (n : Fin 16)

/-- The records once channel `n` has left its handover record, which is FREE with its notice where no other member is
left. -/
def State.handoverLeft : State :=
  match (s.chan n).ho with
  | none => s
  | some m =>
    match s.ho m.record with
    | none => s
    | some h =>
      if ∃ k, k ≠ n ∧ s.inHandoverRecord m.record k = true then s
      else (s.setHo m.record none).post
        (.handoverDone m.record h.doneOutcome h.fromLane h.toLane h.set h.switched h.switchBeat)

theorem leaveHandover_eq : s.leaveHandover n = (s.handoverLeft n).setChan n { s.chan n with ho := none } := by
  cases member : (s.chan n).ho with
  | none =>
    simp only [State.leaveHandover, State.handoverLeft, member]
    rw [← member]
    exact (setChan_chan s n).symm
  | some m =>
    simp only [State.leaveHandover, State.handoverLeft, member]
    change State.finishHandover (s.setChan n { s.chan n with ho := none }) m.record = _
    cases record : s.ho m.record with
    | none => simp only [State.finishHandover, show (s.setChan n _).ho m.record = _ from record]
    | some h =>
      dsimp only
      split
      · next left =>
        obtain ⟨k, other, staying⟩ := left
        refine finishHandover_of_member (n := k) _ ?_
        rw [inHandoverRecord_eq, chan_setChan_ne s n k _ other]
        exact staying
      · next alone =>
        have empty (k : Fin 16) : (s.setChan n { s.chan n with ho := none }).inHandoverRecord m.record k = false := by
          rw [inHandoverRecord_eq, chan_setChan]
          split
          · rfl
          · next other => exact Bool.eq_false_iff.2 fun staying => alone ⟨k, other, staying⟩
        rw [finishHandover_of_empty (s.setChan n _) record empty, setChan_setHo, post_setChan]

variable {s n}

theorem handoverLeft_setChan {c : Channel} (same : c.ho = (s.chan n).ho) :
    (s.setChan n c).handoverLeft n = (s.handoverLeft n).setChan n c := by
  have others (r : Fin 4) : (∃ k, k ≠ n ∧ (s.setChan n c).inHandoverRecord r k = true) ↔
      ∃ k, k ≠ n ∧ s.inHandoverRecord r k = true := by
    refine exists_congr fun k => and_congr_right fun other => ?_
    rw [inHandoverRecord_eq, inHandoverRecord_eq, chan_setChan_ne s n k c other]
  unfold State.handoverLeft
  rw [chan_setChan_same, same]
  cases (s.chan n).ho with
  | none => rfl
  | some m =>
    dsimp only
    rw [show (s.setChan n c).ho m.record = s.ho m.record from rfl]
    cases s.ho m.record with
    | none => rfl
    | some b =>
      dsimp only
      by_cases left : ∃ k, k ≠ n ∧ s.inHandoverRecord m.record k = true
      · rw [if_pos left, if_pos ((others _).2 left)]
      · rw [if_neg left, if_neg (mt (others _).1 left), setChan_setHo, post_setChan]

theorem handoverLeft_of_none (h : (s.chan n).ho = none) : s.handoverLeft n = s := by simp only [State.handoverLeft, h]

theorem breakLeft_of_none (h : (s.chan n).brk = none) (by_ : LeaveBy) : s.breakLeft n by_ = s := by
  simp only [State.breakLeft, h]

end

/-! ## The parts of a configuration (R105, R106, R128) -/

/-- The channel takes the settings; bar codes switched off clear their marks (R105). -/
def Channel.marksKept (c : Channel) (cfg : ChannelConfig) : Channel := { c with
  barDue := c.barDue && cfg.barCodes
  phraseDue := c.phraseDue && cfg.barCodes }

/-- The channel with the function of `cfg` at step `now` (R105). -/
def Channel.functionChanged (c : Channel) (cfg : ChannelConfig) (now : Nat) (halted : Bool) : Channel := { c with
  cfg := cfg
  level := false
  lastPulse := if c.level = true ∧ c.cfg.function.isPulse = true then c.lastPulse.map fun p => (p.1, now)
    else c.lastPulse
  lastChange := if cfg.function = .gate then some now else c.lastChange
  pulseOwed := false
  fifo := if c.cfg.function = .code then [] else c.fifo
  tx := if c.cfg.function = .code then .idle else c.tx
  slot := if cfg.function = .code ∧ c.running = true ∧ halted = false then some .start
    else if c.cfg.function = .code then none else c.slot }

theorem functionChange_eq (s : State) (n : Fin 16) (cfg : ChannelConfig) : s.functionChange n cfg =
    s.setChan n ((s.chan n).functionChanged cfg s.clock (s.halted n)) := by
  have putStart (d : Channel) (start : Bool) : (if start = true then d.codePut .start else d) =
      { d with slot := if start = true ∧ d.cfg.function = .code then some .start else d.slot } := by
    cases start with
    | false => simp
    | true => simp [codePut_eq _ .start fun _ => SlotItem.noConfusion]
  unfold State.functionChange State.modChan
  refine congrArg (s.setChan n) ?_
  dsimp only
  rw [putStart]
  by_cases old : (s.chan n).cfg.function = .code <;> by_cases gate : cfg.function = .gate <;>
    simp [Channel.functionChanged, Channel.cutLine, Channel.clearCode, old, gate, and_comm]

/-- The channel once it has moved to lane `x`, whose record is `l`: `old` is its projection on the lane it leaves
(R106, R134). -/
def Channel.movedTo (c : Channel) (x : LaneId) (l : Lane) (old : Position) : Channel :=
  let o := boundaryFrom (c.aheadReference l)
  Channel.remark { c with
    cfg := { c.cfg with lane := x }
    origin := o
    delta := c.emitted
    owing := false
    pulseOwed := false
    mark := o.beat - 1
    running := l.isRunning
    evalLead := if l.isRunning then c.evalLead else none
    slot := if c.cfg.function = .code ∧ l.isRunning = true ∧ c.running = false then some .start
      else if c.cfg.function = .code ∧ l.isRunning = false ∧ c.running = true then some .stop
      else c.slot } old o.beat

theorem laneChange_eq (s : State) (n : Fin 16) (x : LaneId) : s.laneChange n x =
    let u := (s.setChan n ((s.chan n).movedTo x (s.lane x) (s.projection n))).leaveHandover n
    if (s.lane x).isRunning then u else u.leaveBreak n .stop := by
  have put (c : Channel) (now was : Bool) :
      (if (now && !was) = true then c.codePut .start else if (!now && was) = true then c.codePut .stop else c) =
        { c with slot := if c.cfg.function = .code ∧ now = true ∧ was = false then some .start
          else if c.cfg.function = .code ∧ now = false ∧ was = true then some .stop else c.slot } := by
    cases now <;> cases was <;>
      simp [codePut_eq _ .start fun _ => SlotItem.noConfusion, codePut_eq _ .stop fun _ => SlotItem.noConfusion]
  unfold State.laneChange State.modChan
  dsimp only
  rw [put]
  rfl

/-- The record of a channel disabled at step `now`, its members' records left (R128). -/
def Channel.disabledBy (c : Channel) (cfg : ChannelConfig) (now : Nat) : Channel := { c with
  cfg := { cfg with lane := if c.ho.isSome = true ∨ c.switched = true then c.cfg.lane else cfg.lane }
  running := false
  level := false
  lastPulse := if c.level = true ∧ c.cfg.function.isPulse = true then c.lastPulse.map fun p => (p.1, now)
    else c.lastPulse
  pulseOwed := false
  lastChange := some now
  evalLead := none
  fifo := []
  slot := none
  tx := .idle
  brk := none
  ho := none }

theorem disableChannel_eq (s : State) (n : Fin 16) (cfg : ChannelConfig) : s.disableChannel n cfg =
    ((s.breakLeft n .cancel).handoverLeft n).setChan n ((s.chan n).disabledBy cfg s.clock) := by
  unfold State.disableChannel State.modChan
  dsimp only
  rw [leaveBreak_eq, leaveHandover_eq, breakLeft_setChan (by simp [Channel.clearCode, Channel.cutLine]), chan_setChan_same,
    setChan_setChan, chan_setChan_same, handoverLeft_setChan (by rw [chan_breakLeft]; simp [Channel.clearCode]),
    setChan_setChan]
  simp [Channel.disabledBy, Channel.clearCode, Channel.cutLine, Channel.laneDisabled]

/-- The channel with the fields of `cfg` but for its lane, before it is placed there (R105). -/
def State.refitted (s : State) (n : Fin 16) (cfg : ChannelConfig) : Channel :=
  let c := s.chan n
  Channel.marksKept (if c.cfg.function = cfg.function then { c with cfg := { cfg with lane := c.cfg.lane } }
    else c.functionChanged { cfg with lane := c.cfg.lane } s.clock (s.halted n)) cfg

/-- Where a configuration places the channel: on another lane, at the crossing's beat, or as it stands (R105, R106,
R110). -/
def State.placed (s : State) (n : Fin 16) (old cfg : ChannelConfig) (at_ : ApplyAt) : State :=
  if cfg.lane ≠ old.lane then s.laneChange n cfg.lane
  else match at_ with
    | .crossing y timing =>
      if timing = old.lane then s.modChan n fun c => c.reorigin (.atBeat y) else s.reoriginAhead n
    | .acceptance => if gridChange old cfg && !(s.chan n).running then s.reoriginAhead n else s
    | .switch => s

theorem refitted_running (s : State) (n : Fin 16) (cfg : ChannelConfig) :
    (s.refitted n cfg).running = (s.chan n).running := by
  simp only [State.refitted, Channel.marksKept]
  split <;> rfl

theorem reconfigure_eq (s : State) (n : Fin 16) (cfg : ChannelConfig) (at_ : ApplyAt) : s.reconfigure n cfg at_ =
    (s.setChan n (s.refitted n cfg)).placed n (s.chan n).cfg cfg at_ := by
  have marked (t : State) : (if cfg.barCodes = true then t
      else t.modChan n fun c => { c with barDue := false, phraseDue := false }) =
        t.setChan n ((t.chan n).marksKept cfg) := by
    split
    · next on =>
      simp only [Channel.marksKept, on, Bool.and_true]
      exact (setChan_chan t n).symm
    · next off => simp [Channel.marksKept, off, State.modChan]
  unfold State.reconfigure
  dsimp only
  rw [marked]
  have fitted : (if (s.chan n).cfg.function = cfg.function then
      s.modChan n fun c => { c with cfg := { cfg with lane := (s.chan n).cfg.lane } }
      else s.functionChange n { cfg with lane := (s.chan n).cfg.lane }) =
        s.setChan n (if (s.chan n).cfg.function = cfg.function then
          { s.chan n with cfg := { cfg with lane := (s.chan n).cfg.lane } }
          else (s.chan n).functionChanged { cfg with lane := (s.chan n).cfg.lane } s.clock (s.halted n)) := by
    split
    · rfl
    · exact functionChange_eq s n _
  rw [fitted, setChan_setChan, chan_setChan_same]
  rfl

end Sys2Proof.Machine

/-! Pulses (O44) and the lines of GATE and CODE channels (O45). -/

namespace Sys2Proof.Machine

/-! ## The crossings of an evaluation (R120, R125, R133) -/

theorem crossings_eq (c : Channel) (l : Lane) (x : U32) (quiet : Bool) : c.crossings l x quiet = { c with
    mark := if 0 < ahead x c.mark then x else c.mark
    pulseOwed := c.pulseOwed || (decide (c.cfg.function = .bar ∨ c.cfg.function = .phrase) &&
      startCrossed c.cfg.function l c.mark x && !quiet)
    barDue := c.barDue || (decide (c.cfg.function = .code) && c.cfg.barCodes && startCrossed .bar l c.mark x && !quiet)
    phraseDue := c.phraseDue ||
      (decide (c.cfg.function = .code) && c.cfg.barCodes && startCrossed .phrase l c.mark x && !quiet) } := by
  by_cases passed : 0 < ahead x c.mark
  · simp only [Channel.crossings, if_pos passed]
    cases function : c.cfg.function with
    | tick | gate | bar | phrase => simp
    | code => cases codes : c.cfg.barCodes <;> simp
  · have none_ (f : ChannelFunction) : startCrossed f l c.mark x = false := by simp [startCrossed, passed]
    simp [Channel.crossings, passed, none_]

/-- The crossings of a channel without pulses of its own and without codes move its mark alone. -/
theorem crossings_of_tick {c : Channel} (tick : c.cfg.function = .tick) (l : Lane) (x : U32) (quiet : Bool) :
    c.crossings l x quiet = { c with mark := if 0 < ahead x c.mark then x else c.mark } := by
  simp [crossings_eq, tick]

/-! ## The gap between pulses (R18, R115, R120) -/

theorem gapServed_iff_forall (c : Channel) (now : Nat) : c.gapServed now = true ↔
    (c.cfg.function = .tick ∧ c.pulsed = false) ∨ ∀ b e, c.lastPulse = some (b, e) → 48 ≤ since now e :=
  (gapServed_iff c now).trans (or_comm.trans (or_congr Iff.rfl Prod.forall))

section
variable {s : State} {n : Fin 16}

theorem completeEvaluation_eq {c : Channel} (acted : (s.crossed n).act (s.laneOf n) (s.targetCount n) s.clock
      (s.tickPulseDue n) (s.barPulseDue n) (s.tickCodeDue n) (s.muted n) = c) :
    s.completeEvaluation n = s.setChan n
      { c with owing := 0 < ahead (s.targetCount n) c.emitted, evaluated := true, evalLead := none } := by
  simp only [State.completeEvaluation, acted]

theorem quiet_eq_false : s.quiet n = false ↔ s.muted n = false ∧ s.halted n = false ∧ s.held n = false := by
  simp [State.quiet, and_assoc]

theorem tickPulseDue_iff : s.tickPulseDue n = true ↔ (s.chan n).cfg.function = .tick ∧ s.muted n = false ∧
    0 < ahead (s.targetCount n) (s.chan n).emitted ∧ (s.chan n).level = false ∧ (s.chan n).gapServed s.clock = true := by
  simp [State.tickPulseDue, Channel.lineFree, and_assoc]

end

/-- The width of a pulse of function `f` whose interval is `units`, on a lane of that many phase units (R18, R121). -/
theorem widthOn_of_interval {c : Channel} {l : Lane} {units : Nat}
    (interval : c.cfg.function = .bar ∧ units = 2 ^ 48 * l.beatsPerBar ∨
      c.cfg.function = .phrase ∧ units = 2 ^ 48 * l.beatsPerBar * l.barsPerPhrase) :
    c.widthOn l = pulseWidth c.cfg.width c.cfg.fixedMs units l.increment := by
  rcases interval with ⟨function, rfl⟩ | ⟨function, rfl⟩ <;> simp [Channel.widthOn, function, beatUnits]

/-- Settles O44: the event's test, the crossings and the action of part 5, by the channel's function. -/
theorem pulsesBeginAndEnd : Obligations.PulsesBeginAndEnd := by
  intro s n running c l x target gap mark
  have live := live_of_running running
  refine ⟨fun partFive tick unmuted owed idle served => ?_, fun tick unserved pulsed => ?_,
    fun units partFive interval owes unmuted unhalted unheld idle served => ?_, fun b e active pulse last ended => ?_⟩
  · have due : s.tickPulseDue n = true :=
      tickPulseDue_iff.2 ⟨tick, unmuted, owed, idle, (gapServed_iff_forall ..).2 (served.symm.imp (⟨tick, ·⟩) id)⟩
    refine congrArg Host.Outcome.next ((whenLive_of_due running (by rw [partFive, due]; rfl)).trans ?_)
    have crossed : s.crossed n = { c with mark := mark } := crossings_of_tick tick l x _
    refine completeEvaluation_eq (c := { c with
      mark := mark
      level := true
      lastPulse := some (s.clock, s.clock + ({ c with mark := mark } : Channel).tickWidth l target)
      pulsed := true
      emitted := c.emitted + 1 }) ?_ |>.trans ?_
    · rw [crossed, Channel.act, if_pos due]
      rfl
    · have width : ({ c with mark := mark } : Channel).tickWidth l target =
          if c.owing = false ∧ ahead target c.emitted = 1 then
            pulseWidth c.cfg.width c.cfg.fixedMs (2 ^ 48 * c.cfg.d) (l.increment * c.cfg.n)
          else 48 := by
        unfold Channel.tickWidth
        refine if_congr (by simp) ?_ rfl
        simp only [Channel.widthOn, show c.cfg.function = .tick from tick]
      rw [width]
  · have idle : s.tickPulseDue n = false := by
      rw [Bool.eq_false_iff]
      intro due
      obtain ⟨-, -, -, -, served⟩ := tickPulseDue_iff.1 due
      rcases (gapServed_iff_forall ..).1 served with ⟨-, fresh⟩ | served
      · exact Bool.noConfusion (pulsed.symm.trans fresh)
      · exact unserved served
    exact congrArg Host.Outcome.next (if_neg (by simp [idle]))
  · have function : c.cfg.function = .bar ∨ c.cfg.function = .phrase := interval.imp And.left And.left
    have audible : s.quiet n = false := quiet_eq_false.2 ⟨unmuted, unhalted, unheld⟩
    have crossed : s.crossed n = { c with mark := mark, pulseOwed := true } := by
      have owed : (c.pulseOwed || (decide (c.cfg.function = .bar ∨ c.cfg.function = .phrase) &&
          startCrossed c.cfg.function l c.mark x && !false)) = true := by
        rcases owes with owed | ⟨-, start⟩
        · rw [owed, Bool.true_or]
        · simp [function, start]
      have noCode : c.cfg.function ≠ .code := by rcases function with h | h <;> simp [h]
      refine (crossings_eq ..).trans ?_
      rw [audible]
      refine (congrArg (fun owed => ({ c with mark := mark, pulseOwed := owed, barDue := _, phraseDue := _ } : Channel))
        owed).trans ?_
      simp [show (s.chan n).cfg.function ≠ .code from noCode, c]
    have due : s.barPulseDue n = true := by
      have free : ({ c with mark := mark, pulseOwed := true } : Channel).lineFree s.clock = true := by
        rw [Channel.lineFree, Bool.and_eq_true]
        exact ⟨by simp [idle], (gapServed_iff_forall _ _).2 (.inr served)⟩
      simp only [State.barPulseDue, crossed, free]
      simp [function, audible]
    have noTick : s.tickPulseDue n = false := by
      rw [Bool.eq_false_iff]
      intro due
      have tick : c.cfg.function = .tick := (tickPulseDue_iff.1 due).1
      rcases function with h | h <;> cases tick.symm.trans h
    refine congrArg Host.Outcome.next ((whenLive_of_due running (by rw [partFive, due]; rfl)).trans ?_)
    refine (completeEvaluation_eq (c := { c with
      mark := mark
      level := true
      lastPulse := some (s.clock, s.clock + ({ c with mark := mark, pulseOwed := true } : Channel).widthOn l)
      pulsed := true
      pulseOwed := false }) ?_).trans ?_
    · rw [crossed, noTick, due]
      rfl
    · have width : ({ c with mark := mark, pulseOwed := true } : Channel).widthOn l = _ :=
        widthOn_of_interval (c := c) interval
      rw [width]
  · have due : s.pulseEndDue n = true := by
      simp only [State.pulseEndDue, show (s.chan n).level = true from active,
        show (s.chan n).cfg.function.isPulse = true from pulse, show (s.chan n).lastPulse = _ from last]
      simpa using ended
    exact congrArg Host.Outcome.next (whenLive_of_due running due)

/-! ## Codes (R122 to R125) -/

/-- The crossings of a CODE channel leave its line, its FIFO and its slot, and the pulse it owes. -/
theorem crossings_of_code {c : Channel} (code : c.cfg.function = .code) (l : Lane) (x : U32) (quiet : Bool) :
    ∃ bar phrase, c.crossings l x quiet = { c with
      mark := if 0 < ahead x c.mark then x else c.mark
      barDue := bar
      phraseDue := phrase } := by
  have nonePulse : (c.pulseOwed || (decide (c.cfg.function = .bar ∨ c.cfg.function = .phrase) &&
      startCrossed c.cfg.function l c.mark x && !quiet)) = c.pulseOwed := by simp [code]
  rw [crossings_eq, nonePulse]
  exact ⟨_, _, rfl⟩

theorem thirds_eq (r : CodeRate) : r.thirds = match r with | .r38400 => 75 | .r57600 => 50 | .r115200 => 25 := by
  cases r <;> rfl

section
variable {s : State} {n : Fin 16}

theorem gateDue_of (gate : (s.chan n).cfg.function = .gate) (differs : s.gateWanted n ≠ (s.chan n).level)
    (lapsed : ∀ t, (s.chan n).lastChange = some t → 960 ≤ since s.clock t) : s.gateDue n = true := by
  simp only [State.gateDue, gate, Bool.and_eq_true, beq_iff_eq, bne_iff_ne]
  refine ⟨⟨trivial, differs⟩, ?_⟩
  cases last : (s.chan n).lastChange with
  | none => rfl
  | some t => simpa using lapsed t last

theorem completeEvaluation_of_tickCode (code : (s.chan n).cfg.function = .code) (unmuted : s.muted n = false)
    (owed : 0 < ahead (s.targetCount n) (s.chan n).emitted) (slot : (s.chan n).slot = none)
    (room : (s.chan n).fifo.length + (s.crossed n).tickCodes.length ≤ 8) :
    s.tickCodeDue n = true ∧ s.completeEvaluation n = s.setChan n { s.chan n with
      fifo := (s.chan n).fifo ++ (s.crossed n).tickCodes
      barDue := false
      phraseDue := false
      emitted := (s.chan n).emitted + 1
      mark := if 0 < ahead (s.projection n).beat (s.chan n).mark then (s.projection n).beat else (s.chan n).mark
      owing := decide (0 < ahead (s.targetCount n) ((s.chan n).emitted + 1))
      evaluated := true
      evalLead := none } := by
  obtain ⟨bar, phrase, crossed⟩ := crossings_of_code code (s.laneOf n) (s.projection n).beat (s.quiet n)
  change s.crossed n = _ at crossed
  have due : s.tickCodeDue n = true := by
    simp only [State.tickCodeDue]
    rw [crossed] at room ⊢
    simp [code, unmuted, owed, slot]
    exact room
  have noTick : s.tickPulseDue n = false := by simp [State.tickPulseDue, code]
  have noBar : s.barPulseDue n = false := by simp [State.barPulseDue, crossed, code]
  refine ⟨due, completeEvaluation_eq (c := { s.crossed n with
    fifo := (s.crossed n).fifo ++ (s.crossed n).tickCodes
    barDue := false
    phraseDue := false
    emitted := (s.crossed n).emitted + 1 }) ?_ |>.trans ?_⟩
  · rw [noTick, noBar, due]
    rfl
  · rw [crossed]

theorem slotDue_of {item : SlotItem} (slot : (s.chan n).slot = some item) (unmuted : s.muted n = false)
    (room : (s.chan n).fifo.length + item.codes.length ≤ 8) : s.slotDue n = true := by
  simp [State.slotDue, slot, unmuted, room]

end

/-! ## The pin (R101, R122) -/

theorem pin_of_running {s : State} (running : s.mode = .running) (n : Fin 16) : s.pin n = (s.chan n).pin := by
  simp only [State.pin, running]

theorem pin_of_line {c : Channel} (line : c.cfg.function ≠ .code) :
    c.pin = if c.cfg.polarity = .normal then c.level else !c.level := by
  rw [Channel.pin, if_neg line]
  cases c.cfg.polarity <;> rfl

theorem pin_of_code {c : Channel} (code : c.cfg.function = .code) : c.pin = c.tx.level := if_pos code

/-- A channel that is disabled is idle, whatever its function. -/
theorem pin_disabledBy (c : Channel) (cfg : ChannelConfig) (now : Nat) :
    (c.disabledBy cfg now).pin = decide (cfg.function = .code ∨ cfg.polarity = .inverted) := by
  by_cases code : cfg.function = .code
  · rw [pin_of_code (c := c.disabledBy cfg now) code]
    simp [code, Channel.disabledBy, CodeTx.level]
  · rw [pin_of_line (c := c.disabledBy cfg now) code]
    change (if cfg.polarity = .normal then false else !false) = _
    cases cfg.polarity <;> simp [code]

/-- The line is left alone, with the settings but for the lane. -/
def Channel.keepsLine (c : Channel) (cfg : ChannelConfig) (d : Channel) : Prop :=
  d.level = c.level ∧ d.cfg.function = cfg.function ∧ d.cfg.polarity = cfg.polarity

theorem remark_level (c : Channel) (old : Position) (y : U32) : (c.remark old y).level = c.level := by
  unfold Channel.remark
  split <;> rfl

theorem keepsLine_movedTo {c d : Channel} {cfg : ChannelConfig} (h : c.keepsLine cfg d) (x : LaneId) (l : Lane)
    (old : Position) : c.keepsLine cfg (d.movedTo x l old) := by
  obtain ⟨level, function, polarity⟩ := h
  unfold Channel.movedTo
  exact ⟨(remark_level ..).trans level, (congrArg ChannelConfig.function (remark_cfg ..)).trans function,
    (congrArg ChannelConfig.polarity (remark_cfg ..)).trans polarity⟩

theorem keepsLine_laneChange {s : State} {n : Fin 16} {c : Channel} {cfg : ChannelConfig}
    (h : c.keepsLine cfg (s.chan n)) (x : LaneId) : c.keepsLine cfg ((s.laneChange n x).chan n) := by
  have moved := keepsLine_movedTo h x (s.lane x) (s.projection n)
  rw [laneChange_eq]
  dsimp only
  split
  · rw [chan_leaveHandover, chan_setChan_same]
    exact moved
  · rw [chan_leaveBreak, chan_leaveHandover, chan_setChan_same]
    exact moved

/-- A configuration that keeps the function leaves the line's level (R105). -/
theorem keepsLine_applyConfig {s : State} {n : Fin 16} {cfg : ChannelConfig} {at_ : ApplyAt}
    (was : (s.chan n).cfg.enabled = true) (on : cfg.enabled = true)
    (same : cfg.function = (s.chan n).cfg.function) :
    (s.chan n).keepsLine cfg ((s.applyConfig n cfg at_).chan n) := by
  have placed (t : State) (new : ChannelConfig) (h : (s.chan n).keepsLine cfg (t.chan n)) :
      (s.chan n).keepsLine cfg ((t.placed n (s.chan n).cfg new at_).chan n) := by
    unfold State.placed
    split
    · exact keepsLine_laneChange h _
    · split
      · split
        · rw [chan_modChan_same]
          exact h
        · rw [State.reoriginAhead, chan_modChan_same]
          exact h
      · split
        · rw [State.reoriginAhead, chan_modChan_same]
          exact h
        · exact h
      · exact h
  have reconfigured (new : ChannelConfig) (function : new.function = cfg.function)
      (polarity : new.polarity = cfg.polarity) :
      (s.chan n).keepsLine cfg ((s.reconfigure n new at_).chan n) := by
    rw [reconfigure_eq]
    refine placed _ new ?_
    rw [chan_setChan_same, State.refitted, if_pos (same.symm.trans function.symm)]
    exact ⟨rfl, function, polarity⟩
  have enabled (lane : LaneId) : (if at_ = .switch then { cfg with lane := lane } else cfg).enabled = true := by
    split <;> exact on
  simp only [State.applyConfig, was, enabled]
  split <;> exact reconfigured _ rfl rfl

theorem chan_applyConfig_of_disable {s : State} {n : Fin 16} {cfg : ChannelConfig} (at_ : ApplyAt)
    (was : (s.chan n).cfg.enabled = true) (off : cfg.enabled = false) : ∃ lane,
      (s.applyConfig n cfg at_).chan n = (s.chan n).disabledBy { cfg with lane := lane } s.clock := by
  have disabled (lane : LaneId) : (if at_ = .switch then { cfg with lane := lane } else cfg).enabled = false := by
    split <;> exact off
  simp only [State.applyConfig, was, disabled, disableChannel_eq, chan_setChan_same]
  split
  · exact ⟨_, rfl⟩
  · exact ⟨cfg.lane, rfl⟩

/-- Settles O45: each event's test with what it does to the channel's record, and the pin by the record. -/
theorem gatesAndCodeLines : Obligations.GatesAndCodeLines := by
  refine ⟨?gates, ?codes, ?pins⟩
  case gates =>
    intro s n c wanted running done gate differs lapsed
    exact congrArg Host.Outcome.next (whenLive_of_due running (by rw [done, gateDue_of gate differs lapsed]; rfl))
  case codes =>
    intro s n running c thirds
    refine ⟨?tick, ?slot, ?charEnd, ?charBegin⟩
    case tick =>
      intro partFive code unmuted owed slot d codes room
      obtain ⟨due, completed⟩ := completeEvaluation_of_tickCode code unmuted owed slot room
      exact congrArg Host.Outcome.next ((whenLive_of_due running (by rw [partFive, due]; rfl)).trans completed)
    case slot =>
      intro item codes slot unmuted bytes room
      obtain rfl : codes = item.codes := bytes.trans (by cases item <;> rfl)
      refine congrArg Host.Outcome.next ((whenLive_of_due running (slotDue_of slot unmuted room)).trans ?_)
      simp only [State.modChan, Channel.moveSlot, show (s.chan n).slot = _ from slot]
      rfl
    case charEnd =>
      intro ch age len tx ended
      have due : (s.chan n).charEnded = true := by simpa [Channel.charEnded, show (s.chan n).tx = _ from tx] using ended
      refine congrArg Host.Outcome.next ((whenLive_of_due running due).trans (congrArg (s.setChan n) ?_))
      simp only [Channel.endChar, Channel.takeChar, show (s.chan n).tx = _ from tx, thirds_eq]
      change _ = match (s.chan n).fifo with | [] => _ | next :: rest => _
      cases (s.chan n).fifo <;> rfl
    case charBegin =>
      intro next rest idle fifo
      have due : (s.chan n).charDue = true := by
        simp [Channel.charDue, show (s.chan n).tx = _ from idle, show (s.chan n).fifo = _ from fifo]
      refine congrArg Host.Outcome.next ((whenLive_of_due running due).trans (congrArg (s.setChan n) ?_))
      simp only [Channel.takeChar, show (s.chan n).fifo = _ from fifo, thirds_eq]
      rfl
  case pins =>
    intro s n running c
    have applied (cfg : ChannelConfig) (at_ : ApplyAt) : (s.applyConfig n cfg at_).mode = .running :=
      (works_applyConfig s n cfg at_).mode.trans running
    refine ⟨fun line => (pin_of_running running n).trans (pin_of_line line), fun code idle => ?_,
      fun ch age len bit code tx lt low high => ?_, fun cfg at_ was off => ?_,
      fun cfg at_ was on same noCode polarity => ?_⟩
    · rw [pin_of_running running, pin_of_code code, show (s.chan n).tx = _ from idle]
      rfl
    · have index : age * 10 / len = bit := Nat.div_eq_of_lt_le (by omega) (by omega)
      rw [pin_of_running running, pin_of_code code, show (s.chan n).tx = _ from tx, CodeTx.level, index]
      exact charLevel_eq ch lt
    · obtain ⟨lane, disabled⟩ := chan_applyConfig_of_disable at_ was off
      rw [pin_of_running (applied cfg at_), disabled]
      exact pin_disabledBy ..
    · obtain ⟨level, function, shown⟩ := keepsLine_applyConfig (at_ := at_) was on same
      rw [pin_of_running (applied cfg at_), pin_of_running running, pin_of_line (by rw [function]; exact noCode),
        pin_of_line (by rw [← same]; exact noCode), level, shown]
      change cfg.polarity ≠ (s.chan n).cfg.polarity at polarity
      revert polarity
      cases cfg.polarity <;> cases (s.chan n).cfg.polarity <;> simp

end Sys2Proof.Machine

/-! What a configuration does to a channel beside its fields (O43). -/

namespace Sys2Proof.Machine

theorem remark_eq (c : Channel) (old : Position) (y : U32) : c.remark old y = { c with
    brk := match c.brk with
      | some ⟨q, .inBreak beats _⟩ => some ⟨q, .inBreak beats (if 2 ^ 47 ≤ old.phase.toNat then y - 1 else y)⟩
      | other => other } := by
  unfold Channel.remark
  rcases brk : c.brk with _ | ⟨q, once | ⟨beats, mark⟩⟩ <;> simp [← brk]

/-- The fresh mark leaves the membership's record. -/
theorem remark_record (c : Channel) (old : Position) (y : U32) :
    (c.remark old y).brk.map (·.record) = c.brk.map (·.record) := by
  rw [remark_eq]
  rcases c.brk with _ | ⟨q, once | ⟨beats, mark⟩⟩ <;> rfl

theorem applyConfig_of_enabled {s : State} {n : Fin 16} {cfg : ChannelConfig} {at_ : ApplyAt}
    (was : (s.chan n).cfg.enabled = true) (on : cfg.enabled = true) (noSwitch : at_ ≠ .switch) :
    s.applyConfig n cfg at_ = s.reconfigure n cfg at_ := by
  simp only [State.applyConfig, was, if_neg noSwitch, on]

theorem applyConfig_of_disabling {s : State} {n : Fin 16} {cfg : ChannelConfig} {at_ : ApplyAt}
    (was : (s.chan n).cfg.enabled = true) (off : cfg.enabled = false) (noSwitch : at_ ≠ .switch) :
    s.applyConfig n cfg at_ = s.disableChannel n cfg := by
  simp only [State.applyConfig, was, if_neg noSwitch, off]

section
variable {s : State} {n : Fin 16} {cfg : ChannelConfig} {at_ : ApplyAt}

/-- The lane that a channel keeps is not changed with its settings. -/
theorem with_lane {lane : LaneId} (h : cfg.lane = lane) : ({ cfg with lane := lane } : ChannelConfig) = cfg := by
  subst h
  rfl

theorem refitted_of_same (same : cfg.function = (s.chan n).cfg.function) : s.refitted n cfg =
    Channel.marksKept { s.chan n with cfg := { cfg with lane := (s.chan n).cfg.lane } } cfg := by
  rw [State.refitted, if_pos same.symm]

theorem refitted_of_changed (changed : cfg.function ≠ (s.chan n).cfg.function) : s.refitted n cfg =
    Channel.marksKept ((s.chan n).functionChanged { cfg with lane := (s.chan n).cfg.lane } s.clock (s.halted n)) cfg := by
  rw [State.refitted, if_neg (Ne.symm changed)]

theorem placed_of_crossing {t : State} {old : ChannelConfig} (stays : cfg.lane = old.lane) (y : U32) :
    t.placed n old cfg (.crossing y old.lane) = t.setChan n ((t.chan n).reorigin ⟨y, 0⟩) := by
  rw [State.placed, if_neg (not_not.2 stays)]
  exact if_pos rfl

theorem placed_of_idle {t : State} {old : ChannelConfig} (stays : cfg.lane = old.lane)
    (grid : gridChange old cfg = true) (idle : (t.chan n).running = false)
    (stopped : (t.laneOf n).transport = .stopped) : t.placed n old cfg .acceptance =
      t.setChan n ((t.chan n).reorigin (boundaryFrom (t.laneOf n).pos)) := by
  have frozen : (t.chan n).aheadReference (t.laneOf n) = (t.laneOf n).pos := by
    rw [Channel.aheadReference, if_neg (by simp [Lane.isRunning, stopped])]
  rw [State.placed, if_neg (not_not.2 stays)]
  refine (if_pos (by simp [grid, idle])).trans ?_
  rw [State.reoriginAhead, State.modChan, frozen]

theorem movedTo_eq (c : Channel) (x : LaneId) (l : Lane) (old : Position) : c.movedTo x l old =
    let o := boundaryFrom (c.aheadReference l)
    { c with
      cfg := { c.cfg with lane := x }
      origin := o
      delta := c.emitted
      owing := false
      pulseOwed := false
      mark := o.beat - 1
      running := l.isRunning
      evalLead := if l.isRunning then c.evalLead else none
      slot := if c.cfg.function = .code ∧ l.isRunning = true ∧ c.running = false then some .start
        else if c.cfg.function = .code ∧ l.isRunning = false ∧ c.running = true then some .stop
        else c.slot
      brk := match c.brk with
        | some ⟨q, .inBreak beats _⟩ => some ⟨q, .inBreak beats (if 2 ^ 47 ≤ old.phase.toNat then o.beat - 1 else o.beat)⟩
        | other => other } := remark_eq ..

/-- A channel outside the handovers, its record given as `d`, that moves to another lane. -/
theorem laneChange_setChan {x : LaneId} {d : Channel} (plain : d.ho = none)
    (member : d.brk.map (·.record) = (s.chan n).brk.map (·.record)) : (s.setChan n d).laneChange n x =
    let m := d.movedTo x (s.lane x) (d.projectedOn (s.lane d.cfg.lane))
    if (s.lane x).isRunning then s.setChan n m else (s.breakLeft n .stop).setChan n { m with brk := none } := by
  rw [laneChange_eq]
  simp only [State.projection, State.laneOf, chan_setChan_same, lane_setChan, setChan_setChan]
  generalize moved : d.movedTo x (s.lane x) (d.projectedOn (s.lane d.cfg.lane)) = m
  have outside : m.ho = none := by rw [← moved, movedTo_eq]; exact plain
  have record : m.brk.map (·.record) = (s.chan n).brk.map (·.record) := by
    rw [← moved]
    exact (remark_record ..).trans member
  have stays : (s.setChan n m).leaveHandover n = s.setChan n m := by
    simp only [State.leaveHandover, chan_setChan_same, outside]
  rw [stays, leaveBreak_eq, chan_setChan_same, breakLeft_setChan record, setChan_setChan]

end

/-- Settles O43: each case's parts of a configuration, by the equations of P18's layer. -/
theorem configurationChangesOfAChannel : Obligations.ConfigurationChangesOfAChannel := by
  intro s n cfg at_ c t marks
  refine ⟨?lane, ?function, ?grid, ?off⟩
  case lane =>
    intro was on moves same noSwitch plain l old runs reference o moved
    have fitted : s.refitted n cfg = marks { c with cfg := { cfg with lane := c.cfg.lane } } := by
      rw [refitted_of_same same]
      rfl
    have eq : t = (s.setChan n (marks { c with cfg := { cfg with lane := c.cfg.lane } })).laneChange n cfg.lane := by
      rw [← fitted]
      exact (applyConfig_of_enabled was on noSwitch).trans ((reconfigure_eq ..).trans (if_pos moves))
    rw [laneChange_setChan (d := marks { c with cfg := { cfg with lane := c.cfg.lane } }) plain rfl] at eq
    refine ⟨fun run => (eq.trans (if_pos run)).trans (congrArg (s.setChan n) ((movedTo_eq ..).trans rfl)), fun halt => ?_⟩
    have stopped : ¬ l.isRunning = true := fun run => Bool.noConfusion (halt.symm.trans run)
    refine (eq.trans (if_neg stopped)).trans ?_
    rw [movedTo_eq]
    change (s.breakLeft n .stop).setChan n _ = match c.brk with | none => _ | some m => _
    unfold State.breakLeft
    change State.setChan (match c.brk with | none => _ | some m => _) n _ = _
    cases c.brk with
    | none => rfl
    | some m =>
      dsimp only
      cases s.brk m.record with
      | none => rfl
      | some b =>
        by_cases left : ∃ k, k ≠ n ∧ s.inBreakRecord m.record k = true
        · exact (congrArg (State.setChan · n _) (if_pos left)).trans (if_pos left).symm
        · refine (congrArg (State.setChan · n _) (if_neg left)).trans (Eq.trans ?_ (if_neg left).symm)
          exact (post_setChan ..).symm
  case function =>
    intro y was on stays changed crossing old
    subst crossing
    have eq : t = _ := (applyConfig_of_enabled was on ApplyAt.noConfusion).trans (reconfigure_eq ..)
    rw [eq, refitted_of_changed changed, placed_of_crossing stays, chan_setChan_same, setChan_setChan, with_lane stays]
    have pulse : c.cfg.function.isPulse = true ↔ old = .tick ∨ old = .bar ∨ old = .phrase := by
      change old.isPulse = true ↔ _
      cases old <;> simp [ChannelFunction.isPulse]
    simp only [Channel.functionChanged, show (s.chan n).cfg.function.isPulse = true ↔ _ from pulse]
    rfl
  case grid =>
    intro was on stays same grid idle stopped atAcceptance p
    subst atAcceptance
    have eq : t = _ := (applyConfig_of_enabled was on ApplyAt.noConfusion).trans (reconfigure_eq ..)
    have fitted : s.refitted n cfg = marks { c with cfg := cfg } := by
      rw [refitted_of_same same, with_lane stays]
      rfl
    have lane : (s.setChan n (marks { c with cfg := cfg })).laneOf n = s.lane cfg.lane := by
      simp only [State.laneOf, chan_setChan_same, lane_setChan, marks]
    rw [eq, fitted, placed_of_idle stays grid (by rw [chan_setChan_same]; exact idle) (by rw [lane]; exact stopped),
      chan_setChan_same, setChan_setChan, lane]
    rfl
  case off =>
    intro was off noSwitch turned broken left
    have eq : t = _ := (applyConfig_of_disabling was off noSwitch).trans (disableChannel_eq ..)
    rw [eq]
    have broken_eq : s.breakLeft n .cancel = broken := by
      unfold State.breakLeft
      change (match c.brk with | none => _ | some m => _) = match c.brk with | none => _ | some m => _
      cases c.brk with
      | none => rfl
      | some m =>
        dsimp only
        cases s.brk m.record <;> rfl
    have left_eq : (s.breakLeft n .cancel).handoverLeft n = left := by
      unfold State.handoverLeft
      rw [chan_breakLeft]
      change (match c.ho with | none => _ | some m => _) = match c.ho with | none => _ | some m => _
      cases c.ho with
      | none => exact broken_eq
      | some m =>
        dsimp only
        rw [ho_breakLeft]
        cases s.ho m.record with
        | none => exact broken_eq
        | some h =>
          have others : (∃ k, k ≠ n ∧ (s.breakLeft n .cancel).inHandoverRecord m.record k = true) ↔
              ∃ k, k ≠ n ∧ s.inHandoverRecord m.record k = true := by
            simp only [inHandoverRecord_eq, chan_breakLeft]
          dsimp only
          rw [broken_eq] at others ⊢
          exact if_congr others rfl rfl
    rw [left_eq]
    rfl

end Sys2Proof.Machine

/-! SET_CHANNEL (O41), and a CHANNEL entry applied at its crossing (O42). -/

namespace Sys2Proof.Machine

/-! ## SET_CHANNEL (R103, R104) -/

theorem gridChange_iff (c d : ChannelConfig) : gridChange c d = true ↔
    d.lane ≠ c.lane ∨ d.function ≠ c.function ∨ d.n ≠ c.n ∨ d.d ≠ c.d ∨ d.swing ≠ c.swing := by
  simp only [gridChange, Bool.or_eq_true, bne_iff_ne, or_assoc]
  simp only [ne_comm]

theorem gridChange_false {c d : ChannelConfig} (h : gridChange c d = false) :
    d.lane = c.lane ∧ d.function = c.function := by
  have same := (gridChange_iff c d).not.1 (by simp [h])
  simp only [not_or, not_not] at same
  exact ⟨same.1, same.2.1⟩

theorem takeFor_eq (c : Channel) (given : TakeMode) (cfg : ChannelConfig) : c.takeFor given cfg =
    if given = .immediate ∧ c.running = true ∧ cfg.enabled = true ∧ (cfg.lane ≠ c.cfg.lane ∨
      cfg.function ≠ c.cfg.function ∨ cfg.n ≠ c.cfg.n ∨ cfg.d ≠ c.cfg.d ∨ cfg.swing ≠ c.cfg.swing) then .nextBeat
    else given := by
  refine if_congr (and_congr_right fun _ => ?_) rfl rfl
  rw [Channel.becomesEntry, Bool.and_eq_true, Bool.and_eq_true, gridChange_iff, and_assoc]

section
variable {s : State} {p : List Byte} {n : Fin 16} {raw : ChannelConfig} {given : TakeMode} {lane : LaneId}
  (hn : indexOfByte 16 (byteAt p 0) = some n) (hraw : configAt p 1 = some raw) (hgiven : takeNoJoin p 15 = some given)
  (hlane : laneOfByte (byteAt p 17) = some lane)
include hn hraw hgiven hlane

theorem setChannel_of_member (member : raw.clamped.lane ≠ (s.chan n).cfg.lane ∧ (s.chan n).ho.isSome = true) :
    setChannel p s = refuse .busy s := by
  simp only [setChannel, hn, hraw, hgiven, hlane]
  exact if_pos member

variable (plain : ¬ (raw.clamped.lane ≠ (s.chan n).cfg.lane ∧ (s.chan n).ho.isSome = true))
include plain

theorem setChannel_of_schedulerBar {r : ResultCode}
    (bar : s.schedulerBar ((s.chan n).takeFor given raw.clamped) (s.chan n).cfg.lane = some r) :
    setChannel p s = refuse r s := by
  simp only [setChannel, hn, hraw, hgiven, hlane, bar]
  exact if_neg plain

theorem setChannel_of_accepted
    (bar : s.schedulerBar ((s.chan n).takeFor given raw.clamped) (s.chan n).cfg.lane = none) : setChannel p s =
      let out := scheduled s ((s.chan n).takeFor given raw.clamped) (s.chan n).cfg.lane (.channel n raw.clamped)
        (s.applyConfig n raw.clamped .acceptance)
      (out.1, .okOr (raw != raw.clamped) (out.2 ++ byte raw.clamped.swing ++ bytesOf 3 raw.clamped.lead ++
        byte raw.clamped.fixedMs)) := by
  rw [scheduled_eq s _ _ _ (·.applyConfig n raw.clamped .acceptance)]
  simp only [setChannel, hn, hraw, hgiven, hlane, bar]
  exact if_neg plain

end

section
variable {s : State} {tag : Byte} {p : List Byte} {n : Fin 16} {raw : ChannelConfig} {given take : TakeMode}
  {lane : LaneId} (h : RequestAtHead s 0x30 tag p) (hlen : p.length = 18)
  (hn : indexOfByte 16 (byteAt p 0) = some n) (hraw : configAt p 1 = some raw) (hgiven : takeNoJoin p 15 = some given)
  (hlane : laneOfByte (byteAt p 17) = some lane)
  (plain : ¬ (raw.clamped.lane ≠ (s.chan n).cfg.lane ∧ (s.chan n).ho.isSome = true))
  (take_eq : take = (s.chan n).takeFor given raw.clamped)
include h hlen hn hraw hgiven hlane plain take_eq

theorem setChannel_refused {r : Byte} (bar : schedulerRefusal s take (s.chan n).cfg.lane = some r) :
    exec .setChannel s = .next (answered s.takeHead 0x30 tag [r]) := by
  rw [schedulerRefusal_eq, take_eq, ← takeHead_schedulerBar] at bar
  obtain ⟨code, refused, rfl⟩ := Option.map_eq_some_iff.1 bar
  exact congrArg Host.Outcome.next (handle_refused h hlen
    (setChannel_of_schedulerBar (s := s.takeHead) hn hraw hgiven hlane plain refused))

theorem setChannel_accepted (bar : schedulerRefusal s take (s.chan n).cfg.lane = none) :
    exec .setChannel s = .next (
      let out := scheduled s.takeHead take (s.chan n).cfg.lane (.channel n raw.clamped)
        (s.takeHead.applyConfig n raw.clamped .acceptance)
      answered out.1 0x30 tag ((if raw ≠ raw.clamped then 0x01 else 0x00) ::
        (out.2 ++ [BitVec.ofNat 8 raw.clamped.swing] ++ bytesOf 3 raw.clamped.lead ++
          [BitVec.ofNat 8 raw.clamped.fixedMs]))) := by
  rw [schedulerRefusal_eq, take_eq, ← takeHead_schedulerBar] at bar
  refine congrArg Host.Outcome.next ((handle_anyPayload_of_requestAtHead setChannel h hlen).trans ?_)
  rw [setChannel_of_accepted (s := s.takeHead) hn hraw hgiven hlane plain (Option.map_eq_none_iff.1 bar), take_eq]
  dsimp only
  rw [okOr_payload]
  simp only [bne_iff_ne]
  rfl

end

/-! ## A configuration applied at acceptance (R105, R127, R128) -/

section
variable {s : State} {n : Fin 16} {cfg : ChannelConfig}

theorem applyConfig_of_enabling {at_ : ApplyAt} (was : (s.chan n).cfg.enabled = false) (on : cfg.enabled = true)
    (noSwitch : at_ ≠ .switch) : s.applyConfig n cfg at_ = s.enableChannel n cfg at_ := by
  simp only [State.applyConfig, was, if_neg noSwitch, on]

theorem enableChannel_of_running (at_ : ApplyAt) (runs : (s.lane cfg.lane).transport = .running) :
    s.enableChannel n cfg at_ = s.setChan n
      (Channel.startAt { s.chan n with cfg := cfg, evalLead := none } (at_.origin (s.lane cfg.lane))) := by
  unfold State.enableChannel
  refine (if_pos (isRunning_eq_true.2 runs)).trans ?_
  simp only [State.modChan, chan_setChan_same, setChan_setChan]

theorem enableChannel_of_stopped (at_ : ApplyAt) (stopped : (s.lane cfg.lane).transport = .stopped) :
    s.enableChannel n cfg at_ = s.setChan n (Channel.restartCounts
      { s.chan n with cfg := cfg, evalLead := none, running := false } (s.lane cfg.lane).pos) := by
  unfold State.enableChannel
  refine (if_neg (by rw [isRunning_eq_true, stopped]; exact Transport.noConfusion)).trans ?_
  simp only [State.modChan, chan_setChan_same, setChan_setChan]

/-- A channel that stays enabled on its grid takes the settings alone. -/
theorem applyConfig_of_same_grid (was : (s.chan n).cfg.enabled = true) (on : cfg.enabled = true)
    (same : gridChange (s.chan n).cfg cfg = false) :
    s.applyConfig n cfg .acceptance = s.setChan n (Channel.marksKept { s.chan n with cfg := cfg } cfg) := by
  obtain ⟨lane, function⟩ := gridChange_false same
  rw [applyConfig_of_enabled was on ApplyAt.noConfusion, reconfigure_eq, refitted_of_same function, with_lane lane,
    State.placed, if_neg (not_not.2 lane)]
  exact if_neg (by simp [same])

end

/-- Settles O41: R103's and R104's checks, then the scheduler's; a configuration at acceptance by what is enabled. -/
theorem setChannelRequest : Obligations.SetChannelRequest := by
  refine ⟨fun s tag p h hlen => ?_, fun s n cfg => ?_⟩
  · have refused {r : ResultCode} (e : setChannel p s.takeHead = refuse r s.takeHead) :
        exec .setChannel s = .next (answered s.takeHead 0x30 tag [BitVec.ofNat 8 r.value]) :=
      congrArg Host.Outcome.next (handle_refused h hlen e)
    cases hn : indexOfByte 16 (byteAt p 0) with
    | none => exact refused (by simp only [setChannel, hn]; rfl)
    | some n =>
      cases hraw : configAt p 1 with
      | none => exact refused (by simp only [setChannel, hn, hraw]; rfl)
      | some raw =>
        cases hgiven : takeNoJoin p 15 with
        | none => exact refused (by simp only [setChannel, hn, hraw, hgiven]; rfl)
        | some given =>
          cases hlane : laneOfByte (byteAt p 17) with
          | none => exact refused (by simp only [setChannel, hn, hraw, hgiven, hlane]; rfl)
          | some lane =>
            have take_eq := (takeFor_eq (s.chan n) given raw.clamped).symm
            by_cases member : raw.clamped.lane ≠ (s.chan n).cfg.lane ∧ (s.chan n).ho.isSome = true
            · exact (refused (setChannel_of_member hn hraw hgiven hlane member)).trans
                (congrArg Host.Outcome.next (if_pos member).symm)
            · refine Eq.trans ?_ (congrArg Host.Outcome.next (if_neg member).symm)
              split
              · next r bar => exact setChannel_refused h hlen hn hraw hgiven hlane member take_eq bar
              · next bar => exact setChannel_accepted h hlen hn hraw hgiven hlane member take_eq bar
  · intro c l t
    refine ⟨fun was on runs => ?_, fun was on stopped => ?_, fun was off => ?_, fun was on same => ?_⟩
    · exact (applyConfig_of_enabling was on ApplyAt.noConfusion).trans (enableChannel_of_running .acceptance runs)
    · exact (applyConfig_of_enabling was on ApplyAt.noConfusion).trans (enableChannel_of_stopped .acceptance stopped)
    · simp only [t, State.applyConfig, show (s.chan n).cfg.enabled = false from was, reduceCtorEq, if_false, off]
      rfl
    · exact applyConfig_of_same_grid was on same

/-! ## CHANNEL entries at their crossings (R76, R105, R108) -/

theorem lane_setBrk (s : State) (r : Fin 4) (b : Option BreakRecord) (x : LaneId) : (s.setBrk r b).lane x = s.lane x := by
  cases x <;> rfl

theorem lane_finishBreak (s : State) (r : Fin 4) (x : LaneId) : (s.finishBreak r).lane x = s.lane x := by
  unfold State.finishBreak
  split
  · rfl
  · split
    · rw [lane_post, lane_setBrk]
    · rfl

theorem lane_countBeats (s : State) (n : Fin 16) (x : LaneId) : (s.countBeats n).lane x = s.lane x := by
  rcases countBeats_cases s n with ⟨y, complete, -, ended⟩ | ⟨-, counted⟩ | same
  · rw [ended, State.endMember]
    split
    · rfl
    · rw [lane_finishBreak]
      split
      · rw [State.modBrk, lane_setBrk, lane_modChan]
      · rw [lane_modChan]
  · rw [counted, State.countBreak]
    split
    · dsimp only
      split
      · rw [lane_modChan]
      · rfl
    · rfl
  · rw [same]

theorem keepLead_eq (c : Channel) (lead : Nat) : c.keepLead lead = { c with
    evalLead := if c.running = true ∧ c.evaluated = false ∧ lead ≠ c.cfg.lead then some (c.evalLead.getD c.cfg.lead)
      else c.evalLead } := by
  unfold Channel.keepLead
  by_cases keeps : c.running = true ∧ c.evaluated = false ∧ lead ≠ c.cfg.lead
  · rw [if_pos keeps, if_pos (by simpa [and_assoc] using keeps)]
    rfl
  · rw [if_neg keeps, if_neg (by simpa [and_assoc] using keeps)]

theorem movesLane_iff (s : State) (n : Fin 16) (cfg : ChannelConfig) : s.movesLane n cfg = true ↔
    (s.chan n).cfg.enabled = true ∧ cfg.enabled = true ∧ cfg.lane ≠ (s.chan n).cfg.lane := by
  simp [State.movesLane, and_assoc]

/-- The lanes that an entry's application reads have made their work of the step. -/
theorem entrySettled_channel {s : State} {n : Fin 16} {e : Entry} {cfg : ChannelConfig} (change : e.change = .channel n cfg)
    (settled : s.entrySettled n e = true) : s.settledLane e.timing = true ∧
      ((s.chan n).cfg.enabled = true → s.settledLane (s.chan n).cfg.lane = true) ∧
      (cfg.enabled = true → s.settledLane cfg.lane = true) := by
  simp only [State.entrySettled, change, Bool.and_eq_true, Bool.or_eq_true, Bool.not_eq_true'] at settled
  obtain ⟨⟨timing, own⟩, named⟩ := settled
  exact ⟨timing, fun on => own.resolve_left (by simp [on]), fun on => named.resolve_left (by simp [on])⟩

/-- A channel that stays enabled on the timing lane with its function is re-origined at the due beat. -/
theorem applyConfig_at_crossing {s : State} {n : Fin 16} {cfg : ChannelConfig} (was : (s.chan n).cfg.enabled = true)
    (on : cfg.enabled = true) (stays : cfg.lane = (s.chan n).cfg.lane) (same : cfg.function = (s.chan n).cfg.function)
    (y : U32) : s.applyConfig n cfg (.crossing y (s.chan n).cfg.lane) =
      s.setChan n ((Channel.marksKept { s.chan n with cfg := cfg } cfg).reorigin ⟨y, 0⟩) := by
  rw [applyConfig_of_enabled was on ApplyAt.noConfusion, reconfigure_eq, placed_of_crossing stays,
    refitted_of_same same, with_lane stays, chan_setChan_same, setChan_setChan]

/-- Settles O42: the crossing carried out, what its configuration is in the two cases, and the leads of the further
entries. -/
theorem channelEntryAppliesAtItsCrossing : Obligations.ChannelEntryAppliesAtItsCrossing := by
  intro s n e cfg y running crossing change due_ moves u c due kept gone t
  obtain ⟨-, reached, settled⟩ := crossingDue_some s crossing
  obtain ⟨timing, own, named⟩ := entrySettled_channel change settled
  have chan : gone.chan n = kept := chan_setChan_same ..
  have applied : s.applyCrossing n e = t := by
    have counted : (if s.movesLane n cfg = true then s.countBeats n else s) = u :=
      if_congr (movesLane_iff s n cfg) rfl rfl
    simp only [State.applyCrossing, change, due_]
    rw [counted, State.modChan, keepLead_eq]
    rfl
  have lane (x : LaneId) : gone.lane x = s.lane x := by
    change ((u.removeEntry e.id).setChan n kept).lane x = _
    rw [lane_setChan, lane_removeEntry]
    change (if moves then s.countBeats n else s).lane x = _
    split
    · exact lane_countBeats s n x
    · rfl
  obtain ⟨lead, ids⟩ := applyCrossing_lead_reached s change due_
  rw [applied] at lead ids
  refine ⟨?_, fun was on here there same => ?_, fun was on runs => ?_, timing, fun on => own ?_, named, ?_, lead,
    fun k member other ready waiting => ?_, fun k z dueAt out => ?_⟩
  · refine congrArg Host.Outcome.next ((whenLive_of_due running rfl).trans ?_)
    rw [crossing]
    exact applied
  · have eq := applyConfig_at_crossing (s := gone) (n := n) (cfg := cfg) (by rw [chan]; exact was) on
      (by rw [chan]; exact there.trans here.symm) (by rw [chan]; exact same) y
    rw [chan, show kept.cfg.lane = e.timing from here] at eq
    exact eq
  · have eq := (applyConfig_of_enabling (at_ := .crossing y e.timing) ((congrArg (·.cfg.enabled) chan).trans was) on
      ApplyAt.noConfusion).trans (enableChannel_of_running _ (by rw [lane]; exact runs))
    rw [chan] at eq
    exact eq
  · by_cases leaves : moves
    · exact leaves.1
    · exact (congrArg (fun v => (State.chan v n).cfg.enabled) (if_neg leaves)).symm.trans on
  · simp only [State.entryReached, due_] at reached
    exact reached
  · have beside : (s.reachedBeside n e).contains k.id = true := by
      simp only [State.reachedBeside, List.contains_iff_mem, List.mem_map, List.mem_filter]
      exact ⟨k, ⟨member, by simp [other, ready, waiting]⟩, rfl⟩
    unfold State.entryReached at waiting ⊢
    split at waiting
    · simp only [ids, beside, Bool.true_or]
    · cases waiting
  · simp only [State.entryReached, dueAt]
    rw [lead, ids]
    have absent : (s.reachedBeside n e).contains k.id = false := by
      rw [List.contains_eq_mem, decide_eq_false_iff_not]
      exact out
    rw [absent, Bool.false_or]

end Sys2Proof.Machine

/-! The advance of a lane, the counting of a boundary, and SILENT_BOUNDARY (O15). -/

namespace Sys2Proof.Machine

theorem setLane_setLane (s : State) (x : LaneId) (l m : Lane) : (s.setLane x l).setLane x m = s.setLane x m := by
  cases x <;> rfl

/-! ## The advance of a phase step (R11, R12, R20) -/

/-- The position that an advance without a carry reaches. -/
theorem advance_of_no_carry {p : Position} {v : Nat} (h : p.phase.toNat + v < 2 ^ 48) :
    p.advance v = ⟨p.beat, BitVec.ofNat 48 (p.phase.toNat + v)⟩ := by
  have beats : (p.phase.toNat + v) / beatUnits = 0 := Nat.div_eq_of_lt h
  simp [Position.advance, beats]

/-- Lane `x` at `pos` with the step's pull `a` taken. -/
def Lane.advanced (l : Lane) (pos : Position) (a : Int) : Lane := { l with
  pos := pos
  crossing := false
  copiedPull := 0
  residual := l.residual - a
  aligned := l.aligned || (decide (a ≠ 0) && decide ((l.residual - a).natAbs ≤ 2 ^ 40)) }

theorem advanceLane_eq (s : State) (x : LaneId) : s.advanceLane x =
    let l := s.lane x
    let a := pullAmount l.residual l.pullRate
    let t := s.setLane x (l.advanced (l.pos.advance l.stepAmount) a)
    if a ≠ 0 ∧ decide ((l.residual - a).natAbs ≤ 2 ^ 40) = true ∧ l.aligned = false then t.post (.aligned x) else t := by
  unfold State.advanceLane
  dsimp only
  by_cases still : pullAmount (s.lane x).residual (s.lane x).pullRate = 0
  · rw [if_pos still, if_neg (fun h => h.1 still)]
    simp [Lane.advanced, still]
  · rw [if_neg still, setResidual_false]
    simp only [lane_setLane_same, setLane_setLane]
    refine if_congr ?_ ?_ ?_
    · rw [decide_eq_true_iff, and_comm]
      exact (and_iff_right still).symm
    · simp [Lane.advanced, still]
    · simp [Lane.advanced, still]

/-! ## Counting (R22) -/

section
variable {l : Lane}

theorem count_of_within (h : l.beatInBar + 1 < l.beatsPerBar) : l.count = { l with beatInBar := l.beatInBar + 1 } :=
  if_pos h

theorem count_of_bar (h : ¬ l.beatInBar + 1 < l.beatsPerBar) (within : l.barInPhrase + 1 < l.barsPerPhrase) :
    l.count = { l with beatInBar := 0, barCount := l.barCount + 1, barInPhrase := l.barInPhrase + 1 } :=
  (if_neg h).trans (if_pos within)

theorem count_of_phrase (h : ¬ l.beatInBar + 1 < l.beatsPerBar) (last : ¬ l.barInPhrase + 1 < l.barsPerPhrase) :
    l.count = { l with
      beatInBar := 0
      barCount := l.barCount + 1
      barInPhrase := 0
      phraseCount := l.phraseCount + 1 } :=
  (if_neg h).trans (if_neg last)

end

/-! ## The work of a boundary (R20, R21) -/

section
variable {s : State} {x : LaneId}

theorem carries_iff (l : Lane) : l.carries = true ↔ 2 ^ 48 ≤ l.pos.phase.toNat + l.stepAmount := by
  simp [Lane.carries, beatUnits]

theorem announces_iff (l : Lane) : l.announces = true ↔
    2 ^ 48 ≤ l.pos.phase.toNat + l.stepAmount ∧ 0 < ahead (l.pos.advance l.stepAmount).beat l.high := by
  rw [Lane.announces, Bool.and_eq_true, carries_iff, decide_eq_true_iff]

theorem workLaneBy_of_settled {announce : State → LaneId → State} (settled : (s.lane x).crossing = false) :
    s.workLaneBy announce x = s := by
  simp [State.workLaneBy, settled]

theorem workLaneBy_of_announced {announce : State → LaneId → State} (runs : (s.lane x).transport = .running)
    (crossing : (s.lane x).crossing = true) (announces : (s.lane x).announces = true) :
    s.workLaneBy announce x = announce ((s.advanceLane x).ripenJoins (otherLane x)) x := by
  simp [State.workLaneBy, Lane.isRunning, runs, crossing, announces]

theorem workLaneBy_of_silent {announce : State → LaneId → State} (runs : (s.lane x).transport = .running)
    (crossing : (s.lane x).crossing = true) (silent : (s.lane x).announces = false)
    (carries : (s.lane x).carries = true) :
    s.workLaneBy announce x = ((s.advanceLane x).ripenJoins (otherLane x)).modLane x Lane.count := by
  simp [State.workLaneBy, Lane.isRunning, runs, crossing, silent, carries]

end

/-- Settles O15: the advance by its pull and carry, the counting by its three cases, and a boundary at or below H. -/
theorem laneAdvanceAndSilentBoundary : Obligations.LaneAdvanceAndSilentBoundary := by
  refine ⟨?_, fun l legal => ?_⟩
  · intro s x l a amount r near moved advanced
    have eq : s.advanceLane x = advanced (l.pos.advance amount) := advanceLane_eq s x
    refine ⟨fun stopped => ?_, fun runs carries => ?_, fun runs within => ?_, fun running runs crossing carries below => ?_⟩
    · exact if_neg (by rw [isRunning_eq_true, show (s.lane x).transport = _ from stopped]; exact Transport.noConfusion)
    · exact (if_pos (isRunning_eq_true.2 runs)).trans (if_pos ((carries_iff l).2 carries))
    · refine ((if_pos (isRunning_eq_true.2 runs)).trans (if_neg ?_)).trans ?_
      · rw [carries_iff]
        exact Nat.not_le.2 within
      · rw [eq, advance_of_no_carry within]
    · have silent : l.announces = false := Bool.eq_false_iff.2 fun h => absurd ((announces_iff l).1 h).2 (Int.not_lt.2 below)
      have carried : l.carries = true := (carries_iff l).2 carries
      refine congrArg Host.Outcome.next ((if_pos (live_of_running running)).trans ((if_pos ?_).trans ?_))
      · simp [Lane.isRunning, show (s.lane x).transport = _ from runs, show (s.lane x).crossing = _ from crossing,
          show (s.lane x).carries = _ from carried, show (s.lane x).announces = _ from silent]
      · rw [State.workLane, workLaneBy_of_silent runs crossing silent carried, eq]
  · obtain ⟨-, beat, bar⟩ := legal
    intro c
    refine ⟨fun within => count_of_within (by omega), fun last within => count_of_bar (by omega) (by omega),
      fun last phrase => count_of_phrase (by omega) (by omega), fun one => ?_, fun one single => ?_⟩
    · have last : ¬ l.beatInBar + 1 < l.beatsPerBar := by omega
      by_cases within : l.barInPhrase + 1 < l.barsPerPhrase
      · rw [show c = _ from count_of_bar last within]
        exact ⟨rfl, rfl⟩
      · rw [show c = _ from count_of_phrase last within]
        exact ⟨rfl, rfl⟩
    · rw [show c = _ from count_of_phrase (by omega) (by omega)]
      exact ⟨rfl, rfl⟩

end Sys2Proof.Machine

/-! ANNOUNCED_BOUNDARY of a FREE lane (O16). -/

namespace Sys2Proof.Machine

/-! ## A boundary made known to the handover unit (R146) -/

/-- Handover record `r` as a measurement leaves it (R146 to R148). -/
def State.measuredAs (s : State) (k : KnownBoundary) (at_ : U32) (r : Fin 4) : Option HandoverRecord :=
  (s.ho r).map fun h =>
    if h.toLane == k.lane && h.stage == .waitingAlign then
      let f := s.lane h.fromLane
      let res := interLaneResidual k h.alignLength f
      let h := { h with residual := some res }
      if res.natAbs ≤ h.window.units then
        let y := s.switchBeatFor r k.lane at_ h.alignLength
        { h with stage := .switchDue .aligned y (some (nearestBeat f.pos + (y - k.index))) }
      else if k.bar then
        if h.deadline ≤ 1 then
          { h with deadline := 0, stage := .switchDue .forced (s.switchBeatFor r k.lane at_ .bar) none }
        else { h with deadline := h.deadline - 1 }
      else h
    else h

theorem setHo_ho (s : State) (r : Fin 4) : s.setHo r (s.ho r) = s := by simp [State.setHo, State.ho]

theorem measure_eq (s : State) (k : KnownBoundary) (at_ : U32) (r : Fin 4) :
    s.measure k at_ r = s.setHo r (s.measuredAs k at_ r) := by
  unfold State.measure State.measuredAs
  cases record : s.ho r with
  | none =>
    have same : s.setHo r none = s := by rw [← record]; exact setHo_ho s r
    exact same.symm
  | some h =>
    have same : s.setHo r (some h) = s := by rw [← record]; exact setHo_ho s r
    rw [Option.map_some]
    dsimp only
    split
    · split
      · rfl
      · split
        · split <;> rfl
        · rfl
    · exact same.symm

theorem measuredAs_with (s : State) (queue : List Entry) (link : Link) (k : KnownBoundary) (at_ : U32) (r : Fin 4) :
    ({ s with queue := queue, link := link } : State).measuredAs k at_ r = s.measuredAs k at_ r := by
  have switchBeat (x : LaneId) (len : AlignLength) :
      ({ s with queue := queue, link := link } : State).switchBeatFor r x at_ len = s.switchBeatFor r x at_ len := by
    unfold State.switchBeatFor
    rfl
  unfold State.measuredAs
  simp only [switchBeat]
  rfl

theorem measureAll_frame (s : State) (k : KnownBoundary) (at_ : U32) : ∃ handovers,
    s.measureAll k at_ = { s with handovers := handovers } := by
  refine foldl_keeps (P := fun t => ∃ handovers, t = { s with handovers := handovers }) s allRecords ?_ ⟨_, rfl⟩
  rintro t r - ⟨handovers, rfl⟩
  split
  · exact ⟨_, rfl⟩
  · rw [measure_eq]
    exact ⟨_, rfl⟩

/-- The measurements read the lanes, the channels and the records alone, and change the records alone. -/
theorem measureAll_with (s : State) (k : KnownBoundary) (at_ : U32) (queue : List Entry) (link : Link) :
    ({ s with queue := queue, link := link } : State).measureAll k at_ =
      { s with queue := queue, link := link, handovers := (s.measureAll k at_).handovers } := by
  generalize withs : (fun t : State => { t with queue := queue, link := link }) = g
  have measured (t : State) (r : Fin 4) : (g t).measure k at_ r = g (t.measure k at_ r) := by
    rw [← withs, measure_eq, measuredAs_with, measure_eq]
    rfl
  have step (t : State) (r : Fin 4) : (if r ∈ k.later then g t else (g t).measure k at_ r) =
      g (if r ∈ k.later then t else t.measure k at_ r) := by
    rw [apply_ite g, measured]
  have hom : (g s).measureAll k at_ = g (s.measureAll k at_) := List.foldl_hom (l := allRecords) (init := s) g
    (g₁ := fun t r => if r ∈ k.later then t else t.measure k at_ r) step
  obtain ⟨handovers, only⟩ := measureAll_frame s k at_
  rw [only] at hom ⊢
  subst withs
  exact hom

/-! ## Notices of a boundary (R26) -/

section
variable {s t : State} {x : LaneId} {f : BoundaryFacts}

theorem postBarPhrase_frame : s.postBarPhrase x f = { s with link := (s.postBarPhrase x f).link } := by
  have after (u : State) (n : NoticeBody) (p : Bool) (h : u = { s with link := u.link }) :
      (if p = true then u.post n else u) = { s with link := (if p = true then u.post n else u).link } := by
    cases p with
    | false => exact h
    | true =>
      refine (post_eq_modLink n).trans ?_
      rw [h]
      rfl
  exact after _ _ _ (after s _ _ rfl)

theorem postBarPhrase_link_congr (link : t.link = s.link) (clock : t.clock = s.clock) :
    (t.postBarPhrase x f).link = (s.postBarPhrase x f).link := by
  have step {u v : State} (same : u.link = v.link ∧ u.clock = v.clock) (n : NoticeBody) (p : Bool) :
      (if p = true then u.post n else u).link = (if p = true then v.post n else v).link ∧
        (if p = true then u.post n else u).clock = (if p = true then v.post n else v).clock := by
    cases p with
    | false => exact same
    | true => exact ⟨post_link_congr same.1 same.2 n, by simpa using same.2⟩
  exact (step (step ⟨link, clock⟩ _ _) _ _).1

theorem postBarPhrase_clock : (s.postBarPhrase x f).clock = s.clock := by rw [postBarPhrase_frame]

end

/-- Part 7 of a boundary that waits for no other lane (R23, R146). -/
theorem partSeven_alone {s : State} {x : LaneId} (settled : (s.lane (otherLane x)).crossing = false)
    (f : BoundaryFacts) (at_ : U32) : s.partSeven x f at_ = { s with
      handovers := (s.measureAll ⟨x, f.index, f.bar, (s.lane x).beatInBar, (s.lane x).barInPhrase,
        (s.lane x).beatsPerBar, (s.lane x).pos.phase, []⟩ at_).handovers
      bus := if s.bus.settings.lead = some x then { s.bus with request := some ⟨.boundary f.index, false, false, false⟩ }
        else s.bus
      link := (s.postBarPhrase x f).link } := by
  have posted : s.postBarPhrase x f = { s with queue := s.queue, link := (s.postBarPhrase x f).link } :=
    postBarPhrase_frame
  have lane (z : LaneId) : (s.postBarPhrase x f).lane z = s.lane z := by
    rw [posted]
    cases z <;> rfl
  unfold State.partSeven State.makeKnown
  simp only [lane, settled]
  rw [posted, if_neg Bool.false_ne_true, measureAll_with]
  unfold State.leadRequest
  split <;> rfl

/-! ## Parts 1 to 3 without an entry (R6, R22, R23) -/

theorem boundaryEntries_of_none {s : State} {x : LaneId} {y : U32} (free : ∀ e ∈ s.queue, e.dueAt x y = false)
    (fuel : Nat) : State.boundaryEntries x y fuel s = s := by
  have none_ : s.findEntry (·.dueAt x y) = none := List.find?_eq_none.2 fun e he => by simp [free e he]
  cases fuel with
  | zero => rfl
  | succ n => simp only [State.boundaryEntries, none_]

/-- The joins that ripen fall due at no boundary of a lane. -/
theorem ripenJoins_dueAt {s : State} {x z : LaneId} {y : U32} (free : ∀ e ∈ s.queue, e.dueAt x y = false) :
    ∀ e ∈ (s.ripenJoins z).queue, e.dueAt x y = false := by
  intro e he
  obtain ⟨d, hd, rfl⟩ := List.mem_map.1 he
  split
  · simp [Entry.dueAt]
  · exact free d hd

theorem count_with_glideDue (l : Lane) (due : Bool) :
    ({ l with glideDue := due } : Lane).count = { l.count with glideDue := due } := by
  unfold Lane.count
  dsimp only
  split
  · rfl
  · split <;> rfl

/-- Counting changes the counters alone. -/
theorem count_frame (l : Lane) : l.count = { l with
    beatInBar := l.count.beatInBar
    barInPhrase := l.count.barInPhrase
    barCount := l.count.barCount
    phraseCount := l.count.phraseCount } := by
  unfold Lane.count
  split
  · rfl
  · split <;> rfl

/-- A lane's record after the step of its glide at a boundary (R6). -/
def Lane.glided (l : Lane) : Lane :=
  match l.glide with
  | none => l
  | some g =>
    if g.index + 1 < g.length then { l with glide := some { g with index := g.index + 1 }, increment := g.at (g.index + 1) }
    else { l with glide := none, increment := g.target }

/-- The notice of a glide's last step (R6). -/
def State.postGlideDone (s : State) (x : LaneId) (l : Lane) : State :=
  match l.glide with
  | none => s
  | some g => if g.index + 1 < g.length then s else s.post (.glideDone x)

theorem glideStep_eq {s : State} {x : LaneId} (alone : (s.lane (otherLane x)).source ≠ .lane) :
    s.glideStep x = (s.setLane x (s.lane x).glided).postGlideDone x (s.lane x) := by
  unfold State.glideStep Lane.glided State.postGlideDone
  cases glide : (s.lane x).glide with
  | none => exact (setLane_lane s x).symm
  | some g =>
    dsimp only
    split
    · rw [setIncrement_of_not_followed (by rwa [lane_modLane_other]), modLane_modLane]
      rfl
    · rw [setIncrement_of_not_followed (by rwa [lane_modLane_other]), modLane_modLane]
      rfl

theorem postGlideDone_frame {s t : State} (link : t.link = s.link) (clock : t.clock = s.clock) (x : LaneId) (l : Lane) :
    t.postGlideDone x l = { t with link := (s.postGlideDone x l).link } := by
  unfold State.postGlideDone
  cases l.glide with
  | none => rw [← link]
  | some g =>
    dsimp only
    split
    · rw [← link]
    · rw [← post_link_congr link clock]
      exact post_eq_modLink _

/-- Parts 1 to 3 at a boundary at which no entry is due. -/
theorem openAnnounced_eq {s : State} {x : LaneId} {y : U32} (runs : (s.lane x).transport = .running)
    (free : ∀ e ∈ s.queue, e.dueAt x y = false) : s.openAnnounced x y =
      let t := s.setLane x (Lane.count { s.lane x with high := y, glideDue := false })
      if (s.lane x).glide.isSome = true then t.glideStep x else t := by
  have counted : (s.lane x).openBoundary y = { Lane.count { s.lane x with high := y, glideDue := false } with
      glideDue := (s.lane x).glide.isSome } :=
    count_with_glideDue { s.lane x with high := y, glideDue := false } _
  have frame := count_frame { s.lane x with high := y, glideDue := false }
  generalize Lane.count { s.lane x with high := y, glideDue := false } = l at counted frame
  have still : (s.modLane x (·.openBoundary y)).partTwo x y =
      s.setLane x { l with glideDue := (s.lane x).glide.isSome } := by
    rw [State.modLane, counted]
    exact boundaryEntries_of_none (by simpa using free) _
  have going : l.isRunning = true := by
    rw [frame]
    exact isRunning_eq_true.2 runs
  have same : { l with glideDue := false } = l := by rw [frame]
  simp only [State.openAnnounced, still, lane_setLane_same]
  rw [if_pos (show Lane.isRunning { l with glideDue := (s.lane x).glide.isSome } = true from going), State.partThree,
    lane_setLane_same]
  cases (s.lane x).glide with
  | none =>
    simp only [Option.isSome_none, Bool.false_eq_true, if_false]
    rw [same]
  | some g =>
    simp only [Option.isSome_some, if_true, State.modLane, lane_setLane_same, setLane_setLane]
    rw [same]

/-- Parts 1 to 3 at a boundary at which no entry is due, of a lane that the other one does not follow. -/
theorem openAnnounced_of_none {s : State} {x : LaneId} {y : U32} (runs : (s.lane x).transport = .running)
    (alone : (s.lane (otherLane x)).source ≠ .lane) (free : ∀ e ∈ s.queue, e.dueAt x y = false) :
    s.openAnnounced x y =
      let l := Lane.count { s.lane x with high := y, glideDue := false }
      (s.setLane x l.glided).postGlideDone x l := by
  have glide : (Lane.count { s.lane x with high := y, glideDue := false }).glide = (s.lane x).glide := by
    rw [count_frame]
  rw [openAnnounced_eq runs free]
  generalize Lane.count { s.lane x with high := y, glideDue := false } = l at glide
  dsimp only
  cases present : (s.lane x).glide with
  | none =>
    simp only [Option.isSome_none, Bool.false_eq_true, if_false]
    rw [State.postGlideDone, Lane.glided, glide, present]
  | some g =>
    simp only [Option.isSome_some, if_true]
    rw [glideStep_eq (by rwa [lane_setLane_other]), lane_setLane_same, setLane_setLane]

/-! ## The boundary of a FREE lane (R20 to R23) -/

theorem glided_frame (l : Lane) : l.glided = { l with glide := l.glided.glide, increment := l.glided.increment } := by
  unfold Lane.glided
  cases l.glide with
  | none => rfl
  | some g =>
    dsimp only
    split <;> rfl

/-- Parts 4 to 7 of a boundary of a FREE lane without a residual. -/
theorem announce_of_free {s u : State} {x : LaneId} {y : U32} (at_ : (s.lane x).pos.beat = y)
    (opened : s.openAnnounced x y = u) (runs : (u.lane x).isRunning = true) (high : (u.lane x).high = y)
    (source : (u.lane x).source = .free) (follow : (u.lane x).follow = .free) (still : (u.lane x).residual = 0) :
    s.announce x = u.partSeven x ((u.lane x).facts y) y := by
  have first : u.leaderFirst x = u := if_neg (by simp [source])
  have compared : u.followCompare x = u := by simp [State.followCompare, follow]
  have reduced : u.partFive x = u := if_neg (by simp [follow])
  have report (f : BoundaryFacts) : u.jumpAndReport x f = u.partSeven x f f.index := if_neg (by simp [still])
  simp only [State.announce, at_, opened, first, State.closeAnnounced, runs, high, compared, reduced, report]
  rfl

theorem measureKnown_of_none {s : State} (h : s.known = []) : s.measureKnown = s := by
  unfold State.measureKnown
  rw [h]
  exact congrArg (fun known => ({ s with known := known } : State)) h.symm

/-- Settles O16: the advance, the counting, the glide's step and the report, nothing else being due. -/
theorem announcedBoundaryOfFreeLane : Obligations.AnnouncedBoundaryOfFreeLane := by
  intro s x l amount y counted after glideDone bar phrase barPosted posted running runs crossing source follow still
    carries above unknown settled alone free
  have amount_eq : l.stepAmount = amount := by
    simp only [Lane.stepAmount, pullAmount, show l.residual = 0 from still, amount, Int.sign_zero, zero_mul, add_zero]
  have announces : l.announces = true := (announces_iff l).2 (by rw [amount_eq]; exact ⟨carries, above⟩)
  generalize advanced_eq : (s.advanceLane x).ripenJoins (otherLane x) = r
  have advanced : r = { s.setLane x { l with pos := l.pos.advance amount, crossing := false, copiedPull := 0 } with
      queue := (s.ripenJoins (otherLane x)).queue } := by
    rw [← advanced_eq, advanceLane_of_no_pull (by simp [pullAmount, show (s.lane x).residual = 0 from still]), show (s.lane x).stepAmount = amount from amount_eq]
    cases x <;> rfl
  have lane_r : r.lane x = { l with pos := l.pos.advance amount, crossing := false, copiedPull := 0 } := by
    rw [advanced]
    cases x <;> rfl
  have other_r : r.lane (otherLane x) = s.lane (otherLane x) := by
    rw [advanced]
    cases x <;> rfl
  have opened : r.openAnnounced x y = { s.setLane x after with
      queue := (s.ripenJoins (otherLane x)).queue, link := glideDone.link } := by
    have count : Lane.count { r.lane x with high := y, glideDue := false } = counted := by rw [lane_r]
    have glide : counted.glide = l.glide := by
      simp only [counted]
      rw [count_frame]
    have free_r : ∀ e ∈ r.queue, e.dueAt x y = false := by
      rw [advanced]
      exact ripenJoins_dueAt free
    refine (openAnnounced_of_none (by rw [lane_r]; exact runs) (by rw [other_r]; exact alone) free_r).trans ?_
    dsimp only
    rw [count, postGlideDone_frame (s := s) (by simp [advanced]) (by simp [advanced])]
    have after_eq : counted.glided = after := by
      simp only [Lane.glided, glide]
      rfl
    have done : (s.postGlideDone x counted).link = glideDone.link := by
      simp only [State.postGlideDone, glide]
      rfl
    rw [after_eq, done, advanced]
    cases x <;> rfl
  have kept : after = { counted with glide := after.glide, increment := after.increment } := by
    rw [← show counted.glided = after by
      have glide : counted.glide = l.glide := by
        simp only [counted]
        rw [count_frame]
      simp only [Lane.glided, glide]
      rfl]
    exact glided_frame counted
  have counted_eq : counted = { l with
      pos := l.pos.advance amount
      high := y
      crossing := false
      copiedPull := 0
      glideDue := false
      beatInBar := counted.beatInBar
      barInPhrase := counted.barInPhrase
      barCount := counted.barCount
      phraseCount := counted.phraseCount } := count_frame _
  generalize state : ({ s.setLane x after with
      queue := (s.ripenJoins (otherLane x)).queue, link := glideDone.link } : State) = u at opened
  have lane_u : u.lane x = after := by
    rw [← state]
    cases x <;> rfl
  have other_u : u.lane (otherLane x) = s.lane (otherLane x) := by
    rw [← state]
    cases x <;> rfl
  have announced : r.announce x = u.partSeven x (after.facts y) y := by
    have announced := announce_of_free (by rw [lane_r]) opened (by rw [lane_u, kept, counted_eq]; exact isRunning_eq_true.2 runs)
      (by rw [lane_u, kept, counted_eq]) (by rw [lane_u, kept, counted_eq]; exact source)
      (by rw [lane_u, kept, counted_eq]; exact follow) (by rw [lane_u, kept, counted_eq]; exact still)
    rwa [lane_u] at announced
  have worked : s.workLane x = u.partSeven x (after.facts y) y := by
    rw [← announced, ← advanced_eq]
    exact workLaneBy_of_announced runs crossing announces
  have first : (if (s.lane x).source = .lane then s.workLane (otherLane x) else s) = s :=
    if_neg (by rw [show (s.lane x).source = .free from source]; exact SourceKind.noConfusion)
  refine congrArg Host.Outcome.next ((if_pos (live_of_running running)).trans ?_)
  unfold State.announcedBoundary
  simp only [first]
  rw [if_pos (by simp [Lane.isRunning, show (s.lane x).transport = _ from runs, show (s.lane x).crossing = _ from crossing,
    show (s.lane x).announces = _ from announces]), worked, partSeven_alone (by rw [other_u]; exact settled)]
  have facts : after.facts y = ⟨y, bar, phrase, counted.barCount, counted.phraseCount⟩ := by
    rw [kept]
    simp [Lane.facts, bar, phrase, beq_eq_decide]
  have link : (u.postBarPhrase x (after.facts y)).link = posted.link := by
    have clock : glideDone.clock = s.clock := by
      have frame := congrArg State.clock (postGlideDone_frame (s := s) (t := s) rfl rfl x l)
      exact frame
    rw [facts, postBarPhrase_link_congr (s := glideDone) (by rw [← state]) (by rw [clock, ← state]; cases x <;> rfl)]
    rfl
  have measured : (u.measureAll ⟨x, y, bar, after.beatInBar, after.barInPhrase, after.beatsPerBar, after.pos.phase, []⟩
      y).handovers = ((s.setLane x after).measureAll
        ⟨x, y, bar, counted.beatInBar, counted.barInPhrase, counted.beatsPerBar, counted.pos.phase, []⟩ y).handovers := by
    rw [← state, measureAll_with]
    simp only [show after.beatInBar = counted.beatInBar by rw [kept], show after.barInPhrase = counted.barInPhrase by
      rw [kept], show after.beatsPerBar = counted.beatsPerBar by rw [kept], show after.pos = counted.pos by rw [kept]]
  rw [measureKnown_of_none, link, lane_u, facts]
  · rw [measured, ← state]
    cases x <;> rfl
  · rw [← state]
    simpa using unknown

end Sys2Proof.Machine

/-! The jumps of a lane (O18). -/

namespace Sys2Proof.Machine

/-! ## Counting many boundaries (R22, R25) -/

theorem uncount_frame (l : Lane) : l.uncount = { l with
    beatInBar := l.uncount.beatInBar
    barInPhrase := l.uncount.barInPhrase
    barCount := l.uncount.barCount
    phraseCount := l.uncount.phraseCount } := by
  unfold Lane.uncount
  split
  · rfl
  · split <;> rfl

/-- The step back undoes the counting of a boundary. -/
theorem uncount_count {l : Lane} (legal : l.countersLegal) : l.count.uncount = l := by
  obtain ⟨-, beat, bar⟩ := legal
  by_cases within : l.beatInBar + 1 < l.beatsPerBar
  · rw [count_of_within within]
    exact if_pos (Nat.succ_pos _)
  · have last : l.beatsPerBar - 1 = l.beatInBar := by omega
    by_cases barWithin : l.barInPhrase + 1 < l.barsPerPhrase
    · rw [count_of_bar within barWithin]
      refine (if_neg (Nat.lt_irrefl 0)).trans ((if_pos (Nat.succ_pos _)).trans ?_)
      simp [last]
    · rw [count_of_phrase within barWithin]
      refine (if_neg (Nat.lt_irrefl 0)).trans ((if_neg (Nat.lt_irrefl 0)).trans ?_)
      simp [last, show l.barsPerPhrase - 1 = l.barInPhrase by omega]

theorem countMany_succ (l : Lane) (n : Nat) : l.countMany (n + 1) = (l.countMany n).count := by
  induction n generalizing l with
  | zero => rfl
  | succ n ih => exact ih l.count

theorem uncountMany_countMany {l : Lane} (legal : l.countersLegal) (n : Nat) : (l.countMany n).uncountMany n = l := by
  induction n with
  | zero => rfl
  | succ n ih =>
    rw [countMany_succ, Lane.uncountMany, uncount_count ((countMany_keeps n l).2.2.1 legal), ih]

/-- A change of a lane that leaves its meter and its counters. -/
def Lane.KeepsCounters (f : Lane → Lane) : Prop :=
  ∀ l, (f l).count = f l.count ∧ (f l).uncount = f l.uncount

theorem countMany_comm {f : Lane → Lane} (keeps : Lane.KeepsCounters f) (l : Lane) (n : Nat) :
    (f l).countMany n = f (l.countMany n) := by
  induction n generalizing l with
  | zero => rfl
  | succ n ih => rw [Lane.countMany, (keeps l).1, ih, Lane.countMany]

theorem uncountMany_comm {f : Lane → Lane} (keeps : Lane.KeepsCounters f) (l : Lane) (n : Nat) :
    (f l).uncountMany n = f (l.uncountMany n) := by
  induction n generalizing l with
  | zero => rfl
  | succ n ih => rw [Lane.uncountMany, (keeps l).2, ih, Lane.uncountMany]

theorem keepsCounters_jumped (pos : Position) :
    Lane.KeepsCounters fun l => { l with pos := pos, residual := 0, aligned := true } := by
  intro l
  unfold Lane.count Lane.uncount
  constructor
  · dsimp only
    split
    · rfl
    · split <;> rfl
  · dsimp only
    split
    · rfl
    · split <;> rfl

theorem keepsCounters_moved (pos : Position) : Lane.KeepsCounters fun l => { l with pos := pos } := by
  intro l
  unfold Lane.count Lane.uncount
  constructor
  · dsimp only
    split
    · rfl
    · split <;> rfl
  · dsimp only
    split
    · rfl
    · split <;> rfl

theorem keepsCounters_opened (high : U32) (increment : Nat) (glide : Option Glide) (glideDue : Bool) :
    Lane.KeepsCounters fun l =>
      { l with high := high, increment := increment, glide := glide, glideDue := glideDue } := by
  intro l
  unfold Lane.count Lane.uncount
  constructor
  · dsimp only
    split
    · rfl
    · split <;> rfl
  · dsimp only
    split
    · rfl
    · split <;> rfl

/-! ## What the crossed boundaries leave unchanged (R23, R24) -/

/-- From `s` to `t` the lanes, the handover unit, the bus and the host link alone may have changed. -/
def OnlyReports (s t : State) : Prop := ∃ laneA laneB handovers known bus link, t = { s with
  laneA := laneA, laneB := laneB, handovers := handovers, known := known, bus := bus, link := link }

theorem OnlyReports.refl (s : State) : OnlyReports s s := ⟨_, _, _, _, _, _, rfl⟩

theorem OnlyReports.trans {s t u : State} (h : OnlyReports s t) (g : OnlyReports t u) : OnlyReports s u := by
  obtain ⟨_, _, _, _, _, _, rfl⟩ := h
  obtain ⟨_, _, _, _, _, _, rfl⟩ := g
  exact ⟨_, _, _, _, _, _, rfl⟩

theorem OnlyReports.ite {s t u : State} {p : Prop} [Decidable p] (h : OnlyReports s t) (g : OnlyReports s u) :
    OnlyReports s (if p then t else u) := by
  split
  · exact h
  · exact g

theorem OnlyReports.frame {s t : State} (h : OnlyReports s t) : t = { s with
    laneA := t.laneA, laneB := t.laneB, handovers := t.handovers, known := t.known, bus := t.bus, link := t.link } := by
  obtain ⟨_, _, _, _, _, _, rfl⟩ := h
  rfl

section
variable (s : State) (x : LaneId)

theorem reports_setLane (l : Lane) : OnlyReports s (s.setLane x l) := by cases x <;> exact ⟨_, _, _, _, _, _, rfl⟩

theorem reports_modLane (f : Lane → Lane) : OnlyReports s (s.modLane x f) := reports_setLane s x _

theorem reports_post (n : NoticeBody) : OnlyReports s (s.post n) := by
  rw [post_eq_modLink]
  exact ⟨_, _, _, _, _, _, rfl⟩

theorem reports_takeEstimate : OnlyReports s (s.takeEstimate x) := by
  unfold State.takeEstimate
  refine .ite ?_ (.refl s)
  split
  · exact reports_setLane s x _
  · exact .refl s

theorem reports_setIncrement (i : Nat) : OnlyReports s (s.setIncrement x i) :=
  (reports_modLane s x _).trans (.ite (reports_takeEstimate _ _) (.refl _))

theorem reports_glideStep : OnlyReports s (s.glideStep x) := by
  unfold State.glideStep
  split
  · exact .refl s
  · exact .ite ((reports_modLane s x _).trans (reports_setIncrement _ x _))
      ((reports_modLane s x _).trans ((reports_setIncrement _ x _).trans (reports_post _ _)))

theorem reports_postBarPhrase (f : BoundaryFacts) : OnlyReports s (s.postBarPhrase x f) := by
  rw [postBarPhrase_frame]
  exact ⟨_, _, _, _, _, _, rfl⟩

theorem reports_makeKnown (index at_ : U32) (bar : Bool) : OnlyReports s (s.makeKnown x index at_ bar) := by
  unfold State.makeKnown
  refine .ite ⟨_, _, _, _, _, _, rfl⟩ ?_
  obtain ⟨handovers, only⟩ := measureAll_frame s
    ⟨x, index, bar, (s.lane x).beatInBar, (s.lane x).barInPhrase, (s.lane x).beatsPerBar, (s.lane x).pos.phase, []⟩ at_
  rw [only]
  exact ⟨_, _, _, _, _, _, rfl⟩

theorem reports_leadRequest (kind : TxKind) : OnlyReports s (s.leadRequest x kind) :=
  .ite ⟨_, _, _, _, _, _, rfl⟩ (.refl s)

theorem reports_partSeven (f : BoundaryFacts) (at_ : U32) : OnlyReports s (s.partSeven x f at_) :=
  (reports_postBarPhrase s x f).trans ((reports_makeKnown _ x _ _ _).trans (reports_leadRequest _ x _))

end

/-! ## Parts 1 to 3 of a crossed boundary (R6, R22, R23) -/

section
variable {s : State} {x : LaneId}

theorem lane_takeEstimate_other (z : LaneId) : (s.takeEstimate (otherLane z)).lane z = s.lane z := by
  unfold State.takeEstimate
  dsimp only
  split
  · split
    · rw [lane_setLane_other']
    · rfl
  · rfl

theorem lane_setIncrement (i : Nat) : (s.setIncrement x i).lane x = { s.lane x with increment := i } := by
  unfold State.setIncrement
  dsimp only
  split
  · rw [lane_takeEstimate_other, lane_modLane_same]
  · rw [lane_modLane_same]

theorem touches_setIncrement (i : Nat) : TouchesLanes s (s.setIncrement x i) :=
  (touches_modLane s x _).trans (.ite (touches_takeEstimate _ _) (.refl _))

theorem touches_glideStep : TouchesLanes s (s.glideStep x) := by
  unfold State.glideStep
  split
  · exact .refl s
  · exact .ite ((touches_modLane s x _).trans (touches_setIncrement _))
      ((touches_modLane s x _).trans ((touches_setIncrement _).trans (touches_post _ _)))

theorem glideStep_lane : ∃ increment glide, (s.glideStep x).lane x =
    { s.lane x with increment := increment, glide := glide } := by
  unfold State.glideStep
  split
  · exact ⟨_, _, rfl⟩
  · dsimp only
    split
    · rw [lane_setIncrement, lane_modLane_same]
      exact ⟨_, _, rfl⟩
    · rw [lane_post, lane_setIncrement, lane_modLane_same]
      exact ⟨_, _, rfl⟩

/-- A crossed boundary at which no entry is due is counted, with H at it, and a glide takes its step. -/
theorem openAnnounced_crossed {y : U32} (runs : (s.lane x).transport = .running)
    (free : ∀ e ∈ s.queue, e.dueAt x y = false) :
    TouchesLanes s (s.openAnnounced x y) ∧ OnlyReports s (s.openAnnounced x y) ∧
    (∃ increment glide due, (s.openAnnounced x y).lane x =
      { (s.lane x).count with high := y, increment := increment, glide := glide, glideDue := due }) ∧
    ((s.lane x).glide = none → ((s.openAnnounced x y).lane x).glide = none ∧ (s.openAnnounced x y).link = s.link) := by
  have counted : Lane.count { s.lane x with high := y, glideDue := false } =
      { (s.lane x).count with high := y, glideDue := false } :=
    (keepsCounters_opened y (s.lane x).increment (s.lane x).glide false (s.lane x)).1.trans (by rw [count_frame])
  have glide : (s.lane x).count.glide = (s.lane x).glide := by rw [count_frame]
  rw [openAnnounced_eq runs free, counted]
  dsimp only
  split
  · next present =>
    refine ⟨(touches_setLane s x _).trans touches_glideStep, (reports_setLane s x _).trans (reports_glideStep _ x), ?_,
      fun absent => ?_⟩
    · obtain ⟨increment, glide, lane⟩ := glideStep_lane (s := s.setLane x { (s.lane x).count with
        high := y, glideDue := false }) (x := x)
      rw [lane, lane_setLane_same]
      exact ⟨_, _, _, rfl⟩
    · rw [absent] at present
      cases present
  · refine ⟨touches_setLane s x _, reports_setLane s x _, ?_, fun absent => ?_⟩
    · rw [lane_setLane_same]
      exact ⟨_, _, _, rfl⟩
    · rw [lane_setLane_same]
      exact ⟨glide.trans absent, by simp⟩

end

/-! ## Part 7 of a crossed boundary (R26, R172) -/

/-- The bus once lane `x`'s boundary `y` has been reported to it (R172). -/
def Bus.told (b : Bus) (x : LaneId) (y : U32) : Bus :=
  if b.settings.lead = some x then { b with request := some ⟨.boundary y, false, false, false⟩ } else b

theorem told_told (b : Bus) (x : LaneId) (y z : U32) : (b.told x y).told x z = b.told x z := by
  unfold Bus.told
  split <;> rfl

theorem partSeven_reports (s : State) (x : LaneId) (f : BoundaryFacts) (at_ : U32) :
    (∀ z, (s.partSeven x f at_).lane z = s.lane z) ∧ (s.partSeven x f at_).bus = s.bus.told x f.index ∧
      (s.partSeven x f at_).link = (s.postBarPhrase x f).link := by
  have known (t : State) : ∃ handovers known, t.makeKnown x f.index at_ f.bar =
      { t with handovers := handovers, known := known } := by
    unfold State.makeKnown
    dsimp only
    split
    · exact ⟨_, _, rfl⟩
    · obtain ⟨handovers, only⟩ := measureAll_frame t
        ⟨x, f.index, f.bar, (t.lane x).beatInBar, (t.lane x).barInPhrase, (t.lane x).beatsPerBar, (t.lane x).pos.phase,
          []⟩ at_
      rw [only]
      exact ⟨_, _, rfl⟩
  unfold State.partSeven
  rw [postBarPhrase_frame]
  obtain ⟨handovers, knowns, made⟩ := known { s with link := (s.postBarPhrase x f).link }
  rw [made]
  unfold State.leadRequest Bus.told
  split
  · exact ⟨fun z => by cases z <;> rfl, rfl, rfl⟩
  · exact ⟨fun z => by cases z <;> rfl, rfl, rfl⟩

/-! ## The boundaries that a forward jump crosses (R24, R26) -/

theorem foldl_postBarPhrase_link_congr {s t : State} (link : t.link = s.link) (clock : t.clock = s.clock) (x : LaneId)
    (facts : Nat → BoundaryFacts) (js : List Nat) :
    (js.foldl (fun u j => u.postBarPhrase x (facts j)) t).link = (js.foldl (fun u j => u.postBarPhrase x (facts j)) s).link := by
  induction js generalizing s t with
  | nil => exact link
  | cons j js ih =>
    exact ih (postBarPhrase_link_congr link clock) (by rw [postBarPhrase_clock, postBarPhrase_clock, clock])

theorem beat_step (y : U32) (n : Nat) : y + 1 + BitVec.ofNat 32 n = y + BitVec.ofNat 32 (n + 1) := by
  rw [BitVec.add_assoc, BitVec.add_comm 1, BitVec.ofNat_add]
  rfl

/-- The crossed boundaries `h + 1`, ..., `h + n` of a lane whose H is `h`, at none of which an entry is due. -/
theorem workCrossed_of_none {x : LaneId} (n : Nat) {s : State} {h : U32} (runs : (s.lane x).transport = .running)
    (high : (s.lane x).high = h) (bus : s.bus = s.bus.told x h)
    (free : ∀ e ∈ s.queue, ∀ j, 1 ≤ j → j ≤ n → e.dueAt x (h + BitVec.ofNat 32 j) = false) :
    let t := State.workCrossed x n (h + 1) s
    OnlyReports s t ∧ t.bus = s.bus.told x (h + BitVec.ofNat 32 n) ∧
    (∃ increment glide due, t.lane x = { (s.lane x).countMany n with
      high := h + BitVec.ofNat 32 n, increment := increment, glide := glide, glideDue := due }) ∧
    ((s.lane x).glide = none → t.link = ((List.range n).foldl (fun u j => u.postBarPhrase x
      (((s.lane x).countMany (j + 1)).facts (h + BitVec.ofNat 32 (j + 1)))) s).link) := by
  induction n generalizing s h with
  | zero =>
    refine ⟨.refl s, by simpa [State.workCrossed] using bus, ⟨(s.lane x).increment, (s.lane x).glide, (s.lane x).glideDue, ?_⟩, fun _ => rfl⟩
    rw [← high]
    simp [State.workCrossed, Lane.countMany]
  | succ n ih =>
    have here : ∀ e ∈ s.queue, e.dueAt x (h + 1) = false := fun e he => free e he 1 le_rfl (Nat.le_add_left ..)
    obtain ⟨touches, only, ⟨increment, glide, due, lane⟩, absent⟩ := openAnnounced_crossed (y := h + 1) runs here
    generalize opened : s.openAnnounced x (h + 1) = u at touches only lane absent
    have going : (u.lane x).transport = .running := by
      rw [lane, count_frame]
      exact runs
    obtain ⟨lanes, told, link⟩ := partSeven_reports u x ((u.lane x).facts (h + 1)) (h + 1)
    have only' := only.trans (reports_partSeven u x ((u.lane x).facts (h + 1)) (h + 1))
    generalize reported : u.partSeven x ((u.lane x).facts (h + 1)) (h + 1) = v at lanes told link only'
    have worked : State.workCrossed x (n + 1) (h + 1) s = State.workCrossed x n (h + 1 + 1) v := by
      simp only [State.workCrossed, opened, reported]
      rw [if_pos (by rw [high, ahead_succ]; exact Int.one_pos), if_pos (isRunning_eq_true.2 going)]
    have lane_v : v.lane x = { (s.lane x).count with
        high := h + 1, increment := increment, glide := glide, glideDue := due } := (lanes x).trans lane
    have bus_u : u.bus = s.bus := by rw [touches]
    have queue : v.queue = s.queue := by rw [only'.frame]
    have clock : v.clock = s.clock := by rw [only'.frame]
    have clock_u : u.clock = s.clock := by rw [only.frame]
    obtain ⟨only'', told', ⟨increment', glide', due', lane'⟩, link'⟩ := ih (s := v) (h := h + 1)
      (by rw [lanes]; exact going) (by rw [lane_v]) (by rw [told, bus_u, told_told]; rfl)
      (fun e he j low high => by
        rw [beat_step]
        exact free e (queue ▸ he) (j + 1) (Nat.le_add_left ..) (Nat.succ_le_succ high))
    rw [worked]
    refine ⟨only'.trans only'', ?_, ?_, fun none_ => ?_⟩
    · rw [told', told, bus_u, told_told, beat_step]
    · refine ⟨increment', glide', due', ?_⟩
      rw [lane', lane_v, beat_step, countMany_comm (keepsCounters_opened (h + 1) increment glide due)]
      rfl
    · obtain ⟨still, silent⟩ := absent none_
      have first : v.link = (s.postBarPhrase x (((s.lane x).countMany 1).facts (h + BitVec.ofNat 32 1))).link := by
        rw [link, lane, postBarPhrase_link_congr silent clock_u]
        rfl
      have facts (j : Nat) : ((v.lane x).countMany (j + 1)).facts (h + 1 + BitVec.ofNat 32 (j + 1)) =
          ((s.lane x).countMany (j + 1 + 1)).facts (h + BitVec.ofNat 32 (j + 1 + 1)) := by
        rw [lane_v, beat_step, countMany_comm (keepsCounters_opened (h + 1) increment glide due)]
        rfl
      rw [link' (by rw [lanes]; exact still), List.range_succ_eq_map, List.foldl_cons, List.foldl_map]
      simp only [facts]
      exact foldl_postBarPhrase_link_congr first (by rw [clock, postBarPhrase_clock]) x _ _

/-! ## The jump (R11, R24, R25) -/

section
variable {s : State} {x : LaneId} {f : BoundaryFacts}

/-- A residual applied whole leaves the lane aligned. -/
theorem setResidual_zero (l : Lane) : (s.setLane x l).setResidual x 0 false =
    let t := s.setLane x { l with residual := 0, aligned := true }
    if l.aligned = true then t else t.post (.aligned x) := by
  rw [setResidual_false]
  simp only [lane_setLane_same, setLane_setLane]
  cases l.aligned <;> simp

theorem jumpAndReport_of_still (h : (s.lane x).pullLimit ≠ 0 ∨ (s.lane x).residual = 0) :
    s.jumpAndReport x f = s.partSeven x f f.index := by
  refine if_neg fun jumps => ?_
  rcases h with limit | still
  · exact limit jumps.1
  · exact jumps.2 still

theorem jumpAndReport_of_backward (limit : (s.lane x).pullLimit = 0) (back : (s.lane x).residual < 0) :
    s.jumpAndReport x f =
      let l := s.lane x
      let dest := l.pos.retreat l.residual.natAbs
      ((s.setLane x (Lane.uncountMany { l with pos := dest } (l.pos.beat - dest.beat).toNat)).setResidual x 0 false
        ).partSeven x f dest.beat :=
  (if_pos ⟨limit, back.ne⟩).trans (if_neg (Int.not_lt.2 back.le))

theorem jumpAndReport_of_forward (limit : (s.lane x).pullLimit = 0) (ahead_ : 0 < (s.lane x).residual) :
    s.jumpAndReport x f =
      let l := s.lane x
      let dest := l.pos.advance l.residual.natAbs
      State.workCrossed x (dest.beat - l.pos.beat).toNat (l.pos.beat + 1)
        (((s.setLane x { l with pos := dest }).setResidual x 0 false).partSeven x f f.index) :=
  (if_pos ⟨limit, ahead_.ne'⟩).trans (if_pos ahead_)

end

theorem uncountMany_frame (l : Lane) (n : Nat) : (l.uncountMany n).high = l.high ∧ (l.uncountMany n).aligned = l.aligned := by
  induction n generalizing l with
  | zero => exact ⟨rfl, rfl⟩
  | succ n ih =>
    have step : l.uncount.high = l.high ∧ l.uncount.aligned = l.aligned := by
      rw [uncount_frame]
      exact ⟨rfl, rfl⟩
    exact ⟨(ih l.uncount).1.trans step.1, (ih l.uncount).2.trans step.2⟩

/-- The lane at its destination, with its residual applied. -/
theorem jumped_reports (s : State) (x : LaneId) (dest : Position) :
    let l := s.lane x
    let u := (s.setLane x { l with pos := dest }).setResidual x 0 false
    u.lane x = { l with pos := dest, residual := 0, aligned := true } ∧ OnlyReports s u ∧ u.bus = s.bus ∧
      u.link = (if l.aligned = true then s else s.post (.aligned x)).link := by
  dsimp only
  rw [setResidual_zero]
  dsimp only
  split
  · exact ⟨lane_setLane_same .., reports_setLane s x _, by simp, by simp⟩
  · refine ⟨(lane_post ..).trans (lane_setLane_same ..), (reports_setLane s x _).trans (reports_post _ _), by simp, ?_⟩
    exact post_link_congr (by simp) (by simp) _

/-- Settles O18: no jump, the jump back by its steps back, and the jump forward by the boundaries that it crosses. -/
theorem jumpsOfALane : Obligations.JumpsOfALane := by
  refine ⟨fun s x f => jumpAndReport_of_still, fun s x f limit back_ => ?back, fun l n legal => ?counts, ?forward,
    fun s x y n above => ?stops⟩
  case back =>
    intro l dest back moved
    refine ⟨(uncountMany_frame l _).1, (jumpAndReport_of_backward limit back_).trans ?_⟩
    dsimp only
    rw [uncountMany_comm (keepsCounters_moved dest), setResidual_zero]
    refine congrArg (State.partSeven · x f dest.beat) (if_congr ?_ rfl rfl)
    rw [show Lane.aligned { l.uncountMany _ with pos := dest } = _ from (uncountMany_frame l _).2]
  case counts =>
    exact ⟨uncountMany_countMany legal n, (uncountMany_keeps n l).2.2.1 legal, (countMany_keeps n l).2.2.1 legal⟩
  case forward =>
    intro s x f l dest n runs limit ahead_ high index free t
    have forward : t = State.workCrossed x n (l.pos.beat + 1)
        (((s.setLane x { l with pos := dest }).setResidual x 0 false).partSeven x f f.index) :=
      jumpAndReport_of_forward limit ahead_
    have reach : l.pos.beat + BitVec.ofNat 32 n = dest.beat := by
      simp only [n, BitVec.ofNat_toNat, BitVec.setWidth_eq]
      rw [BitVec.add_comm, BitVec.sub_add_cancel]
    obtain ⟨lane_u, only_u, bus_u, link_u⟩ := jumped_reports s x dest
    generalize (s.setLane x { l with pos := dest }).setResidual x 0 false = u at forward lane_u only_u bus_u link_u
    obtain ⟨lanes, bus_v, link_v⟩ := partSeven_reports u x f f.index
    have only_v := only_u.trans (reports_partSeven u x f f.index)
    generalize u.partSeven x f f.index = v at forward lanes bus_v link_v only_v
    have lane_v : v.lane x = { l with pos := dest, residual := 0, aligned := true } := (lanes x).trans lane_u
    rw [bus_u, index] at bus_v
    have queue : v.queue = s.queue := by rw [only_v.frame]
    have clocks : u.clock = s.clock ∧ v.clock = s.clock := ⟨by rw [only_u.frame], by rw [only_v.frame]⟩
    obtain ⟨only, bus, ⟨increment, glide, due, lane⟩, link⟩ := workCrossed_of_none n (s := v) (h := l.pos.beat)
      (by rw [lane_v]; exact runs) (by rw [lane_v]; exact high) (by rw [bus_v, told_told]) (by rw [queue]; exact free)
    rw [← forward] at only bus lane link
    refine ⟨?_, ?_, fun still => ?_, (only_v.trans only).frame⟩
    · rw [lane, lane_v, reach, countMany_comm (keepsCounters_jumped dest)]
    · rw [bus, bus_v, told_told, reach]
      rfl
    · intro first
      have facts (j : Nat) : ((v.lane x).countMany (j + 1)).facts (l.pos.beat + BitVec.ofNat 32 (j + 1)) =
          (l.countMany (j + 1)).facts (l.pos.beat + BitVec.ofNat 32 (j + 1)) := by
        rw [lane_v, countMany_comm (keepsCounters_jumped dest)]
        rfl
      have clock : first.clock = s.clock := by
        simp only [first]
        split <;> simp
      rw [link (by rw [lane_v]; exact still)]
      simp only [facts]
      refine foldl_postBarPhrase_link_congr ?_ (by rw [clocks.2, postBarPhrase_clock, clock]) x _ _
      rw [link_v]
      exact postBarPhrase_link_congr link_u (clocks.1.trans clock.symm)
  case stops =>
    intro u stopped
    simp only [State.workCrossed]
    rw [if_pos above]
    exact if_neg (by rw [isRunning_eq_true, stopped]; exact Transport.noConfusion)

end Sys2Proof.Machine

/-! The pulses of the reference tracker (O38). -/

namespace Sys2Proof.Machine

namespace RefTracker

theorem marked_iff (t : RefTracker) : t.marked = true ↔ t.downbeat = true ∧ t.mark = true := by simp [RefTracker.marked]

theorem countPulse_eq (t : RefTracker) : t.countPulse =
    if t.downbeat = true ∧ t.mark = true then { t with count := 0, beatInBar := 0, mark := false }
    else if t.count + 1 < t.q then { t with count := t.count + 1 }
    else { t with count := 0, beatInBar := min 15 (t.beatInBar + 1) } :=
  if_congr (marked_iff t) rfl rfl

/-- Counting a pulse changes the count, the beat and the mark alone (R50). -/
theorem countPulse_frame (t : RefTracker) : t.countPulse = { t with
    count := t.countPulse.count, beatInBar := t.countPulse.beatInBar, mark := t.countPulse.mark } := by
  unfold RefTracker.countPulse
  split
  · rfl
  · split <;> rfl

theorem countPulse_q (t : RefTracker) : t.countPulse.q = t.q := by rw [countPulse_frame]

theorem firstPulse_eq (t : RefTracker) (now : Nat) : t.firstPulse now = { t with
    lastPulse := some now
    count := 0
    beatInBar := 0
    mark := if t.downbeat = true ∧ t.mark = true then false else t.mark
    window := []
    anchor := if t.lock = .locked then some now else t.anchor
    restart := false } := by
  simp only [RefTracker.firstPulse, marked_iff]

theorem misalign_eq (t : RefTracker) (now : Nat) : t.misalign now =
    if t.realign = true then t.firstPulse now
    else { t.countPulse with
      lastPulse := some now
      window := []
      anchor := if t.countPulse.count = 0 then some now else t.anchor } := by
  unfold RefTracker.misalign
  refine if_congr Iff.rfl rfl ?_
  rw [countPulse_frame]
  dsimp only
  split <;> rfl

theorem update_eq (t : RefTracker) (now d : Nat) : t.update now d = { t.countPulse with
    lastPulse := some now
    window := keepLast (4 * t.q) (t.window ++ [d])
    estimate := some (estimateOf (keepLast (4 * t.q) (t.window ++ [d])).length t.q (keepLast (4 * t.q) (t.window ++ [d])).sum)
    anchor := if t.countPulse.count = 0 then some now else t.anchor } := by
  unfold RefTracker.update
  rw [countPulse_frame]

theorem steady_iff (window : List Nat) : steady window = true ↔
    ∀ i ∈ window, 50 * ((i : Int) * window.length - window.sum).natAbs ≤ 3 * window.sum := by
  simp [steady]

theorem acquire_of_unsteady {t : RefTracker} {now d : Nat}
    (h : ¬ ((keepLast (2 * t.q) (t.window ++ [d])).length = 2 * t.q ∧ steady (keepLast (2 * t.q) (t.window ++ [d])) = true)) :
    t.acquire now d =
      ({ t.countPulse with lastPulse := some now, window := keepLast (2 * t.q) (t.window ++ [d]) }, false) := by
  rw [← countPulse_q] at h
  rw [RefTracker.acquire, ← countPulse_q]
  exact if_neg h

theorem acquire_of_steady {t : RefTracker} {now d : Nat}
    (full : (keepLast (2 * t.q) (t.window ++ [d])).length = 2 * t.q)
    (steady_ : steady (keepLast (2 * t.q) (t.window ++ [d])) = true) : t.acquire now d =
      ({ t.countPulse with
        lastPulse := some now
        window := keepLast (2 * t.q) (t.window ++ [d])
        lock := .locked
        estimate := some (estimateOf (2 * t.q) t.q (keepLast (2 * t.q) (t.window ++ [d])).sum)
        anchor := some (now - spanOfLast t.countPulse.count (keepLast (2 * t.q) (t.window ++ [d])))
        holdoverStart := none }, true) := by
  rw [RefTracker.acquire]
  refine (if_pos ⟨full.trans (by rw [← countPulse_q]), steady_⟩).trans ?_
  simp only [full, countPulse_q]

end RefTracker

section
variable {s : State}

theorem refPulse_of_first (h : s.ref.restart = true ∨ s.ref.lastPulse = none) :
    s.refPulse = { s with ref := s.ref.firstPulse s.clock } := by
  unfold State.refPulse
  rcases h with restart | none_
  · simp only [restart]
  · cases restart : s.ref.restart <;> simp only [restart, none_]

variable {last : Nat} (going : s.ref.restart = false) (before : s.ref.lastPulse = some last)
include going before

theorem refPulse_of_locked {i : Nat} (locked : s.ref.lock = .locked) (estimate : s.ref.estimate = some i) :
    s.refPulse = if misaligned (since s.clock last) s.ref.q i = true then
        ({ s with ref := s.ref.misalign s.clock }.modSticky fun f => { f with refMisaligned := true }).post .refMisaligned
      else { s with ref := s.ref.update s.clock (since s.clock last) }.trackerUpdate .reference := by
  simp only [State.refPulse, going, before, locked, estimate]

theorem refPulse_of_unlocked (unlocked : s.ref.lock ≠ .locked) :
    s.refPulse = if longGap < since s.clock last then { s with ref := s.ref.firstPulse s.clock }
      else
        let out := s.ref.acquire s.clock (since s.clock last)
        if out.2 = true then
          ({ s with ref := out.1 } : State).becameLocked .reference .reference out.1.estimate none
        else { s with ref := out.1 } := by
  simp only [State.refPulse, going, before]
  cases lock : s.ref.lock with
  | locked => exact absurd lock unlocked
  | searching | holdover => rfl

end

/-- Settles O38: a first pulse, and any other by the lock state and its interval. -/
theorem referencePulses : Obligations.ReferencePulses := by
  intro s running t marked first counted
  have live : s.live = true := live_of_running running
  have first_eq : s.ref.firstPulse s.clock = first := RefTracker.firstPulse_eq ..
  have counted_eq : s.ref.countPulse = counted := RefTracker.countPulse_eq ..
  have pulse {u : State} (h : s.refPulse = u) : exec .refclkPulse s = .next u :=
    congrArg Host.Outcome.next ((if_pos live).trans h)
  refine ⟨congrArg Host.Outcome.next (if_pos live), fun restarts => pulse ?_, ?_⟩
  · rw [refPulse_of_first restarts, first_eq]
  intro last going before d recent window acquired test
  have test_iff : test ↔ (keepLast (2 * s.ref.q) (s.ref.window ++ [d])).length = 2 * s.ref.q ∧
      steady (keepLast (2 * s.ref.q) (s.ref.window ++ [d])) = true := by
    rw [RefTracker.steady_iff]
    rfl
  refine ⟨fun unlocked long => pulse ?_, fun unlocked short fails => pulse ?_, fun unlocked short passes => pulse ?_,
    fun i locked estimate => ⟨fun off => pulse ?_, fun within => pulse ?_⟩⟩
  · rw [refPulse_of_unlocked going before unlocked, if_pos long, first_eq]
  · rw [refPulse_of_unlocked going before unlocked, if_neg (Nat.not_lt.2 short),
      RefTracker.acquire_of_unsteady (mt test_iff.2 fails), counted_eq]
    rfl
  · obtain ⟨full, steady_⟩ := test_iff.1 passes
    rw [refPulse_of_unlocked going before unlocked, if_neg (Nat.not_lt.2 short),
      RefTracker.acquire_of_steady full steady_, counted_eq]
    rfl
  · rw [refPulse_of_locked going before locked estimate, if_pos (by simpa [misaligned, beatUnits] using off),
      RefTracker.misalign_eq, first_eq, counted_eq]
    rfl
  · rw [refPulse_of_locked going before locked estimate, if_neg (by simpa [misaligned, beatUnits] using within),
      RefTracker.update_eq, counted_eq]
    rfl

end Sys2Proof.Machine

/-! The transitions of a source and the joins that wait for it (O39, O40). -/

namespace Sys2Proof.Machine

/-! ## A waiting join that comes due (R31, R34, R78, R79) -/

/-- With distinct ids an entry's removal leaves the others as they stand. -/
theorem removeEntry_of_queue {s : State} {before after : List Entry} {e : Entry} (queue : s.queue = before ++ e :: after)
    (distinct : s.idsDistinct) :
    s.removeEntry e.id = { s with queue := before ++ after, generation := s.generation + 1 } := by
  have nodup := distinct.1
  rw [queue, List.map_append, List.map_cons, List.nodup_middle, List.nodup_cons, List.mem_append, not_or] at nodup
  obtain ⟨⟨early, late⟩, -⟩ := nodup
  have keeps (l : List Entry) (absent : e.id ∉ l.map (·.id)) : l.filter (fun d => d.id != e.id) = l :=
    List.filter_eq_self.2 fun d mem => by
      rw [bne_iff_ne]
      exact fun same => absent (List.mem_map.2 ⟨d, mem, same⟩)
  have rest : (before ++ e :: after).filter (fun d => d.id != e.id) = before ++ after := by
    rw [List.filter_append, List.filter_cons_of_neg (by simp), keeps before early, keeps after late]
  rw [State.removeEntry, queue, rest]
  rfl

theorem joinable_iff (k : SourceKind) : k.joinable = true ↔ (∃ n, k = .bus n) ∨ k = .lane := by
  cases k <;> simp [SourceKind.joinable]

theorem barred_iff (l : Lane) : (l.isRunning || !l.source.joinable) = true ↔
    l.transport = .running ∨ ¬ ((∃ n, l.source = .bus n) ∨ l.source = .lane) := by
  rw [Bool.or_eq_true, isRunning_eq_true, Bool.not_eq_true', ← joinable_iff, Bool.not_eq_true]

section
variable {s : State} {x : LaneId} {e : Entry}

theorem plainJoin_of_barred (barred : ((s.lane x).isRunning || !(s.lane x).source.joinable) = true) :
    s.plainJoin e x = (s.removeEntry e.id).postApplied e false := by
  rw [← lane_removeEntry s e.id x] at barred
  exact if_pos barred

theorem plainJoin_of_free (free : ¬ ((s.lane x).isRunning || !(s.lane x).source.joinable) = true) :
    s.plainJoin e x = ((s.removeEntry e.id).startLane x).postApplied e true := by
  rw [← lane_removeEntry s e.id x] at free
  exact if_neg free

theorem joinLane_eq_started (src : SourceSide) : s.joinLane x src =
    let pos := Position.atBeat (BitVec.ofNat 32 (src.barInPhrase * src.beatsPerBar + src.beatInBar))
    s.started x ((s.lane x).startedAt pos (src.beatInBar % (s.lane x).beatsPerBar)
      (src.barInPhrase % (s.lane x).barsPerPhrase) (BitVec.ofNat 32 src.barInPhrase)) (·.startAt pos)
      (.transportStarted x .join) := rfl

/-- A due join waits for a source boundary. -/
theorem dueJoin_wait {w : JoinWait} (due : s.dueJoin x = some e) (wait : e.due = .join w) : e.joinWait x = some w := by
  have found := List.find?_some due
  cases waits : e.joinWait x with
  | none => simp [waits] at found
  | some v =>
    have same := (joinWait_eq_some.1 waits).2.symm.trans wait
    cases same
    rfl

end

/-- The lock state of the source that a join of lane `x` waits for. -/
def State.waitLock (s : State) (x : LaneId) (w : JoinWait) : LockState :=
  match w with
  | .bus n _ => (s.busTracker n).lock
  | .lane _ => if (s.lane (otherLane x)).transport = .running then .locked else .holdover

/-- What the source that a join of lane `x` waits for supplies. -/
def State.waitSide (s : State) (x : LaneId) (w : JoinWait) : Option SourceSide :=
  match w with
  | .bus n _ => (s.busTracker n).side s.clock
  | .lane _ => some (s.lane (otherLane x)).side

theorem joinSide_eq {s : State} {x : LaneId} {e : Entry} {w : JoinWait} (wait : e.joinWait x = some w) :
    s.joinSide e x = if s.waitLock x w = .locked then s.waitSide x w else none := by
  simp only [State.joinSide, wait]
  refine if_congr ?_ ?_ rfl
  · cases w with
    | bus n p => simp [State.lockOf, JoinWait.source, State.waitLock]
    | lane ripe => simp [State.lockOf, JoinWait.source, State.waitLock, isRunning_eq_true]
  · cases w <;> rfl

/-- Settles O40: the bars of R31, then the source that the entry waits for. -/
theorem joinComesDue : Obligations.JoinComesDue := by
  intro s x e w running due wait l o gone sourced lock side
  have live := live_of_running running
  have wait' := dueJoin_wait due wait
  have carried : exec (.joinDue x) s = .next (s.carryOutJoin e x) := by
    simp only [exec, execJoinDue, live, due]
  have lock_eq : s.waitLock x w = lock := rfl
  have side_eq : s.waitSide x w = side := rfl
  refine ⟨fun barred => ?_, fun stopped source unlocked => ?_, fun src stopped source locked supplied => ?_⟩
  · rw [carried, State.carryOutJoin, if_pos ((barred_iff l).2 barred)]
  all_goals
    have free : ¬ ((s.lane x).isRunning || !(s.lane x).source.joinable) = true := by
      rw [barred_iff]
      rintro (runs | outside)
      · exact Transport.noConfusion (stopped.symm.trans runs)
      · exact outside source
    rw [carried, State.carryOutJoin, if_neg free, joinSide_eq wait', lock_eq, side_eq]
  · have absent : (if lock = .locked then side else none) = none := by
      rcases unlocked with other | none_
      · exact if_neg other
      · rw [none_, ite_self]
    simp only [absent]
    rw [plainJoin_of_free free]
  · intro beat
    rw [if_pos locked, supplied]
    dsimp only
    have notice : (gone.post (.transportStarted x .join)).link = (s.post (.transportStarted x .join)).link :=
      post_link_congr (s := s) (t := gone) rfl rfl _
    have lane (z : LaneId) : gone.lane z = s.lane z := lane_removeEntry ..
    have joined := joinLane_eq_started (s := gone) (x := x) src
    dsimp only at joined
    rw [lane] at joined
    refine ⟨gone.joinLane x src, rfl, ?_⟩
    rw [joined]
    refine ⟨started_lane .., started_chan gone x _ _ _, fun alone => ?_, fun followed => ?_, touches_started ..⟩
    · obtain ⟨other, link⟩ := started_of_not_followed gone x _ _ _ (by rw [lane]; exact alone)
      exact ⟨other.trans (lane o), link.trans notice⟩
    · obtain ⟨link, other⟩ := started_of_followed gone x ((s.lane x).startedAt _ _ _ _) (·.startAt _) _
        (by rw [lane]; exact followed)
      rw [lane] at other
      exact ⟨link.trans (post_link_congr notice (by simp [gone]) _), other⟩

/-! ## A source that leaves LOCKED (R63, R79) -/

/-- The lane's record once source `k` has left LOCKED. -/
def Lane.lost (l : Lane) (k : SourceKind) : Lane :=
  if l.source = k ∧ l.follow = .following then
    { l with follow := .holdover, residual := 0, pullRate := 0, aligned := false }
  else l

theorem lost_keeps (l : Lane) (k : SourceKind) : (l.lost k).source = l.source ∧ (l.lost k).transport = l.transport := by
  unfold Lane.lost
  split <;> exact ⟨rfl, rfl⟩

/-- Both lanes have lost source `k`. -/
def State.lostBoth (s : State) (k : SourceKind) : State :=
  { s with laneA := s.laneA.lost k, laneB := s.laneB.lost k }

theorem followLeft_of_source (s : State) (x : LaneId) (k : SourceKind) :
    (if (s.lane x).source = k then s.followLeft x else s) = s.setLane x ((s.lane x).lost k) := by
  unfold Lane.lost
  by_cases source : (s.lane x).source = k
  · rw [if_pos source]
    refine congrArg (s.setLane x) (if_congr ?_ rfl rfl)
    simp [source]
  · rw [if_neg source, if_neg (fun h => source h.1), setLane_lane]

theorem forFollowers_followLeft (s : State) (k : SourceKind) :
    s.forFollowers k (fun x t => t.followLeft x) = s.lostBoth k := by
  have steps : s.forFollowers k (fun x t => t.followLeft x) = _ :=
    congrArg (fun t => if (State.lane t .b).source = k then t.followLeft .b else t) (followLeft_of_source s .a k)
  rw [steps, followLeft_of_source]
  rfl

theorem lane_lostBoth (s : State) (k : SourceKind) (x : LaneId) : (s.lostBoth k).lane x = (s.lane x).lost k := by
  cases x <;> rfl

theorem joinsLeft_of_none {s : State} {x : LaneId} {k : SourceKind} (none_ : ∀ e ∈ s.queue, e.joinsOn x k = false) :
    s.joinsLeft x k = s := by
  have empty : s.queue.filter (·.joinsOn x k) = [] := List.filter_eq_nil_iff.2 fun e he => by simp [none_ e he]
  rw [State.joinsLeft, empty]
  rfl

theorem joinsLeft_of_one {s : State} {x : LaneId} {k : SourceKind} {before after : List Entry} {e : Entry}
    (queue : s.queue = before ++ e :: after) (joins : e.joinsOn x k = true)
    (none_ : ∀ d ∈ before ++ after, d.joinsOn x k = false) : s.joinsLeft x k = s.plainJoin e x := by
  rw [State.joinsLeft, queue, filter_eq_singleton_of none_ joins]
  rfl

theorem startLane_queue (s : State) (x : LaneId) : (s.startLane x).queue = s.queue := by
  have only : TouchesLanes s (s.startLane x) := touches_started ..
  rw [only]

theorem plainJoin_queue (s : State) (e : Entry) (x : LaneId) : (s.plainJoin e x).queue = (s.removeEntry e.id).queue := by
  unfold State.plainJoin
  dsimp only
  split
  · exact post_queue ..
  · exact (post_queue ..).trans (startLane_queue ..)

theorem lostSource_of_none {s : State} {k : SourceKind} (none_ : ∀ e ∈ s.queue, ∀ x, e.joinsOn x k = false) :
    s.lostSource k = s.lostBoth k := by
  have quiet (x : LaneId) : (s.lostBoth k).joinsLeft x k = s.lostBoth k := joinsLeft_of_none fun e he => none_ e he x
  rw [State.lostSource, forFollowers_followLeft]
  exact (congrArg (fun t => State.joinsLeft t .b k) (quiet .a)).trans (quiet .b)

/-- One join alone waits for the source. -/
theorem lostSource_of_one {s : State} {x : LaneId} {k : SourceKind} {before after : List Entry} {e : Entry}
    (queue : s.queue = before ++ e :: after) (distinct : s.idsDistinct) (joins : e.joinsOn x k = true)
    (none_ : ∀ d ∈ before ++ after, ∀ z, d.joinsOn z k = false) :
    s.lostSource k = (s.lostBoth k).plainJoin e x := by
  have change := (joinsOn_iff.1 joins).1
  have own : (s.lostBoth k).joinsLeft x k = (s.lostBoth k).plainJoin e x :=
    joinsLeft_of_one queue joins fun d mem => none_ d mem x
  rw [State.lostSource, forFollowers_followLeft]
  cases x with
  | a =>
    refine (congrArg (fun t => State.joinsLeft t .b k) own).trans (joinsLeft_of_none ?_)
    rw [plainJoin_queue, removeEntry_of_queue (s := s.lostBoth k) queue distinct]
    exact fun d mem => none_ d mem .b
  | b =>
    have other : (s.lostBoth k).joinsLeft .a k = s.lostBoth k := by
      refine joinsLeft_of_none fun d mem => ?_
      rw [show (s.lostBoth k).queue = _ from queue, List.mem_append, List.mem_cons] at mem
      rcases mem with mem | rfl | mem
      · exact none_ d (List.mem_append_left _ mem) .a
      · exact joinsOn_other change (by decide) k
      · exact none_ d (List.mem_append_right _ mem) .a
    exact (congrArg (fun t => State.joinsLeft t .b k) other).trans own

/-! ## A source that becomes LOCKED (R63, R66) -/

/-- The lane's record once source `k`, whose estimate is `e`, has become LOCKED. -/
def Lane.found (l : Lane) (k : SourceKind) (e : Option Nat) : Lane :=
  let follow := if l.follow = .holdover then FollowState.following else l.follow
  if l.source ≠ k then l
  else match e with
    | some i =>
      if l.transport = .stopped ∧ follow = .following then { l with follow := follow, increment := i, glide := none }
      else { l with follow := follow }
    | none => { l with follow := follow }

theorem sourceEstimate_of_source {s : State} {x : LaneId} {k : SourceKind} (source : (s.lane x).source = k)
    (tracker : k ≠ .lane) : s.sourceEstimate x = s.estimateOf k := by
  subst source
  unfold State.sourceEstimate State.estimateOf
  cases kind : (s.lane x).source with
  | lane => exact absurd kind tracker
  | _ => rfl

theorem followLocked_of_source {s : State} {x : LaneId} {k : SourceKind} (tracker : k ≠ .lane) :
    (if (s.lane x).source = k then s.followLocked x else s) = s.setLane x ((s.lane x).found k (s.estimateOf k)) := by
  by_cases source : (s.lane x).source = k
  · have locked : s.followLocked x = (s.setLane x { s.lane x with
        follow := if (s.lane x).follow = .holdover then .following else (s.lane x).follow }).takeEstimate x := by
      refine congrArg (fun l => (s.setLane x l).takeEstimate x) ?_
      by_cases holdover : (s.lane x).follow = .holdover <;> simp [holdover]
    generalize following : (if (s.lane x).follow = .holdover then FollowState.following else (s.lane x).follow) = f at locked
    have estimate : (s.setLane x { s.lane x with follow := f }).sourceEstimate x = s.estimateOf k := by
      rw [sourceEstimate_of_source (by rw [lane_setLane_same]; exact source) tracker]
      cases x <;> rfl
    rw [if_pos source, locked, State.takeEstimate, estimate]
    unfold Lane.found
    dsimp only
    rw [following, if_neg (not_not.2 source)]
    simp only [lane_setLane_same, setLane_setLane, Bool.and_eq_true, Bool.not_eq_true', isRunning_eq_false, beq_iff_eq]
    cases s.estimateOf k with
    | none => simp
    | some i =>
      dsimp only
      split <;> rfl
  · have same : (s.lane x).found k (s.estimateOf k) = s.lane x := if_pos source
    rw [if_neg source, same, setLane_lane]

theorem forFollowers_followLocked (s : State) {k : SourceKind} (tracker : k ≠ .lane) :
    s.forFollowers k (fun x t => t.followLocked x) =
      { s with laneA := s.laneA.found k (s.estimateOf k), laneB := s.laneB.found k (s.estimateOf k) } := by
  have steps : s.forFollowers k (fun x t => t.followLocked x) = _ :=
    congrArg (fun t => if (State.lane t .b).source = k then t.followLocked .b else t)
      (followLocked_of_source (s := s) (x := .a) tracker)
  rw [steps, followLocked_of_source tracker]
  cases k <;> rfl

theorem reported_eq (e : Option Nat) : reported e = match e with | some i => incrementToTempo i | none => 0 := by
  cases e <;> rfl

/-- A notice posted, and then the source lost. -/
theorem lostBoth_post (s : State) (n : NoticeBody) (k : SourceKind) : (s.post n).lostBoth k = { s with
    laneA := s.laneA.lost k, laneB := s.laneB.lost k, link := (s.post n).link } := by
  rw [post_eq_modLink]
  rfl

/-- The one join that waits for the source is carried out as a plain START, or is IGNORED. -/
theorem lostSource_post_of_one {s : State} {x : LaneId} {k : SourceKind} {before after : List Entry} {e : Entry}
    (queue : s.queue = before ++ e :: after) (distinct : s.idsDistinct) (joins : e.joinsOn x k = true)
    (none_ : ∀ d ∈ before ++ after, ∀ z, d.joinsOn z k = false) (n : NoticeBody) :
    let u : State := { s with
      laneA := s.laneA.lost k
      laneB := s.laneB.lost k
      queue := before ++ after
      generation := s.generation + 1
      link := (s.post n).link }
    (s.post n).lostSource k =
      if (s.lane x).transport = .running ∨ (∀ m, (s.lane x).source ≠ .bus m) ∧ (s.lane x).source ≠ .lane then
        u.postApplied e false
      else (u.startLane x).postApplied e true := by
  intro u
  have queue' : (s.post n).queue = before ++ e :: after := (post_queue ..).trans queue
  have distinct' : (s.post n).idsDistinct := by
    rw [State.idsDistinct, post_queue]
    exact distinct
  have gone : ((s.post n).lostBoth k).removeEntry e.id = u := by
    rw [removeEntry_of_queue (s := (s.post n).lostBoth k) queue' distinct', lostBoth_post]
  have lane : (((s.post n).lostBoth k).lane x) = (s.lane x).lost k := by rw [lane_lostBoth, lane_post]
  have barred : ((((s.post n).lostBoth k).lane x).isRunning || !(((s.post n).lostBoth k).lane x).source.joinable) = true ↔
      (s.lane x).transport = .running ∨ (∀ m, (s.lane x).source ≠ .bus m) ∧ (s.lane x).source ≠ .lane := by
    obtain ⟨source, transport⟩ := lost_keeps (s.lane x) k
    rw [barred_iff, lane, source, transport, not_or, not_exists]
  rw [lostSource_of_one queue' distinct' joins none_]
  split
  · next h => rw [plainJoin_of_barred (barred.2 h), gone]
  · next h => rw [plainJoin_of_free (mt barred.1 h), gone]

/-- Settles O39: the four tests, and a transition by its notice, the lanes that follow and the join that waits. -/
theorem trackerExpiriesAndTransitions : Obligations.TrackerExpiriesAndTransitions := by
  refine ⟨fun s running => ⟨fun p i locked pulse estimate long => ?_, fun h i held start estimate long => ?_, fun n => ?_⟩,
    fun s k subject estimate station => ?_⟩
  · have due : s.refHoldoverDue = true := by simpa [State.refHoldoverDue, locked, pulse, estimate, beatUnits] using long
    refine congrArg Host.Outcome.next ((whenLive_of_due running due).trans ?_)
    rw [State.refEnterHoldover, estimate]
    rfl
  · have due : s.refSearchingDue = true := by simpa [State.refSearchingDue, held, start, estimate, beatUnits] using long
    refine congrArg Host.Outcome.next ((whenLive_of_due running due).trans ?_)
    rw [State.refEnterSearching, estimate]
  · intro t
    refine ⟨fun f ref locked frame long => ?_, fun h i held start estimate long => ?_⟩
    · have due : s.busHoldoverDue n = true := by
        simpa [State.busHoldoverDue, show (s.busTracker n).lock = _ from locked, show (s.busTracker n).last = _ from frame,
          beatUnits] using long
      exact congrArg Host.Outcome.next (whenLive_of_due running due)
    · have due : s.busSearchingDue n = true := by
        simpa [State.busSearchingDue, show (s.busTracker n).lock = _ from held,
          show (s.busTracker n).holdoverStart = _ from start, show (s.busTracker n).estimate = _ from estimate,
          beatUnits] using long
      exact congrArg Host.Outcome.next (whenLive_of_due running due)
  · intro tempo lost
    have tempo_eq : reported estimate = tempo := reported_eq estimate
    refine ⟨fun none_ => ?_, fun x e before after queue distinct joins none_ => ?_, fun tracker _ => ?_⟩
    · have quiet (n : NoticeBody) : (s.post n).lostSource k = (s.post n).lostBoth k :=
        lostSource_of_none (by rw [post_queue]; exact none_)
      rw [State.becameHoldover, State.becameSearching, quiet, quiet, lostBoth_post, lostBoth_post, tempo_eq]
      exact ⟨rfl, rfl⟩
    · intro gone joined
      rw [State.becameHoldover, State.becameSearching, lostSource_post_of_one queue distinct joins none_,
        lostSource_post_of_one queue distinct joins none_, tempo_eq]
      exact ⟨rfl, rfl⟩
    · intro found
      have estimates (z : LaneId) : found z = (s.lane z).found k (s.estimateOf k) := by
        by_cases source : (s.lane z).source = k
        · exact congrArg ((s.lane z).found k) (sourceEstimate_of_source source tracker)
        · exact (if_pos source).trans (if_pos source).symm
      rw [State.becameLocked, forFollowers_followLocked _ tracker, tempo_eq, estimates, estimates, post_eq_modLink]
      cases k <;> rfl

end Sys2Proof.Machine

/-! SET_SOURCE, what a SOURCE change does to its lane, and the rebinding of a waiting join (O27). -/

namespace Sys2Proof.Machine

/-! ## The request (R67, R70) -/

theorem sourceSettingsOf_eq {p : List Byte} {kind : SourceKind} {len : AlignLength} {mode : AlignMode}
    (hkind : sourceKindOf (byteAt p 1) (byteAt p 2) = some kind) (hlen : alignLengthOf (byteAt p 3) = some len)
    (hmode : alignModeOf (byteAt p 4) = some mode) :
    sourceSettingsOf p = some ⟨kind, len, mode, min 256 (fieldAt p 5 2), min 16 (byteAt p 7)⟩ := by
  simp only [sourceSettingsOf, hkind, hlen, hmode]
  rfl

theorem sourceSettingsOf_eq_none {p : List Byte} (h : sourceKindOf (byteAt p 1) (byteAt p 2) = none ∨
    alignLengthOf (byteAt p 3) = none ∨ alignModeOf (byteAt p 4) = none) : sourceSettingsOf p = none := by
  unfold sourceSettingsOf
  rcases h with h | h | h
  · simp [h]
  · cases sourceKindOf (byteAt p 1) (byteAt p 2) <;> simp [h]
  · cases sourceKindOf (byteAt p 1) (byteAt p 2) <;> cases alignLengthOf (byteAt p 3) <;> simp [h]

theorem ne_min_iff {a b : Nat} : (b != min a b) = decide (a < b) := by
  rw [Bool.eq_iff_iff, bne_iff_ne, decide_eq_true_iff]
  omega

section
variable {s : State} {p : List Byte} {x timing : LaneId} {take : TakeMode} {g : SourceSettings}

theorem setSource_of_unread (h : laneOfByte (byteAt p 0) = none ∨ sourceSettingsOf p = none ∨ takeNoJoin p 8 = none ∨
    laneOfByte (byteAt p 10) = none) : setSource p s = refuse .badValue s := by
  unfold setSource
  split
  · next hx hg htake hnamed => simp [hx, hg, htake, hnamed] at h
  · rfl

theorem setSource_of_read (hx : laneOfByte (byteAt p 0) = some x) (hg : sourceSettingsOf p = some g)
    (htake : takeNoJoin p 8 = some take) (hnamed : laneOfByte (byteAt p 10) = some timing) :
    setSource p s =
      if g.kind = .lane ∧ (s.lane (otherLane x)).source = .lane then refuse .badValue s
      else match s.schedulerBar take timing with
        | some r => refuse r s
        | none =>
          let out := scheduled s take timing (.source x g) (s.applySource x g).1
          (out.1, .okOr (fieldAt p 5 2 != g.pullLimit || byteAt p 7 != g.followGlide)
            (out.2 ++ bytesOf 2 g.pullLimit ++ byte g.followGlide)) := by
  rw [scheduled_eq s take timing _ fun t => (t.applySource x g).1]
  simp only [setSource, hx, hg, htake, hnamed] <;> rfl

end

theorem setSource_answer {s : State} {tag : Byte} {p : List Byte} (h : RequestAtHead s 0x12 tag p) (hlen : p.length = 11) :
    exec .setSource s = .next (
      match laneOfByte (byteAt p 0), sourceKindOf (byteAt p 1) (byteAt p 2), alignLengthOf (byteAt p 3),
        alignModeOf (byteAt p 4), takeNoJoin p 8, laneOfByte (byteAt p 10) with
      | some x, some kind, some len, some mode, some take, some timing =>
        let settings : SourceSettings := ⟨kind, len, mode, min 256 (fieldAt p 5 2), min 16 (byteAt p 7)⟩
        let code : Byte := if 256 < fieldAt p 5 2 ∨ 16 < byteAt p 7 then 0x01 else 0x00
        if kind = .lane ∧ (s.lane (otherLane x)).source = .lane then answered s.takeHead 0x12 tag [0x12]
        else match schedulerRefusal s take timing with
          | some refusal => answered s.takeHead 0x12 tag [refusal]
          | none =>
            let out := scheduled s.takeHead take timing (.source x settings) (s.takeHead.applySource x settings).1
            answered out.1 0x12 tag
              (code :: (out.2 ++ bytesOf 2 (min 256 (fieldAt p 5 2)) ++ [BitVec.ofNat 8 (min 16 (byteAt p 7))]))
      | _, _, _, _, _, _ => answered s.takeHead 0x12 tag [0x12]) := by
  refine congrArg Host.Outcome.next ?_
  have bad (refused : setSource p s.takeHead = refuse .badValue s.takeHead) :
      s.handle 0x12 anyPayload 11 setSource = answered s.takeHead 0x12 tag [0x12] := handle_refused h hlen refused
  split
  · next x kind len mode take timing hx hkind hlen' hmode htake hnamed =>
    have hg := sourceSettingsOf_eq hkind hlen' hmode
    have rule := setSource_of_read (s := s.takeHead) hx hg htake hnamed
    rw [takeHead_lane] at rule
    dsimp only at rule ⊢
    split
    · next both => exact bad (rule.trans (if_pos both))
    · next other =>
      rw [if_neg other] at rule
      rw [schedulerRefusal_eq, ← takeHead_schedulerBar]
      cases bar : s.takeHead.schedulerBar take timing with
      | some r =>
        rw [bar] at rule
        exact handle_refused h hlen rule
      | none =>
        rw [bar] at rule
        rw [handle_anyPayload_of_requestAtHead setSource h hlen, rule]
        simp only [okOr_payload, ne_min_iff, Bool.or_eq_true, decide_eq_true_eq]
        rfl
  · next unread =>
    refine bad (setSource_of_unread ?_)
    by_contra read
    simp only [not_or, ← ne_eq, Option.ne_none_iff_exists'] at read
    obtain ⟨⟨x, hx⟩, ⟨g, hg⟩, ⟨take, htake⟩, timing, hnamed⟩ := read
    have fields : ¬ (sourceKindOf (byteAt p 1) (byteAt p 2) = none ∨ alignLengthOf (byteAt p 3) = none ∨
        alignModeOf (byteAt p 4) = none) := fun none_ => by
      rw [sourceSettingsOf_eq_none none_] at hg
      cases hg
    simp only [not_or, ← ne_eq, Option.ne_none_iff_exists'] at fields
    obtain ⟨⟨kind, hkind⟩, ⟨len, hlen'⟩, mode, hmode⟩ := fields
    exact unread x kind len mode take timing hx hkind hlen' hmode htake hnamed

/-! ## The change of the lane (R63, R66, R68) -/

/-- The lane takes the estimate `e` of its source where it is STOPPED and FOLLOWING (R66). -/
def Lane.estimated (l : Lane) (e : Option Nat) : Lane :=
  match e with
  | some i => if l.transport = .stopped ∧ l.follow = .following then { l with increment := i, glide := none } else l
  | none => l

theorem estimated_keeps (l : Lane) (e : Option Nat) :
    (l.estimated e).source = l.source ∧ (l.estimated e).transport = l.transport := by
  unfold Lane.estimated
  split
  · split <;> exact ⟨rfl, rfl⟩
  · exact ⟨rfl, rfl⟩

theorem takeEstimate_eq (s : State) (x : LaneId) :
    s.takeEstimate x = s.setLane x ((s.lane x).estimated (s.sourceEstimate x)) := by
  unfold State.takeEstimate
  simp only [Bool.and_eq_true, Bool.not_eq_true', isRunning_eq_false, beq_iff_eq]
  cases s.sourceEstimate x with
  | none => simp [Lane.estimated]
  | some i =>
    simp only [Lane.estimated]
    split
    · rfl
    · rw [setLane_lane]

/-- The lane's record under another source, whose lock state is `lock` (R68). -/
def Lane.resourced (l : Lane) (g : SourceSettings) (lock : Option LockState) : Lane :=
  { (l.withSource g).clearPull with barOffset := 0, follow := followUnder lock }

/-- What a SOURCE change does before the waiting joins of its lane are rebound (R68). -/
def State.sourced (s : State) (x : LaneId) (g : SourceSettings) : State :=
  if (s.lane x).source = g.kind then (s.setLane x ((s.lane x).withSource g)).rangeResidual x
  else ((s.setLane x ((s.lane x).resourced g (s.lockOf x g.kind))).takeEstimate x).laneSourceNotice x

section
variable (s : State) (x : LaneId)

theorem lockOf_setLane (l : Lane) (k : SourceKind) : (s.setLane x l).lockOf x k = s.lockOf x k := by
  cases k <;> cases x <;> rfl

variable {s x} {g : SourceSettings}

theorem applySource_eq (free : ¬ (g.kind = .lane ∧ (s.lane (otherLane x)).source = .lane)) : s.applySource x g =
    (((s.sourced x g).queue.filter (·.isJoinOf x)).foldl (fun t e => t.rebindJoin e x) (s.sourced x g), true) := by
  have lock : (s.modLane x (·.withSource g)).sourceLock x = s.lockOf x g.kind := by
    rw [State.sourceLock, State.modLane, lane_setLane_same, lockOf_setLane]
    rfl
  have sourced : (if (s.lane x).source = g.kind then (s.modLane x (·.withSource g)).rangeResidual x
      else (((s.modLane x (·.withSource g)).modLane x fun l => { l.clearPull with
        barOffset := 0
        follow := followUnder ((s.modLane x (·.withSource g)).sourceLock x) }).takeEstimate x).laneSourceNotice x) =
      s.sourced x g := by
    rw [lock, modLane_modLane]
    rfl
  unfold State.applySource
  rw [if_neg free, ← sourced]

theorem sourced_of_tracker (tracker : g.kind ≠ .lane) (other : (s.lane x).source ≠ g.kind) : s.sourced x g =
    s.setLane x (((s.lane x).resourced g (s.lockOf x g.kind)).estimated (s.estimateOf g.kind)) := by
  have estimate : (s.setLane x ((s.lane x).resourced g (s.lockOf x g.kind))).sourceEstimate x = s.estimateOf g.kind := by
    rw [sourceEstimate_of_source (by rw [lane_setLane_same]; rfl) tracker]
    cases g.kind <;> cases x <;> rfl
  rw [State.sourced, if_neg other, takeEstimate_eq, estimate, lane_setLane_same, setLane_setLane, State.laneSourceNotice,
    lane_setLane_same, (estimated_keeps ..).1]
  exact if_neg tracker

theorem sourced_of_lane (lane : g.kind = .lane) (other : (s.lane x).source ≠ .lane) :
    let o := s.lane (otherLane x)
    s.sourced x g = (s.setLane x (((s.lane x).resourced g (some (if o.isRunning then .locked else .holdover))).estimated
        (some o.increment))).post
      (if o.isRunning then .sourceLocked (.lane x) (incrementToTempo o.increment) none
        else .sourceHoldover (.lane x) (incrementToTempo o.increment) none) := by
  intro o
  have lock : s.lockOf x g.kind = some (if o.isRunning then .locked else .holdover) := by rw [lane]; rfl
  have estimate : (s.setLane x ((s.lane x).resourced g (s.lockOf x g.kind))).sourceEstimate x = some o.increment := by
    unfold State.sourceEstimate
    rw [lane_setLane_same, show ((s.lane x).resourced g (s.lockOf x g.kind)).source = .lane from lane, lane_setLane_other]
  rw [State.sourced, if_neg (by rw [lane]; exact other), takeEstimate_eq, estimate, lane_setLane_same, setLane_setLane,
    State.laneSourceNotice, lane_setLane_same, lane_setLane_other, (estimated_keeps ..).1, lock]
  exact if_pos lane

/-- A change that keeps the source brings the residual into the range of the new settings (R9, R68). -/
theorem sourced_of_same (same : (s.lane x).source = g.kind) :
    let l := (s.lane x).withSource g
    let r := clampResidual g.alignMode ((s.setLane x l).unitInForce x) l.residual
    s.sourced x g = if r = l.residual then s.setLane x l else (s.setLane x l).setResidual x r false := by
  rw [State.sourced, if_pos same, State.rangeResidual, lane_setLane_same]
  rfl

/-- The fold over no waiting join. -/
theorem applySource_of_no_join (free : ¬ (g.kind = .lane ∧ (s.lane (otherLane x)).source = .lane))
    (none_ : ∀ e ∈ (s.sourced x g).queue, e.isJoinOf x = false) : s.applySource x g = (s.sourced x g, true) := by
  rw [applySource_eq free, List.filter_eq_nil_iff.2 fun e mem => by simp [none_ e mem]]
  rfl

theorem touches_rangeResidual (s : State) (x : LaneId) : TouchesLanes s (s.rangeResidual x) := by
  refine .ite (.refl s) ?_
  rw [setResidual_false]
  exact .ite ((touches_setLane s x _).trans (touches_post _ _)) (touches_setLane s x _)

theorem touches_sourced (s : State) (x : LaneId) (g : SourceSettings) : TouchesLanes s (s.sourced x g) :=
  .ite ((touches_setLane s x _).trans (touches_rangeResidual _ x))
    ((touches_setLane s x _).trans ((touches_takeEstimate _ x).trans (.ite (touches_post _ _) (.refl _))))

theorem sourced_queue (s : State) (x : LaneId) (g : SourceSettings) : (s.sourced x g).queue = s.queue := by
  rw [touches_sourced s x g]

/-! ## What a SOURCE change does not read -/

/-- The state with another queue of entries. -/
def State.withQueue (s : State) (q : List Entry) : State := { s with queue := q }

section
variable (s : State) (q : List Entry) (x : LaneId)

theorem post_withQueue (n : NoticeBody) : (s.withQueue q).post n = (s.post n).withQueue q := by
  have link : ((s.withQueue q).post n).link = (s.post n).link := post_link_congr (s := s) (t := s.withQueue q) rfl rfl n
  have told := post_eq_modLink (s := s.withQueue q) n
  rw [link] at told
  exact told.trans (congrArg (·.withQueue q) (post_eq_modLink (s := s) n)).symm

theorem ite_withQueue (p : Prop) [Decidable p] (s t : State) (q : List Entry) :
    (if p then s.withQueue q else t.withQueue q) = (if p then s else t).withQueue q :=
  (apply_ite (·.withQueue q) p s t).symm

theorem setLane_withQueue (l : Lane) : (s.withQueue q).setLane x l = (s.setLane x l).withQueue q := by
  cases x <;> rfl

theorem lane_withQueue : (s.withQueue q).lane x = s.lane x := by
  cases x <;> rfl

theorem setResidual_withQueue (r : Int) :
    (s.withQueue q).setResidual x r false = (s.setResidual x r false).withQueue q := by
  rw [setResidual_false, setResidual_false, lane_withQueue, setLane_withQueue]
  dsimp only
  rw [post_withQueue]
  exact ite_withQueue ..

theorem rangeResidual_withQueue : (s.withQueue q).rangeResidual x = (s.rangeResidual x).withQueue q := by
  have unit : (s.withQueue q).unitInForce x = s.unitInForce x := by cases x <;> rfl
  unfold State.rangeResidual
  rw [lane_withQueue, unit]
  dsimp only
  rw [setResidual_withQueue]
  exact ite_withQueue ..

theorem takeEstimate_withQueue : (s.withQueue q).takeEstimate x = (s.takeEstimate x).withQueue q := by
  have estimate : (s.withQueue q).sourceEstimate x = s.sourceEstimate x := by cases x <;> rfl
  rw [takeEstimate_eq, takeEstimate_eq, lane_withQueue, estimate, setLane_withQueue]

theorem laneSourceNotice_withQueue : (s.withQueue q).laneSourceNotice x = (s.laneSourceNotice x).withQueue q := by
  unfold State.laneSourceNotice
  rw [lane_withQueue, lane_withQueue]
  dsimp only
  rw [post_withQueue]
  exact ite_withQueue ..

theorem sourced_withQueue (g : SourceSettings) : (s.withQueue q).sourced x g = (s.sourced x g).withQueue q := by
  have lock : (s.withQueue q).lockOf x g.kind = s.lockOf x g.kind := by
    cases g.kind <;> cases x <;> rfl
  unfold State.sourced
  rw [lane_withQueue, lock, setLane_withQueue, setLane_withQueue, rangeResidual_withQueue, takeEstimate_withQueue,
    laneSourceNotice_withQueue]
  exact ite_withQueue ..

end

/-! ## The rebinding of a waiting join (R79) -/

theorem rangeResidual_keeps (s : State) (x : LaneId) : ((s.rangeResidual x).lane x).source = (s.lane x).source ∧
    ((s.rangeResidual x).lane x).transport = (s.lane x).transport := by
  unfold State.rangeResidual
  dsimp only
  split
  · exact ⟨rfl, rfl⟩
  · rw [setResidual_false]
    dsimp only
    split
    · rw [lane_post, lane_setLane_same]
      exact ⟨rfl, rfl⟩
    · rw [lane_setLane_same]
      exact ⟨rfl, rfl⟩

theorem sourced_keeps (s : State) (x : LaneId) (g : SourceSettings) :
    ((s.sourced x g).lane x).source = g.kind ∧ ((s.sourced x g).lane x).transport = (s.lane x).transport := by
  unfold State.sourced
  split
  · rw [(rangeResidual_keeps ..).1, (rangeResidual_keeps ..).2, lane_setLane_same]
    exact ⟨rfl, rfl⟩
  · have told (t : State) : (t.laneSourceNotice x).lane x = t.lane x := by
      unfold State.laneSourceNotice
      dsimp only
      split
      · exact lane_post ..
      · rfl
    rw [told, takeEstimate_eq, lane_setLane_same, (estimated_keeps ..).1, (estimated_keeps ..).2, lane_setLane_same]
    exact ⟨rfl, rfl⟩

/-- A waiting join asks anew: a wait that does not change changes nothing. -/
theorem setWait_eq {s : State} {x : LaneId} {e : Entry} {before after : List Entry} (queue : s.queue = before ++ e :: after)
    (distinct : s.idsDistinct) (w : JoinWait) : s.setWait e x w = if e.due = .join w then s else
      { s with
        queue := before ++ { e with timing := x, due := .join w } :: after
        generation := s.generation + 1 } := by
  refine if_congr Iff.rfl rfl ?_
  rw [retime_of_queue queue distinct]
  rfl

theorem plainJoin_of_joinable {s : State} {x : LaneId} {e : Entry} {before after : List Entry}
    (queue : s.queue = before ++ e :: after) (distinct : s.idsDistinct) (joinable : (s.lane x).source.joinable = true) :
    let gone : State := { s with queue := before ++ after, generation := s.generation + 1 }
    s.plainJoin e x = if (s.lane x).transport = .running then gone.postApplied e false
      else (gone.startLane x).postApplied e true := by
  intro gone
  have removed := removeEntry_of_queue queue distinct
  split
  · next runs =>
    rw [plainJoin_of_barred (by rw [isRunning_eq_true.2 runs]; rfl), removed]
  · next idle =>
    rw [plainJoin_of_free (by simpa [joinable, isRunning_eq_true] using idle), removed]

theorem rebindJoin_eq {s : State} {x : LaneId} {e : Entry} {before after : List Entry}
    (queue : s.queue = before ++ e :: after) (distinct : s.idsDistinct) :
    let gone : State := { s with queue := before ++ after, generation := s.generation + 1 }
    let locked := s.sourceLock x = some .locked
    let waits (w : JoinWait) : State := if e.due = .join w then s else
      { s with
        queue := before ++ { e with timing := x, due := .join w } :: after
        generation := s.generation + 1 }
    let plain : State := if (s.lane x).transport = .running then gone.postApplied e false
      else (gone.startLane x).postApplied e true
    s.rebindJoin e x = match (s.lane x).source with
      | .bus n => if locked then waits (.bus n (s.predictedOf (.bus n))) else plain
      | .lane => if locked then (if e.joinsOn x .lane = true then s else waits (.lane false)) else plain
      | _ => gone.postApplied e false := by
  intro gone locked waits plain
  have asked (w : JoinWait) : s.setWait e x w = waits w := setWait_eq queue distinct w
  have started (joinable : (s.lane x).source.joinable = true) : s.plainJoin e x = plain :=
    plainJoin_of_joinable queue distinct joinable
  have ignored (other : (s.lane x).source.joinable = false) : s.plainJoin e x = gone.postApplied e false := by
    rw [plainJoin_of_barred (by rw [other, Bool.not_false, Bool.or_true]), removeEntry_of_queue queue distinct]
  unfold State.rebindJoin
  cases kind : (s.lane x).source with
  | bus n =>
    rw [← started (by rw [kind]; rfl)]
    refine if_congr (by simp [SourceKind.joinable, locked]) ((if_neg ?_).trans (asked _)) rfl
    simp
  | lane =>
    rw [← asked, ← started (by rw [kind]; rfl)]
    exact if_congr (by simp [SourceKind.joinable, locked]) (if_congr (by simp) rfl rfl) rfl
  | _ => exact ignored (by rw [kind]; rfl)

end

/-- Settles O27: the request by R67's checks, the change by its source, and the one waiting join by the new source. -/
theorem setSourceRequest : Obligations.SetSourceRequest := by
  refine ⟨fun s tag p h hlen => setSource_answer h hlen, fun s x g => ?_, fun s x g lane => ?_, fun s x g => ?_,
    fun s x g e before after queue distinct join others alone => ?_⟩
  · intro l tracker other none_ lock follow changed estimate
    have free : ¬ (g.kind = .lane ∧ (s.lane (otherLane x)).source = .lane) := fun h => tracker h.1
    rw [applySource_of_no_join free (by rw [sourced_queue]; exact none_), sourced_of_tracker tracker other]
    have lock_eq : s.lockOf x g.kind = lock := by
      cases kind : g.kind with
      | lane => exact absurd kind tracker
      | _ => simp only [lock, kind]; rfl
    have estimate_eq : s.estimateOf g.kind = estimate := by
      cases kind : g.kind <;> simp only [estimate, kind] <;> rfl
    have follow_eq : followUnder lock = follow := rfl
    have record : l.resourced g lock = changed := by
      rw [Lane.resourced, follow_eq]
      rfl
    rw [lock_eq, estimate_eq, record]
    have transport : changed.transport = l.transport := rfl
    have follows : changed.follow = follow := rfl
    unfold Lane.estimated
    rw [transport, follows]
    cases follow <;> cases estimate <;> simp
  · intro l o
    refine ⟨fun both => if_pos ⟨lane, both⟩, fun alone other none_ => ?_⟩
    intro runs changed
    rw [applySource_of_no_join (fun h => alone h.2) (by rw [sourced_queue]; exact none_), sourced_of_lane lane other]
    have follow : followUnder (some (if o.isRunning then .locked else .holdover)) =
        if runs then .following else .holdover := by
      cases running : o.transport <;> simp [runs, Lane.isRunning, running, followUnder]
    have live : o.isRunning = runs := by rw [Bool.eq_iff_iff, isRunning_eq_true]; simp [runs]
    have record : l.resourced g (some (if o.isRunning then .locked else .holdover)) = changed := by
      rw [Lane.resourced, follow, Lane.withSource, lane]
      rfl
    have locks : (l.transport = .stopped ∧ changed.follow = .following) ↔ (runs = true ∧ l.transport = .stopped) := by
      rw [show changed.follow = if runs then .following else .holdover from rfl, and_comm]
      cases runs <;> simp
    rw [record, live, Lane.estimated]
    exact congrArg (fun m => ((s.setLane x m).post _, true)) (if_congr locks rfl rfl)
  · intro l same alone none_ len L low high r changed ranged
    have free : ¬ (g.kind = .lane ∧ (s.lane (otherLane x)).source = .lane) := fun h => alone h.1 h.2
    rw [applySource_of_no_join free (by rw [sourced_queue]; exact none_), sourced_of_same same]
    have ref : (s.setLane x (l.withSource g)).ref = s.ref := by cases x <;> rfl
    have len_eq : (s.setLane x (l.withSource g)).alignInForce x = len := by
      unfold State.alignInForce
      rw [lane_setLane_same, ref]
      simp only [len, Lane.withSource]
      cases g.kind with
      | reference => cases s.ref.downbeat <;> simp
      | _ => rfl
    have r_eq : clampResidual g.alignMode ((s.setLane x (l.withSource g)).unitInForce x) l.residual = r := by
      rw [State.unitInForce, len_eq, lane_setLane_same]
      exact clampResidual_eq ..
    have record : l.withSource g = changed := by
      rw [Lane.withSource, ← same]
    have residual : (l.withSource g).residual = l.residual := rfl
    rw [residual, r_eq, setResidual_false, lane_setLane_same, setLane_setLane, record]
  · intro changed gone locked waits
    have free : ¬ (g.kind = .lane ∧ (s.lane (otherLane x)).source = .lane) := fun h => alone h.1 h.2
    have sourced : changed = s.sourced x g := by
      have unread := sourced_withQueue s (before ++ after) x g
      have first := applySource_of_no_join (s := s.withQueue (before ++ after)) (x := x) (g := g)
        (by rw [lane_withQueue]; exact free) (by rw [sourced_queue]; exact others)
      rw [unread] at first
      refine (congrArg (fun p : State × Bool => { p.1 with queue := s.queue }) first).trans ?_
      rw [touches_sourced s x g]
      rfl
    have touched : TouchesLanes s changed := sourced ▸ touches_sourced s x g
    have queue' : changed.queue = before ++ e :: after := by rw [touched]; exact queue
    have distinct' : changed.idsDistinct := by
      rw [touched]
      exact distinct
    have generation : changed.generation = s.generation := by rw [touched]
    have keeps := sourced_keeps s x g
    rw [← sourced] at keeps
    have one : (changed.queue.filter (·.isJoinOf x)) = [e] := by rw [queue', filter_eq_singleton_of others join]
    have rebound := rebindJoin_eq (x := x) queue' distinct'
    rw [keeps.1, keeps.2, generation] at rebound
    rw [applySource_eq free, ← sourced, one, List.foldl_cons, List.foldl_nil]
    exact congrArg (·, true) rebound

end Sys2Proof.Machine

/-! The stop of a lane (O30): its channels and entries, the breaks and handovers it ends, the lane that follows it and a
join that waits for it. -/

namespace Sys2Proof.Machine

theorem mem_allRecords (r : Fin 4) : r ∈ allRecords := by fin_cases r <;> decide

/-! ## Notices that may be posted -/

/-- The notice posted, where there is one. -/
def State.report (s : State) : Option NoticeBody → State
  | none => s
  | some n => s.post n

/-- A notice posted by a state with the link and the clock of `s`. -/
theorem post_of_congr {s t : State} (link : t.link = s.link) (clock : t.clock = s.clock) (n : NoticeBody) :
    t.post n = { t with link := (s.post n).link } := by
  rw [← post_link_congr link clock n]
  exact post_eq_modLink n

theorem report_frame (s : State) (n : Option NoticeBody) : s.report n = { s with link := (s.report n).link } := by
  cases n with
  | none => rfl
  | some n => exact post_eq_modLink n

theorem report_link_congr {s t : State} (link : t.link = s.link) (clock : t.clock = s.clock) (n : Option NoticeBody) :
    (t.report n).link = (s.report n).link := by
  cases n with
  | none => exact link
  | some n => exact post_link_congr link clock n

/-- The notices of `f` for the records `l`, in order. -/
def State.reportAll (s : State) (f : Fin 4 → Option NoticeBody) (l : List (Fin 4)) : State :=
  l.foldl (fun t r => t.report (f r)) s

theorem reportAll_frame (s : State) (f : Fin 4 → Option NoticeBody) (l : List (Fin 4)) :
    s.reportAll f l = { s with link := (s.reportAll f l).link } := by
  have keeps : ∃ link, s.reportAll f l = { s with link := link } := by
    refine foldl_keeps (P := fun t => ∃ link, t = { s with link := link }) s l (fun t r _ h => ?_) ⟨s.link, rfl⟩
    obtain ⟨link, rfl⟩ := h
    exact ⟨_, report_frame ..⟩
  obtain ⟨link, h⟩ := keeps
  rw [h]

theorem reportAll_link_congr {s t : State} (link : t.link = s.link) (clock : t.clock = s.clock)
    (f : Fin 4 → Option NoticeBody) (l : List (Fin 4)) : (t.reportAll f l).link = (s.reportAll f l).link := by
  unfold State.reportAll
  induction l generalizing s t with
  | nil => exact link
  | cons r l ih =>
    have same (u : State) : (u.report (f r)).clock = u.clock := by rw [report_frame u]
    exact ih (report_link_congr link clock _) ((same t).trans (clock.trans (same s).symm))

theorem reportAll_append (s : State) (f : Fin 4 → Option NoticeBody) (l : List (Fin 4)) (r : Fin 4) :
    s.reportAll f (l ++ [r]) = (s.reportAll f l).report (f r) := List.foldl_append ..

/-! ## The stop of a lane for one break record (R139, R140) -/

/-- The channel leaves record `r`, which holds `b`, when lane `x` stops. -/
def Channel.leavesAtStop (x : LaneId) (r : Fin 4) (b : BreakRecord) (c : Channel) : Bool :=
  match c.brk with
  | some m => m.record == r && (c.cfg.lane == x || (b.timing == x && !m.entered))
  | none => false

theorem leavesAtStop_member {x : LaneId} {r : Fin 4} {b : BreakRecord} {c : Channel}
    (leaves : c.leavesAtStop x r b = true) : c.inBreakRecord r = true := by
  unfold Channel.leavesAtStop at leaves
  unfold Channel.inBreakRecord
  cases h : c.brk with
  | none =>
    rw [h] at leaves
    cases leaves
  | some m =>
    rw [h] at leaves
    exact (Bool.and_eq_true_iff.1 leaves).1

section
variable (s : State) (x : LaneId) (r : Fin 4) (b : BreakRecord)

/-- Every member of the record leaves it at the stop. -/
def State.endsAtStop : Bool :=
  decide (∀ n, (s.chan n).inBreakRecord r = true → (s.chan n).leavesAtStop x r b = true)

/-- The record sees the stop. -/
def State.seesStop : Bool := b.timing == x || decide (∃ n, (s.chan n).leavesAtStop x r b = true)

/-- What the stop makes of record `r`. -/
def State.brkAtStop : Option BreakRecord :=
  match s.brk r with
  | none => none
  | some b => if s.endsAtStop x r b then none else some { b with stopSeen := b.stopSeen || s.seesStop x r b }

/-- The notice of record `r` at the stop. -/
def State.breakDoneAtStop : Option NoticeBody :=
  match s.brk r with
  | none => none
  | some b =>
    if s.endsAtStop x r b then
      some (.breakDone r (if s.seesStop x r b then .stopped else b.reason) b.mode b.set b.completed)
    else none

/-- The members that leave at the stop have left; `b` is the record as it stands. -/
def State.membersLeft : State :=
  s.forChannels fun n t => if (t.chan n).leavesAtStop x r b then t.dropMember n .stop else t

variable {s x r b}

theorem dropMember_of_leaving {n : Fin 16} (leaves : (s.chan n).leavesAtStop x r b = true) :
    s.dropMember n .stop = (s.modChan n fun c => { c with brk := none }).modBrk r (·.see .stop) := by
  have member := leavesAtStop_member leaves
  unfold Channel.inBreakRecord at member
  unfold State.dropMember
  cases h : (s.chan n).brk with
  | none =>
    rw [h] at member
    cases member
  | some m =>
    rw [h] at member
    rw [← beq_iff_eq.1 member]

theorem chan_membersLeft (n : Fin 16) : (s.membersLeft x r b).chan n =
    if (s.chan n).leavesAtStop x r b then { s.chan n with brk := none } else s.chan n := by
  refine forChannels_chan s (g := fun _ c => if c.leavesAtStop x r b then { c with brk := none } else c) (fun n t m => ?_) n
  by_cases leaves : (t.chan n).leavesAtStop x r b = true
  · rw [if_pos leaves, if_pos leaves, dropMember_of_leaving leaves, State.modBrk, chan_setBrk, chan_modChan]
  · rw [if_neg leaves, if_neg leaves]
    split
    · next same => rw [same]
    · rfl

theorem onlyBreaks_membersLeft : OnlyBreaks s (s.membersLeft x r b) := by
  refine forChannels_keeps (P := OnlyBreaks s) s (fun n t h => ?_) ⟨s.breaks, s.channels, rfl⟩
  split
  · next leaves =>
    rw [dropMember_of_leaving leaves]
    exact h.trans ((onlyBreaks_modChan t n _).trans (onlyBreaks_setBrk _ r _))
  · exact h

theorem brk_membersLeft_other {q : Fin 4} (other : q ≠ r) : (s.membersLeft x r b).brk q = s.brk q := by
  refine forChannels_keeps (P := fun t => t.brk q = s.brk q) s (fun n t h => ?_) rfl
  split
  · next leaves => rw [dropMember_of_leaving leaves, brk_modBrk, if_neg other, brk_modChan, h]
  · exact h

/-- The record has seen the stop exactly where a member has left at it. -/
theorem brk_membersLeft {a : BreakRecord} (held : s.brk r = some a) : (s.membersLeft x r b).brk r =
    some { a with stopSeen := a.stopSeen || decide (∃ n, (s.chan n).leavesAtStop x r b = true) } := by
  have gone (c : Channel) : Channel.leavesAtStop x r b { c with brk := none } = false := rfl
  have seen : (∀ n, ((s.membersLeft x r b).chan n).leavesAtStop x r b = true → (s.chan n).leavesAtStop x r b = true) ∧
      (((s.membersLeft x r b).brk r = some a ∧
        ∀ n, (s.chan n).leavesAtStop x r b = true → ((s.membersLeft x r b).chan n).leavesAtStop x r b = true) ∨
      ((s.membersLeft x r b).brk r = some (a.see .stop) ∧ ∃ n, (s.chan n).leavesAtStop x r b = true)) := by
    refine forChannels_keeps (P := fun t => (∀ n, (t.chan n).leavesAtStop x r b = true → (s.chan n).leavesAtStop x r b = true) ∧
      ((t.brk r = some a ∧ ∀ n, (s.chan n).leavesAtStop x r b = true → (t.chan n).leavesAtStop x r b = true) ∨
      (t.brk r = some (a.see .stop) ∧ ∃ n, (s.chan n).leavesAtStop x r b = true))) s (fun n t h => ?_)
      ⟨fun n => id, .inl ⟨held, fun n => id⟩⟩
    obtain ⟨back, record⟩ := h
    by_cases leaves : (t.chan n).leavesAtStop x r b = true
    · rw [if_pos leaves, dropMember_of_leaving leaves]
      refine ⟨fun m => ?_, .inr ⟨?_, n, back n leaves⟩⟩
      · rw [State.modBrk, chan_setBrk, chan_modChan]
        split
        · rw [gone]
          exact fun h => absurd h Bool.false_ne_true
        · exact back m
      · rw [brk_modBrk, if_pos rfl, brk_modChan]
        rcases record with ⟨first, -⟩ | ⟨again, -⟩
        · rw [first, Option.map_some]
        · rw [again, Option.map_some]
          rfl
    · rw [if_neg leaves]
      exact ⟨back, record⟩
  obtain ⟨-, ⟨first, keeps⟩ | ⟨left, n, leaves⟩⟩ := seen
  · have none_ : ¬ ∃ n, (s.chan n).leavesAtStop x r b = true := by
      rintro ⟨n, leaves⟩
      have still := keeps n leaves
      rw [chan_membersLeft, if_pos leaves, gone] at still
      cases still
    rw [first, decide_eq_false none_, Bool.or_false]
  · rw [left, decide_eq_true ⟨n, leaves⟩, Bool.or_true]
    rfl

/-- The stop of lane `x` for a record that holds a break. -/
theorem stopBreak_eq (held : s.brk r = some b) : s.stopBreak x r =
    State.finishBreak ((s.setBrk r (some { b with stopSeen := b.stopSeen || b.timing == x })).membersLeft x r b) r := by
  have seen : (if b.timing = x then s.modBrk r (·.see .stop) else s) =
      s.setBrk r (some { b with stopSeen := b.stopSeen || b.timing == x }) := by
    by_cases timing : b.timing = x
    · rw [if_pos timing, State.modBrk, held, beq_iff_eq.2 timing, Bool.or_true]
      rfl
    · rw [if_neg timing, beq_eq_false_iff_ne.2 timing, Bool.or_false]
      have same := setBrk_brk s r
      rw [held] at same
      exact same.symm
  unfold State.stopBreak
  rw [held]
  exact congrArg (fun u => State.finishBreak (State.membersLeft u x r b) r) seen

theorem stopBreak_of_none (free : s.brk r = none) : s.stopBreak x r = s := by
  unfold State.stopBreak
  rw [free]

theorem leavesAtStop_setBrk (q : Fin 4) (a : Option BreakRecord) (n : Fin 16) :
    ((s.setBrk q a).chan n).leavesAtStop x r b = (s.chan n).leavesAtStop x r b := rfl

theorem reason_seen (b : BreakRecord) (seen : Bool) :
    BreakRecord.reason { b with stopSeen := b.stopSeen || seen } = if seen then .stopped else b.reason := by
  cases seen <;> simp [BreakRecord.reason]

/-- Every lane's channels stand as the stop of the record leaves them, and the record and its notice follow. -/
theorem stopBreak_facts (s : State) (x : LaneId) (r : Fin 4) :
    (∀ n, (s.stopBreak x r).chan n = match s.brk r with
      | none => s.chan n
      | some b => if (s.chan n).leavesAtStop x r b then { s.chan n with brk := none } else s.chan n) ∧
    (∀ q, (s.stopBreak x r).brk q = if q = r then s.brkAtStop x r else s.brk q) ∧
    (s.stopBreak x r).link = (s.report (s.breakDoneAtStop x r)).link ∧
    s.stopBreak x r = { s with
      breaks := (s.stopBreak x r).breaks
      channels := (s.stopBreak x r).channels
      link := (s.stopBreak x r).link } := by
  cases held : s.brk r with
  | none =>
    rw [stopBreak_of_none held]
    refine ⟨fun n => rfl, fun q => ?_, ?_, rfl⟩
    · split
      · next same => rw [same, held, State.brkAtStop, held]
      · rfl
    · rw [State.breakDoneAtStop, held]
      rfl
  | some b =>
    rw [stopBreak_eq held]
    generalize seen : s.setBrk r (some { b with stopSeen := b.stopSeen || b.timing == x }) = u
    have chan_u (n : Fin 16) : u.chan n = s.chan n := by rw [← seen]; rfl
    have frame : OnlyBreaks s (u.membersLeft x r b) := by
      rw [← seen]
      exact (onlyBreaks_setBrk s r _).trans onlyBreaks_membersLeft
    have chan (n : Fin 16) : (u.membersLeft x r b).chan n =
        if (s.chan n).leavesAtStop x r b then { s.chan n with brk := none } else s.chan n := by
      rw [chan_membersLeft, chan_u]
    have other {q : Fin 4} (h : q ≠ r) : (u.membersLeft x r b).brk q = s.brk q := by
      rw [brk_membersLeft_other h, ← seen, brk_setBrk, if_neg h]
    have record : (u.membersLeft x r b).brk r = some { b with stopSeen := b.stopSeen || s.seesStop x r b } := by
      have held_u : u.brk r = some { b with stopSeen := b.stopSeen || b.timing == x } := by
        rw [← seen, brk_setBrk, if_pos rfl]
      rw [brk_membersLeft held_u]
      simp only [chan_u, State.seesStop, Bool.or_assoc]
    have left (n : Fin 16) : (u.membersLeft x r b).inBreakRecord r n =
        ((s.chan n).inBreakRecord r && !(s.chan n).leavesAtStop x r b) := by
      rw [inBreakRecord_eq, chan]
      by_cases leaves : (s.chan n).leavesAtStop x r b = true
      · rw [if_pos leaves, leaves, Bool.not_true, Bool.and_false]
        rfl
      · rw [if_neg leaves, Bool.eq_false_iff.2 leaves, Bool.not_false, Bool.and_true]
    generalize u.membersLeft x r b = v at chan frame other record left
    by_cases ends : s.endsAtStop x r b = true
    · have empty (n : Fin 16) : v.inBreakRecord r n = false := by
        rw [left]
        by_cases member : (s.chan n).inBreakRecord r = true
        · rw [of_decide_eq_true ends n member, Bool.not_true, Bool.and_false]
        · rw [Bool.eq_false_iff.2 member, Bool.false_and]
      obtain ⟨brk, link, only⟩ := finishBreak_frame frame record empty
      refine ⟨fun n => ?_, fun q => ?_, ?_, only⟩
      · rw [finishBreak_of_empty v record empty, chan_post, chan_setBrk]
        exact chan n
      · rw [brk, State.brkAtStop, held]
        dsimp only
        rw [if_pos ends]
        split
        · rfl
        · next h => exact other h
      · rw [link, State.breakDoneAtStop, held]
        dsimp only
        rw [if_pos ends, reason_seen]
        rfl
    · have member : ∃ n, v.inBreakRecord r n = true := by
        obtain ⟨n, member, stays⟩ : ∃ n, (s.chan n).inBreakRecord r = true ∧ (s.chan n).leavesAtStop x r b = false := by
          simpa [State.endsAtStop] using ends
        refine ⟨n, ?_⟩
        rw [left, member, stays]
        rfl
      obtain ⟨n, member⟩ := member
      rw [finishBreak_of_member v member]
      obtain link : v.link = s.link := by
        obtain ⟨_, _, rfl⟩ := frame
        rfl
      refine ⟨chan, fun q => ?_, ?_, ?_⟩
      · rw [State.brkAtStop, held]
        dsimp only
        rw [if_neg ends]
        split
        · next same => rw [same, record]
        · next h => exact other h
      · rw [link, State.breakDoneAtStop, held]
        dsimp only
        rw [if_neg ends]
        rfl
      · rw [link]
        exact frame.frame

end

/-! ## The stop of a lane for all break records -/

/-- The membership that the stop of lane `x` leaves a channel, among the records `l`. -/
def State.memberAtStop (s : State) (x : LaneId) (l : List (Fin 4)) (c : Channel) : Option BreakMembership :=
  match c.brk with
  | none => none
  | some m => match s.brk m.record with
    | none => some m
    | some b => if m.record ∈ l ∧ c.leavesAtStop x m.record b = true then none else some m

section
variable {s : State} {x : LaneId} {l : List (Fin 4)} {c : Channel}

theorem memberAtStop_nil : s.memberAtStop x [] c = c.brk := by
  unfold State.memberAtStop
  split
  · next h => rw [h]
  · next m h =>
    rw [h]
    split
    · rfl
    · exact if_neg fun h => List.not_mem_nil h.1

/-- A record that is not among those stopped keeps its members. -/
theorem brk_memberAtStop_other {r : Fin 4} (other : r ∉ l) (p : BreakMembership → Bool) (hp : ∀ m, p m = true → m.record = r) :
    (s.memberAtStop x l c).any p = c.brk.any p := by
  unfold State.memberAtStop
  cases c.brk with
  | none => rfl
  | some m =>
    dsimp only
    split
    · rfl
    · split
      · next h =>
        refine (Bool.eq_false_iff.2 fun own => other ?_).symm
        rw [← hp m own]
        exact h.1
      · rfl

theorem leavesAtStop_eq_any (r : Fin 4) (b : BreakRecord) : c.leavesAtStop x r b =
    c.brk.any fun m => m.record == r && (c.cfg.lane == x || (b.timing == x && !m.entered)) := by
  unfold Channel.leavesAtStop
  cases c.brk <;> rfl

theorem inBreakRecord_eq_any (r : Fin 4) : c.inBreakRecord r = c.brk.any fun m => m.record == r := by
  unfold Channel.inBreakRecord
  cases c.brk <;> rfl

theorem leavesAtStop_memberAtStop {r : Fin 4} (other : r ∉ l) (b : BreakRecord) :
    Channel.leavesAtStop x r b { c with brk := s.memberAtStop x l c } = c.leavesAtStop x r b := by
  rw [leavesAtStop_eq_any, leavesAtStop_eq_any]
  exact brk_memberAtStop_other other _ fun m h => beq_iff_eq.1 (Bool.and_eq_true_iff.1 h).1

theorem inBreakRecord_memberAtStop {r : Fin 4} (other : r ∉ l) :
    Channel.inBreakRecord r { c with brk := s.memberAtStop x l c } = c.inBreakRecord r := by
  rw [inBreakRecord_eq_any, inBreakRecord_eq_any]
  exact brk_memberAtStop_other other _ fun m h => beq_iff_eq.1 h

/-- The membership once one record more has been stopped. -/
theorem memberAtStop_append (r : Fin 4) : s.memberAtStop x (l ++ [r]) c = match s.brk r with
    | none => s.memberAtStop x l c
    | some b => if c.leavesAtStop x r b then none else s.memberAtStop x l c := by
  unfold State.memberAtStop
  cases h : c.brk with
  | none => cases s.brk r <;> simp
  | some m =>
    dsimp only
    by_cases own : m.record = r
    · subst own
      cases s.brk m.record with
      | none => rfl
      | some b => by_cases leaves : c.leavesAtStop x m.record b = true <;> simp [leaves]
    · have stays (b : BreakRecord) : c.leavesAtStop x r b = false := by
        rw [leavesAtStop_eq_any, h, Option.any_some, beq_eq_false_iff_ne.2 own, Bool.false_and]
      have among : m.record ∈ l ++ [r] ↔ m.record ∈ l := by simp [own]
      simp only [among]
      cases s.brk r with
      | none => rfl
      | some b => simp [stays]

end

theorem stopBreaks_facts (s : State) (x : LaneId) {l : List (Fin 4)} (nodup : l.Nodup) :
    let t := l.foldl (fun t r => t.stopBreak x r) s
    (∀ n, t.chan n = { s.chan n with brk := s.memberAtStop x l (s.chan n) }) ∧
    (∀ q, t.brk q = if q ∈ l then s.brkAtStop x q else s.brk q) ∧
    t.link = (s.reportAll (s.breakDoneAtStop x) l).link ∧
    t = { s with breaks := t.breaks, channels := t.channels, link := t.link } := by
  induction l using List.reverseRecOn with
  | nil => exact ⟨fun n => by rw [memberAtStop_nil]; rfl, fun q => by simp, rfl, rfl⟩
  | append_singleton l r ih =>
    rw [List.foldl_append, List.foldl_cons, List.foldl_nil]
    obtain ⟨chan, brk, link, frame⟩ := ih (List.nodup_append.1 nodup).1
    have fresh : r ∉ l := fun h => (List.nodup_append.1 nodup).2.2 r h r (List.mem_singleton.2 rfl) rfl
    generalize l.foldl (fun t r => t.stopBreak x r) s = t at chan brk link frame
    have held : t.brk r = s.brk r := by rw [brk, if_neg fresh]
    have leaves (n : Fin 16) (b : BreakRecord) : (t.chan n).leavesAtStop x r b = (s.chan n).leavesAtStop x r b := by
      rw [chan, leavesAtStop_memberAtStop fresh]
    have member (n : Fin 16) : (t.chan n).inBreakRecord r = (s.chan n).inBreakRecord r := by
      rw [chan, inBreakRecord_memberAtStop fresh]
    have ends (b : BreakRecord) : t.endsAtStop x r b = s.endsAtStop x r b := by
      simp only [State.endsAtStop, leaves, member]
    have sees (b : BreakRecord) : t.seesStop x r b = s.seesStop x r b := by
      simp only [State.seesStop, leaves]
    have record : t.brkAtStop x r = s.brkAtStop x r := by
      simp only [State.brkAtStop, held, ends, sees]
    have notice : t.breakDoneAtStop x r = s.breakDoneAtStop x r := by
      simp only [State.breakDoneAtStop, held, ends, sees]
    obtain ⟨chan', brk', link', frame'⟩ := stopBreak_facts t x r
    rw [held] at chan'
    rw [record] at brk'
    rw [notice] at link'
    dsimp only
    refine ⟨fun n => ?_, fun q => ?_, ?_, ?_⟩
    · rw [chan', memberAtStop_append]
      cases s.brk r with
      | none => exact chan n
      | some b =>
        dsimp only
        rw [leaves, chan]
        split <;> rfl
    · rw [brk', brk]
      by_cases own : q = r
      · subst own
        simp
      · simp [own]
    · rw [link', reportAll_append]
      refine report_link_congr ?_ ?_ _
      · rw [link]
      · rw [frame, reportAll_frame]
    · generalize t.stopBreak x r = u at frame'
      rw [frame] at frame'
      exact frame'

/-! ## The stop of a lane for the handover records (R36, R155) -/

/-- The notice of handover record `r` at a stop. -/
def State.handoverDoneAtStop (s : State) (r : Fin 4) : Option NoticeBody :=
  match s.ho r with
  | none => none
  | some h => some (.handoverDone r .cancelled h.fromLane h.toLane h.set h.switched h.switchBeat)

/-- Every record joins the two lanes, so that the stop of either cancels it. -/
theorem stopHandover_of_held {s : State} {x : LaneId} {r : Fin 4} {h : HandoverRecord} (held : s.ho r = some h) :
    s.stopHandover x r = s.cancelHandover r := by
  unfold State.stopHandover
  rw [held]
  refine if_pos ?_
  unfold HandoverRecord.fromLane
  cases h.toLane <;> cases x <;> rfl

theorem stopHandover_facts (s : State) (x : LaneId) (r : Fin 4) :
    (∀ n, (s.stopHandover x r).chan n = match s.ho r with
      | none => s.chan n
      | some _ => if (s.chan n).inHandoverRecord r then { s.chan n with ho := none } else s.chan n) ∧
    (∀ q, (s.stopHandover x r).ho q = if q = r then none else s.ho q) ∧
    (s.stopHandover x r).link = (s.report (s.handoverDoneAtStop r)).link ∧
    s.stopHandover x r = { s with
      handovers := (s.stopHandover x r).handovers
      channels := (s.stopHandover x r).channels
      link := (s.stopHandover x r).link } := by
  cases held : s.ho r with
  | none =>
    have same : s.stopHandover x r = s := by
      unfold State.stopHandover
      rw [held]
    rw [same, State.handoverDoneAtStop, held]
    refine ⟨fun n => rfl, fun q => ?_, rfl, rfl⟩
    split
    · next own => rw [own, held]
    · rfl
  | some h =>
    rw [stopHandover_of_held held, cancelHandover_eq held, State.handoverDoneAtStop, held]
    have frame := (onlyHandovers_handoverFreed s r).post
      (.handoverDone r .cancelled h.fromLane h.toLane h.set h.switched h.switchBeat)
    have link := congrArg State.link frame
    refine ⟨fun n => ?_, fun q => ?_, link, by rw [link]; exact frame⟩
    · rw [chan_post, chan_handoverFreed]
      rfl
    · rw [ho_post, ho_handoverFreed]

/-- The handover membership that a stop leaves a channel, among the records `l`. -/
def State.hoAtStop (s : State) (l : List (Fin 4)) (c : Channel) : Option HandoverMembership :=
  match c.ho with
  | none => none
  | some m => if m.record ∈ l ∧ (s.ho m.record).isSome then none else some m

theorem hoAtStop_nil (s : State) (c : Channel) : s.hoAtStop [] c = c.ho := by
  unfold State.hoAtStop
  cases c.ho with
  | none => rfl
  | some m => exact if_neg fun h => List.not_mem_nil h.1

theorem inHandoverRecord_hoAtStop {s : State} {l : List (Fin 4)} {r : Fin 4} (other : r ∉ l) (c : Channel) :
    Channel.inHandoverRecord r { c with ho := s.hoAtStop l c } = c.inHandoverRecord r := by
  unfold Channel.inHandoverRecord State.hoAtStop
  cases c.ho with
  | none => rfl
  | some m =>
    dsimp only
    by_cases own : m.record = r
    · rw [if_neg fun h => other (own ▸ h.1)]
    · by_cases gone : m.record ∈ l ∧ (s.ho m.record).isSome = true
      · rw [if_pos gone]
        exact (beq_eq_false_iff_ne.2 own).symm
      · rw [if_neg gone]

theorem hoAtStop_append (s : State) (l : List (Fin 4)) (r : Fin 4) (c : Channel) :
    s.hoAtStop (l ++ [r]) c = match s.ho r with
      | none => s.hoAtStop l c
      | some _ => if c.inHandoverRecord r then none else s.hoAtStop l c := by
  unfold State.hoAtStop Channel.inHandoverRecord
  cases c.ho with
  | none => cases s.ho r <;> simp
  | some m =>
    dsimp only
    by_cases own : m.record = r
    · subst own
      cases s.ho m.record <;> simp
    · have among : m.record ∈ l ++ [r] ↔ m.record ∈ l := by simp [own]
      simp only [among, beq_eq_false_iff_ne.2 own]
      cases s.ho r <;> simp

theorem stopHandovers_facts (s : State) (x : LaneId) {l : List (Fin 4)} (nodup : l.Nodup) :
    let t := l.foldl (fun t r => t.stopHandover x r) s
    (∀ n, t.chan n = { s.chan n with ho := s.hoAtStop l (s.chan n) }) ∧
    (∀ q, t.ho q = if q ∈ l then none else s.ho q) ∧
    t.link = (s.reportAll s.handoverDoneAtStop l).link ∧
    t = { s with handovers := t.handovers, channels := t.channels, link := t.link } := by
  induction l using List.reverseRecOn with
  | nil => exact ⟨fun n => by rw [hoAtStop_nil]; rfl, fun q => by simp, rfl, rfl⟩
  | append_singleton l r ih =>
    rw [List.foldl_append, List.foldl_cons, List.foldl_nil]
    obtain ⟨chan, ho, link, frame⟩ := ih (List.nodup_append.1 nodup).1
    have fresh : r ∉ l := fun h => (List.nodup_append.1 nodup).2.2 r h r (List.mem_singleton.2 rfl) rfl
    generalize l.foldl (fun t r => t.stopHandover x r) s = t at chan ho link frame
    have held : t.ho r = s.ho r := by rw [ho, if_neg fresh]
    have notice : t.handoverDoneAtStop r = s.handoverDoneAtStop r := by simp only [State.handoverDoneAtStop, held]
    obtain ⟨chan', ho', link', frame'⟩ := stopHandover_facts t x r
    rw [held] at chan'
    rw [notice] at link'
    dsimp only
    refine ⟨fun n => ?_, fun q => ?_, ?_, ?_⟩
    · rw [chan', hoAtStop_append, chan]
      cases s.ho r with
      | none => rfl
      | some h =>
        dsimp only
        rw [inHandoverRecord_hoAtStop fresh]
        split <;> rfl
    · rw [ho', ho]
      by_cases own : q = r <;> simp [own]
    · rw [link', reportAll_append]
      refine report_link_congr ?_ ?_ _
      · rw [link]
      · rw [frame, reportAll_frame]
    · generalize t.stopHandover x r = u at frame'
      rw [frame] at frame'
      exact frame'

/-! ## The stop before the breaks and handovers (R35, R36) -/

theorem leadRequest_eq (s : State) (x : LaneId) (kind : TxKind) : s.leadRequest x kind = { s with
    bus := if s.bus.settings.lead = some x then { s.bus with request := some ⟨kind, false, false, false⟩ } else s.bus } := by
  unfold State.leadRequest
  split <;> rfl

/-- The number of entries that lane `x` times. -/
def State.timedCount (s : State) (x : LaneId) : Nat := (s.queue.filter fun e => e.timing == x).length

/-- The notice of the entries that the stop of lane `x` discards. -/
def State.discardNotice (s : State) (x : LaneId) : Option NoticeBody :=
  if s.timedCount x = 0 then none else some (.changesDiscarded x (s.timedCount x))

theorem discardTimed_eq (s : State) (x : LaneId) : s.discardTimed x = { s with
    queue := s.queue.filter (fun e => e.timing != x)
    generation := if s.timedCount x = 0 then s.generation else s.generation + 1
    link := (s.report (s.discardNotice x)).link } := by
  have queue := discardTimed_queue s x
  unfold State.discardTimed at queue ⊢
  unfold State.discardNotice State.timedCount
  dsimp only at queue ⊢
  by_cases none_ : (s.queue.filter fun e => e.timing == x).length = 0
  · rw [if_pos none_] at queue ⊢
    rw [if_pos none_, if_pos none_, ← queue]
    rfl
  · rw [if_neg none_] at queue ⊢
    rw [if_neg none_, if_neg none_]
    refine post_of_congr (s := s) ?_ ?_ _ <;> rfl

/-- The record of a lane that stops where it stands (R35). -/
def Lane.halted (l : Lane) : Lane := { l.clearPull with transport := .stopped, crossing := false, copiedPull := 0 }

/-- What a stop of lane `x` does before it comes to breaks and handovers. -/
def State.laneHalted (s : State) (x : LaneId) : State :=
  State.discardTimed (((((s.setLane x (s.lane x).halted).post (.transportStopped x)).leadRequest x .stop)).stopChannels x) x

theorem stopTold_eq (s : State) (x : LaneId) (l : Lane) :
    (((s.setLane x l).post (.transportStopped x)).leadRequest x .stop) = { s.setLane x l with
      bus := if s.bus.settings.lead = some x then { s.bus with request := some ⟨.stop, false, false, false⟩ } else s.bus
      link := (s.post (.transportStopped x)).link } := by
  have told : (s.setLane x l).post (.transportStopped x) =
      { s.setLane x l with link := (s.post (.transportStopped x)).link } :=
    post_of_congr (by cases x <;> rfl) (by cases x <;> rfl) _
  rw [leadRequest_eq, told]
  cases x <;> rfl

/-- The channels that lane `x` stops, stopped. -/
theorem laneHalted_facts (s : State) (x : LaneId) :
    let t := s.laneHalted x
    (t.lane x = (s.lane x).halted ∧ t.lane (otherLane x) = s.lane (otherLane x)) ∧
    (∀ n, t.chan n = if s.attached x n then (s.chan n).stop else s.chan n) ∧
    t.bus = (if s.bus.settings.lead = some x then
      { s.bus with request := some ⟨.stop, false, false, false⟩ } else s.bus) ∧
    t.link = ((s.post (.transportStopped x)).report (s.discardNotice x)).link ∧
    t = { s with
      laneA := t.laneA
      laneB := t.laneB
      channels := t.channels
      queue := s.queue.filter (fun e => e.timing != x)
      generation := if s.timedCount x = 0 then s.generation else s.generation + 1
      bus := t.bus
      link := t.link } := by
  intro t
  generalize led : ((((s.setLane x (s.lane x).halted).post (.transportStopped x)).leadRequest x .stop)) = u
  have stopped : t = (u.stopChannels x).discardTimed x := by rw [← led]; rfl
  rw [stopTold_eq] at led
  have chan (n : Fin 16) : (u.stopChannels x).chan n = if u.attached x n then (u.chan n).stop else u.chan n :=
    chan_forAttached u x (·.stop) n
  obtain ⟨channels, only⟩ : OnlyChannels u (u.stopChannels x) :=
    onlyChannels_forChannels _ fun n t => .ite (onlyChannels_modChan t n _) (.refl t)
  generalize u.stopChannels x = v at chan only stopped
  have notice : v.discardNotice x = s.discardNotice x := by rw [only, ← led]; cases x <;> rfl
  have link : (v.report (s.discardNotice x)).link = ((s.post (.transportStopped x)).report (s.discardNotice x)).link := by
    refine report_link_congr ?_ ?_ _
    · rw [only, ← led]
    · rw [only, ← led, post_clock]
      cases x <;> rfl
  rw [discardTimed_eq, notice, link] at stopped
  rw [stopped]
  refine ⟨⟨?_, ?_⟩, fun n => (chan n).trans ?_, ?_, rfl, ?_⟩
  · rw [only, ← led]
    cases x <;> rfl
  · rw [only, ← led]
    cases x <;> rfl
  · rw [← led]
    cases x <;> rfl
  · rw [only, ← led]
  · rw [only, ← led]
    cases x <;> rfl

/-! ## The stop as a whole -/

/-- The other lane loses its source where that is LANE (R61, R63). -/
def State.followerLeft (s : State) (x : LaneId) : State :=
  let o := otherLane x
  if (s.lane o).source = .lane then
    (s.post (.sourceHoldover (.lane o) (incrementToTempo (s.lane x).increment) none)).followLeft o
  else s

/-- The notice of it. -/
def State.followerNotice (s : State) (x : LaneId) : Option NoticeBody :=
  if (s.lane (otherLane x)).source = .lane then
    some (.sourceHoldover (.lane (otherLane x)) (incrementToTempo (s.lane x).increment) none)
  else none

theorem followerLeft_eq (s : State) (x : LaneId) : s.followerLeft x =
    (s.report (s.followerNotice x)).setLane (otherLane x) ((s.lane (otherLane x)).lost .lane) := by
  unfold State.followerLeft State.followerNotice
  dsimp only
  by_cases source : (s.lane (otherLane x)).source = .lane
  · rw [if_pos source, if_pos source]
    have left := followLeft_of_source
      (s.post (.sourceHoldover (.lane (otherLane x)) (incrementToTempo (s.lane x).increment) none)) (otherLane x) .lane
    rw [lane_post, if_pos source] at left
    exact left
  · rw [if_neg source, if_neg source, Lane.lost, if_neg (fun h => source h.1)]
    exact (setLane_lane ..).symm

/-- The stop of lane `x` but for the joins that wait for it (R35, R36, R61). -/
def State.laneStopped (s : State) (x : LaneId) : State :=
  State.followerLeft (allRecords.foldl (fun t r => t.stopHandover x r)
    (allRecords.foldl (fun t r => t.stopBreak x r) (s.laneHalted x))) x

theorem stopLane_eq (s : State) (x : LaneId) : s.stopLane x = (s.laneStopped x).joinsLeft (otherLane x) .lane := rfl

theorem stop_eq (c : Channel) : c.stop = { c with
    running := false
    pulseOwed := false
    evalLead := none
    slot := if c.cfg.function = .code then some .stop else c.slot } := by
  rw [Channel.stop, codePut_eq _ _ fun p h => SlotItem.noConfusion h]

theorem leavesAtStop_iff (x : LaneId) (r : Fin 4) (b : BreakRecord) (c : Channel) : c.leavesAtStop x r b = true ↔
    c.inBreakRecord r = true ∧ (c.cfg.lane = x ∨ b.timing = x ∧ ∃ once, c.brk = some ⟨r, .waiting once⟩) := by
  unfold Channel.leavesAtStop Channel.inBreakRecord
  cases c.brk with
  | none => simp
  | some m =>
    obtain ⟨record, state⟩ := m
    cases state <;> simp +contextual [BreakMembership.entered]

theorem leavesAtStop_congr {x : LaneId} {r : Fin 4} {c d : Channel} (brk : d.brk = c.brk) (cfg : d.cfg = c.cfg)
    (b : BreakRecord) : d.leavesAtStop x r b = c.leavesAtStop x r b := by
  rw [leavesAtStop_eq_any, leavesAtStop_eq_any, brk, cfg]

theorem inBreakRecord_congr {r : Fin 4} {c d : Channel} (brk : d.brk = c.brk) : d.inBreakRecord r = c.inBreakRecord r := by
  rw [inBreakRecord_eq_any, inBreakRecord_eq_any, brk]

/-- What a stop makes of the breaks reads the records, the memberships and the channels' lanes alone. -/
theorem breaksAtStop_congr {s t : State} (x : LaneId) (records : ∀ r, t.brk r = s.brk r)
    (brk : ∀ n, (t.chan n).brk = (s.chan n).brk) (cfg : ∀ n, (t.chan n).cfg = (s.chan n).cfg) :
    (∀ l n, t.memberAtStop x l (t.chan n) = s.memberAtStop x l (s.chan n)) ∧
    t.brkAtStop x = s.brkAtStop x ∧ t.breakDoneAtStop x = s.breakDoneAtStop x := by
  have leaves (r : Fin 4) (b : BreakRecord) (n : Fin 16) : (t.chan n).leavesAtStop x r b = (s.chan n).leavesAtStop x r b :=
    leavesAtStop_congr (brk n) (cfg n) b
  have member (r : Fin 4) (n : Fin 16) : (t.chan n).inBreakRecord r = (s.chan n).inBreakRecord r :=
    inBreakRecord_congr (brk n)
  have ends : t.endsAtStop x = s.endsAtStop x := by
    funext r b
    simp only [State.endsAtStop, leaves, member]
  have sees : t.seesStop x = s.seesStop x := by
    funext r b
    simp only [State.seesStop, leaves]
  refine ⟨fun l n => ?_, ?_, ?_⟩
  · unfold State.memberAtStop
    simp only [brk, records, leaves]
  · funext r
    simp only [State.brkAtStop, records, ends, sees]
  · funext r
    simp only [State.breakDoneAtStop, records, ends, sees]

section
variable (s : State) (x : LaneId)

/-- The stop of lane `x` but for the joins, in its parts. -/
theorem laneStopped_facts :
    let t := s.laneStopped x
    let o := otherLane x
    (t.lane x = (s.lane x).halted ∧ t.lane o = (s.lane o).lost .lane) ∧
    (∀ n, t.chan n = { (if s.attached x n then (s.chan n).stop else s.chan n) with
      brk := s.memberAtStop x allRecords (s.chan n)
      ho := s.hoAtStop allRecords (s.chan n) }) ∧
    (∀ r, t.ho r = none) ∧
    (∀ r, t.brk r = s.brkAtStop x r) ∧
    t.bus = (if s.bus.settings.lead = some x then
      { s.bus with request := some ⟨.stop, false, false, false⟩ } else s.bus) ∧
    t.link = ((((s.post (.transportStopped x)).report (s.discardNotice x)).reportAll (s.breakDoneAtStop x)
      allRecords).reportAll s.handoverDoneAtStop allRecords |>.report (s.followerNotice x)).link ∧
    t = { s with
      laneA := t.laneA
      laneB := t.laneB
      channels := t.channels
      queue := s.queue.filter (fun e => e.timing != x)
      generation := if s.timedCount x = 0 then s.generation else s.generation + 1
      breaks := t.breaks
      handovers := t.handovers
      bus := t.bus
      link := t.link } := by
  intro t o
  have nodup : allRecords.Nodup := by decide
  obtain ⟨⟨laneX, laneO⟩, chan1, bus1, link1, frame1⟩ := laneHalted_facts s x
  obtain ⟨chan2, brk2, link2, frame2⟩ := stopBreaks_facts (s.laneHalted x) x nodup
  obtain ⟨chan3, ho3, link3, frame3⟩ :=
    stopHandovers_facts (allRecords.foldl (fun t r => t.stopBreak x r) (s.laneHalted x)) x nodup
  have last := followerLeft_eq (allRecords.foldl (fun t r => t.stopHandover x r)
    (allRecords.foldl (fun t r => t.stopBreak x r) (s.laneHalted x))) x
  change t = _ at last
  clear_value t
  generalize (allRecords.foldl (fun t r => t.stopBreak x r) (s.laneHalted x)) = u
    at chan2 brk2 link2 frame2 chan3 ho3 link3 frame3 last
  generalize (allRecords.foldl (fun t r => t.stopHandover x r) u) = w at chan3 ho3 link3 frame3 last
  generalize s.laneHalted x = h at laneX laneO chan1 bus1 link1 frame1 chan2 brk2 link2 frame2
  have brk_h (n : Fin 16) : (h.chan n).brk = (s.chan n).brk := by
    rw [chan1]
    split
    · rw [stop_eq]
    · rfl
  have cfg_h (n : Fin 16) : (h.chan n).cfg = (s.chan n).cfg := by
    rw [chan1]
    split
    · rw [stop_eq]
    · rfl
  have ho_u (n : Fin 16) : (u.chan n).ho = (s.chan n).ho := by
    rw [chan2, chan1]
    split
    · rw [stop_eq]
    · rfl
  obtain ⟨member, record, done⟩ := breaksAtStop_congr (s := s) (t := h) x (fun r => by rw [frame1]; rfl) brk_h cfg_h
  have records_u (r : Fin 4) : u.ho r = s.ho r := by rw [frame2, frame1]; rfl
  have hoDone : u.handoverDoneAtStop = s.handoverDoneAtStop := by
    funext r
    simp only [State.handoverDoneAtStop, records_u]
  have hoMember (l : List (Fin 4)) (n : Fin 16) : u.hoAtStop l (u.chan n) = s.hoAtStop l (s.chan n) := by
    unfold State.hoAtStop
    simp only [records_u, ho_u]
  have lane_w (z : LaneId) : w.lane z = h.lane z := by rw [frame3, frame2]; cases z <;> rfl
  have notice : w.followerNotice x = s.followerNotice x := by
    unfold State.followerNotice
    rw [lane_w, lane_w, laneX, laneO]
    rfl
  have link : (w.report (s.followerNotice x)).link = ((((s.post (.transportStopped x)).report (s.discardNotice x)).reportAll
      (s.breakDoneAtStop x) allRecords).reportAll s.handoverDoneAtStop allRecords |>.report (s.followerNotice x)).link := by
    refine report_link_congr ?_ ?_ _
    · rw [link3, hoDone]
      refine reportAll_link_congr ?_ ?_ _ _
      · rw [link2, done]
        refine reportAll_link_congr link1 ?_ _ _
        rw [frame1, report_frame, post_clock]
      · rw [frame2, frame1, reportAll_frame, report_frame, post_clock]
    · rw [frame3, frame2, frame1, reportAll_frame, reportAll_frame _ (s.breakDoneAtStop x), report_frame, post_clock]
  rw [notice, lane_w, laneO, report_frame, link] at last
  rw [last]
  have chan_w (n : Fin 16) : w.chan n = { (if s.attached x n then (s.chan n).stop else s.chan n) with
      brk := s.memberAtStop x allRecords (s.chan n)
      ho := s.hoAtStop allRecords (s.chan n) } := by
    rw [chan3, hoMember, chan2, member, chan1]
  have brk_w (r : Fin 4) : w.brk r = s.brkAtStop x r := by
    have same : w.brk r = u.brk r := by rw [frame3]; rfl
    rw [same, brk2, if_pos (mem_allRecords r), record]
  refine ⟨⟨?_, ?_⟩, fun n => ?_, fun r => ?_, fun r => ?_, ?_, ?_, ?_⟩
  · rw [← laneX, ← lane_w]
    cases x <;> rfl
  · rw [lane_setLane_same]
  · rw [← chan_w]
    cases x <;> rfl
  · have same : w.ho r = none := by rw [ho3, if_pos (mem_allRecords r)]
    rw [← same]
    cases x <;> rfl
  · rw [← brk_w]
    cases x <;> rfl
  · rw [← bus1]
    have same : w.bus = h.bus := by rw [frame3, frame2]
    rw [← same]
    cases x <;> rfl
  · cases x <;> rfl
  · clear last link
    rw [frame2, frame1] at frame3
    rw [frame3]
    cases x <;> rfl

end

/-! ## What the stop does not read -/

theorem channels_of_chan {s t : State} (h : ∀ n, t.chan n = s.chan n) : t.channels = s.channels :=
  Vector.ext fun i hi => h ⟨i, hi⟩

theorem breaks_of_brk {s t : State} (h : ∀ r, t.brk r = s.brk r) : t.breaks = s.breaks :=
  Vector.ext fun i hi => h ⟨i, hi⟩

theorem handovers_of_ho {s t : State} (h : ∀ r, t.ho r = s.ho r) : t.handovers = s.handovers :=
  Vector.ext fun i hi => h ⟨i, hi⟩

theorem report_withQueue (s : State) (q : List Entry) (n : Option NoticeBody) :
    (s.withQueue q).report n = (s.report n).withQueue q := by
  cases n with
  | none => rfl
  | some n => exact post_withQueue ..

theorem reportAll_withQueue (s : State) (q : List Entry) (f : Fin 4 → Option NoticeBody) (l : List (Fin 4)) :
    (s.withQueue q).reportAll f l = (s.reportAll f l).withQueue q := by
  unfold State.reportAll
  induction l generalizing s with
  | nil => rfl
  | cons r l ih => rw [List.foldl_cons, List.foldl_cons, report_withQueue, ih]

/-- Of the queue the stop reads what lane `x` times alone. -/
theorem laneStopped_withQueue (s : State) (x : LaneId) (q : List Entry) (timed : (s.withQueue q).timedCount x = s.timedCount x) :
    (s.withQueue q).laneStopped x = (s.laneStopped x).withQueue (q.filter fun e => e.timing != x) := by
  obtain ⟨⟨laneX, laneO⟩, chan, ho, brk, bus, link, frame⟩ := laneStopped_facts s x
  obtain ⟨⟨laneX', laneO'⟩, chan', ho', brk', bus', link', frame'⟩ := laneStopped_facts (s.withQueue q) x
  rw [lane_withQueue] at laneX' laneO'
  have channels := channels_of_chan fun n => (chan' n).trans (chan n).symm
  have breaks := breaks_of_brk fun r => (brk' r).trans (brk r).symm
  have handovers := handovers_of_ho fun r => (ho' r).trans (ho r).symm
  have laneX_same := laneX'.trans laneX.symm
  have laneO_same := laneO'.trans laneO.symm
  have notice : (s.withQueue q).discardNotice x = s.discardNotice x := by
    unfold State.discardNotice
    rw [timed]
  rw [notice, post_withQueue, report_withQueue, reportAll_withQueue, reportAll_withQueue, report_withQueue] at link'
  have link_same := link'.trans link.symm
  have bus_same := bus'.trans bus.symm
  rw [timed] at frame'
  refine frame'.trans (Eq.trans ?_ (congrArg (·.withQueue (q.filter fun e => e.timing != x)) frame.symm))
  rw [channels, breaks, handovers, link_same, bus_same]
  cases x with
  | a =>
    have sameA : ((s.withQueue q).laneStopped .a).laneA = (s.laneStopped .a).laneA := laneX_same
    have sameB : ((s.withQueue q).laneStopped .a).laneB = (s.laneStopped .a).laneB := laneO_same
    rw [sameA, sameB]
    simp only [State.withQueue]
  | b =>
    have sameA : ((s.withQueue q).laneStopped .b).laneA = (s.laneStopped .b).laneA := laneO_same
    have sameB : ((s.withQueue q).laneStopped .b).laneB = (s.laneStopped .b).laneB := laneX_same
    rw [sameA, sameB]
    simp only [State.withQueue]

theorem memberAtStop_of_iff {s : State} {x : LaneId} {c : Channel} {p : Fin 4 → BreakRecord → Prop}
    [∀ r b, Decidable (p r b)] (h : ∀ r b, c.leavesAtStop x r b = true ↔ p r b) :
    s.memberAtStop x allRecords c = match c.brk with
      | none => none
      | some m => match s.brk m.record with
        | none => some m
        | some b => if p m.record b then none else some m := by
  unfold State.memberAtStop
  cases c.brk with
  | none => rfl
  | some m =>
    dsimp only
    cases s.brk m.record with
    | none => rfl
    | some b => exact if_congr ((and_iff_right (mem_allRecords _)).trans (h ..)) rfl rfl

theorem hoAtStop_all (s : State) (c : Channel) : s.hoAtStop allRecords c = match c.ho with
    | none => none
    | some m => if (s.ho m.record).isSome then none else some m := by
  unfold State.hoAtStop
  cases c.ho with
  | none => rfl
  | some m => exact if_congr (and_iff_right (mem_allRecords _)) rfl rfl

theorem mem_laneStopped_queue {s : State} {x : LaneId} {e : Entry} (mem : e ∈ (s.laneStopped x).queue) : e ∈ s.queue := by
  obtain ⟨-, -, -, -, -, -, frame⟩ := laneStopped_facts s x
  rw [frame] at mem
  exact List.mem_of_mem_filter mem

/-- Settles O30: the stop in its parts, and the one join that waits for the lane behind them. -/
theorem stopOfALane : Obligations.StopOfALane := by
  refine ⟨fun s x => ?_, fun s x e before after => ?_⟩
  · intro o none_ l t leaves ends seen discarded
    have stopped : t = s.laneStopped x :=
      joinsLeft_of_none fun e mem => none_ e (mem_laneStopped_queue mem)
    obtain ⟨⟨laneX, laneO⟩, chan, ho, brk, bus, link, frame⟩ := laneStopped_facts s x
    rw [← stopped] at laneX laneO chan ho brk bus link frame
    clear_value t
    have leaves_iff (r : Fin 4) (b : BreakRecord) (n : Fin 16) : (s.chan n).leavesAtStop x r b = true ↔ leaves r b n :=
      leavesAtStop_iff ..
    have ends_iff (r : Fin 4) (b : BreakRecord) : s.endsAtStop x r b = true ↔ ends r b := by
      simp only [State.endsAtStop, decide_eq_true_eq, leaves_iff]
      rfl
    have seen_iff (r : Fin 4) (b : BreakRecord) : s.seesStop x r b = true ↔ seen r b := by
      simp only [State.seesStop, Bool.or_eq_true, beq_iff_eq, decide_eq_true_eq, leaves_iff]
      rfl
    have queue : t.queue = s.queue.filter (fun e => e.timing != x) := by rw [frame]
    refine ⟨laneX, laneO, fun n => ?_, queue, ho, fun r => ?_, bus, ?_, by rw [queue]; exact frame⟩
    · intro c on
      have attached : s.attached x n = true ↔ on := by simp [State.attached, on, c]
      rw [chan, memberAtStop_of_iff fun r b => leaves_iff r b n, hoAtStop_all]
      by_cases h : on
      · rw [if_pos (attached.2 h), stop_eq]
        simp only [h, if_true, true_and]
        rfl
      · rw [if_neg (mt attached.1 h)]
        simp only [h, if_false, false_and]
        rfl
    · rw [brk, State.brkAtStop]
      cases s.brk r with
      | none => rfl
      | some b =>
        have sees : s.seesStop x r b = decide (seen r b) := by
          rw [Bool.eq_iff_iff, decide_eq_true_eq]
          exact seen_iff r b
        dsimp only
        rw [sees]
        exact if_congr (ends_iff r b) rfl rfl
    · intro stopped cleared broken cancelled
      have cleared_eq : stopped.report (s.discardNotice x) = cleared := by
        unfold State.discardNotice
        by_cases h : s.timedCount x = 0
        · rw [if_pos h]
          exact (if_pos h).symm
        · rw [if_neg h]
          exact (if_neg h).symm
      have broken_eq : cleared.reportAll (s.breakDoneAtStop x) allRecords = broken := by
        refine congrArg (fun f => List.foldl f cleared allRecords) ?_
        funext u r
        unfold State.breakDoneAtStop
        cases s.brk r with
        | none => rfl
        | some b =>
          dsimp only
          by_cases h : ends r b
          · have reason : (if s.seesStop x r b = true then BreakReason.stopped else b.reason) =
                if seen r b then .stopped else b.reason := if_congr (seen_iff r b) rfl rfl
            rw [if_pos ((ends_iff r b).2 h), reason]
            exact (if_pos h).symm
          · rw [if_neg (mt (ends_iff r b).1 h)]
            exact (if_neg h).symm
      have cancelled_eq : broken.reportAll s.handoverDoneAtStop allRecords = cancelled := by
        refine congrArg (fun f => List.foldl f broken allRecords) ?_
        funext u r
        unfold State.handoverDoneAtStop
        cases s.ho r <;> rfl
      rw [link, cleared_eq, broken_eq, cancelled_eq]
      unfold State.followerNotice
      by_cases h : (s.lane o).source = .lane
      · rw [if_pos h, if_pos h]
        rfl
      · rw [if_neg h, if_neg h]
        rfl
  · intro o queue distinct joins timing none_ bare gone
    have stays : (e.timing != x) = true := by
      rw [timing]
      cases x <;> rfl
    have untimed : (e.timing == x) = false := by
      rw [timing]
      cases x <;> rfl
    have timed : (s.withQueue (before ++ after)).timedCount x = s.timedCount x := by
      unfold State.timedCount
      rw [queue, List.filter_append, List.filter_cons_of_neg (by simp [untimed]), ← List.filter_append]
      rfl
    have bare_eq : bare = (s.laneStopped x).withQueue ((before ++ after).filter fun d => d.timing != x) := by
      rw [← laneStopped_withQueue s x (before ++ after) timed]
      exact joinsLeft_of_none fun d mem => none_ d (mem_laneStopped_queue (s := s.withQueue (before ++ after)) mem)
    obtain ⟨⟨-, laneO⟩, -, -, -, -, -, frame⟩ := laneStopped_facts s x
    have kept : (s.laneStopped x).queue =
        before.filter (fun d => d.timing != x) ++ e :: after.filter (fun d => d.timing != x) := by
      rw [frame]
      dsimp only
      rw [queue, List.filter_append, List.filter_cons_of_pos (p := fun d : Entry => d.timing != x) stays]
    have alone : ∀ d ∈ before.filter (fun d => d.timing != x) ++ after.filter (fun d => d.timing != x),
        d.joinsOn o .lane = false := by
      rw [← List.filter_append]
      exact fun d mem => none_ d (List.mem_of_mem_filter mem)
    have distinct' : (s.laneStopped x).idsDistinct := by
      rw [State.idsDistinct, frame]
      exact ⟨distinct.1.sublist (List.filter_sublist.map _), fun d mem => distinct.2 d (List.mem_of_mem_filter mem)⟩
    have removed := removeEntry_of_queue kept distinct'
    have gone_eq : (s.laneStopped x).removeEntry e.id = gone := by
      rw [removed]
      simp only [gone, bare_eq, State.withQueue, List.filter_append]
    have barred : (((s.laneStopped x).lane o).isRunning || !((s.laneStopped x).lane o).source.joinable) = true ↔
        (s.lane o).transport = .running ∨ (∀ n, (s.lane o).source ≠ .bus n) ∧ (s.lane o).source ≠ .lane := by
      obtain ⟨source, transport⟩ := lost_keeps (s.lane o) .lane
      rw [barred_iff, laneO, source, transport, not_or, not_exists]
    rw [stopLane_eq, joinsLeft_of_one kept joins alone]
    split
    · next h => rw [plainJoin_of_barred (barred.2 h), gone_eq]
    · next h => rw [plainJoin_of_free (mt barred.1 h), gone_eq]

end Sys2Proof.Machine

/-! The boundary of a lane that follows (O17): no advance becomes outstanding at a boundary, and the comparison, the
reduction and the pull of a FOLLOWING lane. -/

namespace Sys2Proof.Machine

/-! ## No advance outstanding -/

/-- No lane's advance of the step is outstanding. -/
def State.uncrossed (s : State) : Prop := ∀ z, (s.lane z).crossing = false

section
variable {s : State} {x : LaneId}

theorem uncrossed_of_lanes {t : State} (h : s.uncrossed) (lanes : ∀ z, t.lane z = s.lane z) : t.uncrossed := fun z => by
  rw [lanes]
  exact h z

theorem uncrossed_setLane (h : s.uncrossed) {l : Lane} (settled : l.crossing = false) : (s.setLane x l).uncrossed := fun z => by
  rw [lane_setLane]
  split
  · exact settled
  · exact h z

theorem uncrossed_modLane {f : Lane → Lane} (h : s.uncrossed) (settled : (f (s.lane x)).crossing = false) :
    (s.modLane x f).uncrossed := uncrossed_setLane h settled

theorem uncrossed_post (h : s.uncrossed) (n : NoticeBody) : (s.post n).uncrossed := uncrossed_of_lanes h fun _ => lane_post ..

theorem uncrossed_removeEntry (h : s.uncrossed) (id : Nat) : (s.removeEntry id).uncrossed :=
  uncrossed_of_lanes h fun _ => lane_removeEntry ..

theorem uncrossed_postApplied (h : s.uncrossed) (e : Entry) (b : Bool) : (s.postApplied e b).uncrossed :=
  uncrossed_of_lanes h fun _ => lane_postApplied ..

theorem uncrossed_retime (h : s.uncrossed) (id : Nat) (timing : LaneId) (due : Due) : (s.retime id timing due).uncrossed :=
  uncrossed_of_lanes h fun z => by cases z <;> rfl

theorem uncrossed_bumpGeneration (h : s.uncrossed) : s.bumpGeneration.uncrossed :=
  uncrossed_of_lanes h fun z => by cases z <;> rfl

theorem uncrossed_forAttached (h : s.uncrossed) (f : Channel → Channel) :
    (s.forChannels fun n t => if t.attached x n then t.modChan n f else t).uncrossed :=
  forChannels_keeps (P := State.uncrossed) s (fun n t ht => by
    split
    · exact uncrossed_of_lanes ht fun _ => lane_modChan ..
    · exact ht) h

theorem uncrossed_takeEstimate (h : s.uncrossed) : (s.takeEstimate x).uncrossed := by
  rw [takeEstimate_eq]
  refine uncrossed_setLane h ?_
  unfold Lane.estimated
  split
  · split <;> exact h x
  · exact h x

theorem uncrossed_followLocked (h : s.uncrossed) : (s.followLocked x).uncrossed := by
  refine uncrossed_takeEstimate (uncrossed_modLane h ?_)
  split <;> exact h x

theorem uncrossed_laneStarted (h : s.uncrossed) : (s.laneStarted x).uncrossed := by
  unfold State.laneStarted
  dsimp only
  split
  · exact uncrossed_followLocked (uncrossed_post h _)
  · exact h

theorem uncrossed_started (h : s.uncrossed) {l : Lane} (settled : l.crossing = false) (f : Channel → Channel)
    (n : NoticeBody) : (s.started x l f n).uncrossed :=
  uncrossed_laneStarted (uncrossed_forAttached (uncrossed_post (uncrossed_setLane h settled) n) f)

theorem uncrossed_startLane (h : s.uncrossed) : (s.startLane x).uncrossed := uncrossed_started h rfl _ _

theorem uncrossed_setResidual (h : s.uncrossed) (r : Int) (reduction : Bool) : (s.setResidual x r reduction).uncrossed := by
  have set : (s.modLane x fun l => { l with
      residual := r, aligned := alignedAfter (s.lane x).aligned r reduction }).uncrossed := uncrossed_modLane h (h x)
  unfold State.setResidual
  dsimp only
  split
  · exact uncrossed_post set _
  · exact set

theorem uncrossed_rangeResidual (h : s.uncrossed) : (s.rangeResidual x).uncrossed := by
  unfold State.rangeResidual
  dsimp only
  split
  · exact h
  · exact uncrossed_setResidual h _ _

theorem uncrossed_setIncrement (h : s.uncrossed) (i : Nat) : (s.setIncrement x i).uncrossed := by
  have set : (s.modLane x fun l => { l with increment := i }).uncrossed := uncrossed_modLane h (h x)
  unfold State.setIncrement
  dsimp only
  split
  · exact uncrossed_takeEstimate set
  · exact set

theorem uncrossed_glideStep (h : s.uncrossed) : (s.glideStep x).uncrossed := by
  unfold State.glideStep
  split
  · exact h
  · dsimp only
    split
    · exact uncrossed_setIncrement (uncrossed_modLane h (h x)) _
    · exact uncrossed_post (uncrossed_setIncrement (uncrossed_modLane h (h x)) _) _

theorem uncrossed_newTarget (h : s.uncrossed) (target g : Nat) : (s.newTarget x target g).uncrossed := by
  unfold State.newTarget
  split
  · exact uncrossed_setIncrement (uncrossed_modLane h (h x)) _
  · exact uncrossed_modLane h (h x)

/-! ## The changes carried out at a boundary (R74) -/

theorem uncrossed_plainJoin (h : s.uncrossed) (e : Entry) : (s.plainJoin e x).uncrossed := by
  unfold State.plainJoin
  dsimp only
  split
  · exact uncrossed_postApplied (uncrossed_removeEntry h _) _ _
  · exact uncrossed_postApplied (uncrossed_startLane (uncrossed_removeEntry h _)) _ _

theorem uncrossed_stopLane (h : s.uncrossed) : (s.stopLane x).uncrossed := by
  obtain ⟨⟨own, other⟩, -⟩ := laneStopped_facts s x
  have stopped : (s.laneStopped x).uncrossed := by
    have ownSettled : ((s.laneStopped x).lane x).crossing = false := by rw [own]; rfl
    have otherSettled : ((s.laneStopped x).lane (otherLane x)).crossing = false := by
      rw [other]
      unfold Lane.lost
      split <;> exact h _
    intro z
    cases x <;> cases z
    · exact ownSettled
    · exact otherSettled
    · exact otherSettled
    · exact ownSettled
  rw [stopLane_eq]
  exact foldl_keeps (P := State.uncrossed) _ _ (fun t e _ ht => uncrossed_plainJoin ht e) stopped

theorem uncrossed_rebindJoin (h : s.uncrossed) (e : Entry) : (s.rebindJoin e x).uncrossed := by
  unfold State.rebindJoin
  dsimp only
  split
  · split
    · exact h
    · unfold State.setWait
      split
      · exact h
      · exact uncrossed_bumpGeneration (uncrossed_retime h _ _ _)
  · exact uncrossed_plainJoin h e

theorem uncrossed_applySource (h : s.uncrossed) (g : SourceSettings) : (s.applySource x g).1.uncrossed := by
  by_cases both : g.kind = .lane ∧ (s.lane (otherLane x)).source = .lane
  · rw [State.applySource, if_pos both]
    exact h
  · have sourced : (s.sourced x g).uncrossed := by
      unfold State.sourced
      split
      · exact uncrossed_rangeResidual (uncrossed_setLane h (h x))
      · have taken := uncrossed_takeEstimate (x := x)
          (uncrossed_setLane (x := x) h (l := (s.lane x).resourced g (s.lockOf x g.kind)) (h x))
        unfold State.laneSourceNotice
        dsimp only
        split
        · exact uncrossed_post taken _
        · exact taken
    rw [applySource_eq both]
    exact foldl_keeps (P := State.uncrossed) _ _ (fun t e _ ht => uncrossed_rebindJoin ht e) sourced

theorem uncrossed_applyTransport (h : s.uncrossed) (a : EntryAction) : (s.applyTransport x a).1.uncrossed := by
  have resumed : (s.resumeLane x).uncrossed := by
    rw [resumeLane_eq_started]
    refine uncrossed_started h ?_ _ _
    exact h x
  have copied : (s.copyLane (otherLane x)).uncrossed := by
    rw [copyLane_eq_started]
    refine uncrossed_started h ?_ _ _
    exact h (otherLane x)
  unfold State.applyTransport
  split
  · split
    · exact h
    · exact uncrossed_startLane h
  · split
    · exact h
    · exact uncrossed_startLane h
  · split
    · exact uncrossed_stopLane h
    · exact h
  · split
    · exact h
    · exact resumed
  · split
    · exact h
    · exact copied

theorem uncrossed_applyMeter (h : s.uncrossed) (b p : Nat) : (s.applyMeter x b p).uncrossed := by
  unfold State.applyMeter
  refine uncrossed_rangeResidual (uncrossed_setLane h ?_)
  dsimp only
  split
  · split <;> exact h x
  · exact h x

theorem uncrossed_carryOut (h : s.uncrossed) {e : Entry} (lane : e.change.kind ≠ .channel) : (s.carryOut e).uncrossed := by
  have gone := uncrossed_removeEntry h e.id
  refine uncrossed_postApplied ?_ e _
  unfold State.applyChange
  split
  · unfold State.applyTempo
    split
    · exact uncrossed_newTarget gone _ _
    · exact gone
  · exact uncrossed_applyMeter gone _ _
  · exact uncrossed_applySource gone _
  · exact uncrossed_applyTransport gone _
  · next change => exact absurd (by rw [change]; rfl) lane

theorem findEntry_dueAt {y : U32} {e : Entry} (found : s.findEntry (·.dueAt x y) = some e) : e.change.kind ≠ .channel := by
  have due := List.find?_some found
  unfold Entry.dueAt at due
  simp only [Bool.and_eq_true, bne_iff_ne] at due
  exact due.2

theorem uncrossed_boundaryEntries {y : U32} (n : Nat) (h : s.uncrossed) : (State.boundaryEntries x y n s).uncrossed := by
  induction n generalizing s with
  | zero => exact h
  | succ n ih =>
    unfold State.boundaryEntries
    split
    · exact h
    · next e found =>
      split
      · exact ih (uncrossed_bumpGeneration (uncrossed_retime h _ _ _))
      · have carried := uncrossed_carryOut h (findEntry_dueAt found)
        dsimp only
        split
        · exact ih carried
        · exact carried

theorem uncrossed_openAnnounced (h : s.uncrossed) (y : U32) : (s.openAnnounced x y).uncrossed := by
  have two : ((s.modLane x (·.openBoundary y)).partTwo x y).uncrossed := by
    refine uncrossed_boundaryEntries _ (uncrossed_modLane h ?_)
    change (Lane.count _).crossing = false
    rw [count_frame]
    exact h x
  unfold State.openAnnounced
  dsimp only
  split
  · unfold State.partThree
    split
    · exact uncrossed_glideStep (uncrossed_modLane two (two x))
    · exact two
  · exact two

end

/-! ## The boundary of any lane (R23, R61) -/

theorem lane_advanceLane (s : State) (x : LaneId) :
    let l := s.lane x
    (s.advanceLane x).lane x = l.advanced (l.pos.advance l.stepAmount) (pullAmount l.residual l.pullRate) ∧
    (s.advanceLane x).lane (otherLane x) = s.lane (otherLane x) := by
  rw [advanceLane_eq]
  dsimp only
  split
  · rw [lane_post, lane_post, lane_setLane_same, lane_setLane_other]
    exact ⟨rfl, rfl⟩
  · rw [lane_setLane_same, lane_setLane_other]
    exact ⟨rfl, rfl⟩

/-- Where neither lane has an advance outstanding no lane is worked first. -/
theorem leaderFirst_of_uncrossed {s : State} (h : s.uncrossed) (x : LaneId) : s.leaderFirst x = s := by
  unfold State.leaderFirst
  split
  · have settled : ((s.modLane x fun l => { l with crossing := true }).lane (otherLane x)).crossing = false := by
      rw [lane_modLane_other]
      exact h _
    rw [workLaneBy_of_settled settled, modLane_modLane]
    have same : ({ s.lane x with crossing := false } : Lane) = s.lane x := by
      rw [← h x]
    exact (congrArg (s.setLane x) same).trans (setLane_lane ..)
  · rfl

/-- The boundary of a lane whose leader, if any, has nothing outstanding, by its parts. -/
theorem announce_of_uncrossed {s u : State} {x : LaneId} {y : U32} (h : s.uncrossed) (at_ : (s.lane x).pos.beat = y)
    (opened : s.openAnnounced x y = u) (runs : (u.lane x).transport = .running) (high : (u.lane x).high = y) :
    s.announce x = ((u.followCompare x).partFive x).jumpAndReport x ((u.lane x).facts y) := by
  have settled : u.uncrossed := opened ▸ uncrossed_openAnnounced h y
  simp only [State.announce, at_, opened, leaderFirst_of_uncrossed settled]
  exact if_pos ⟨isRunning_eq_true.2 runs, high⟩

/-- ANNOUNCED_BOUNDARY of a lane whose leader, if any, has nothing outstanding. -/
theorem announcedBoundary_of_settled {s : State} {x : LaneId} (settled : (s.lane (otherLane x)).crossing = false)
    (runs : (s.lane x).transport = .running) (crossing : (s.lane x).crossing = true)
    (announces : (s.lane x).announces = true) : s.announcedBoundary x = (s.workLane x).measureKnown := by
  have first : (if (s.lane x).source = .lane then s.workLane (otherLane x) else s) = s :=
    (congrArg (fun t => if (s.lane x).source = .lane then t else s) (workLaneBy_of_settled settled)).trans (ite_self s)
  unfold State.announcedBoundary
  rw [first]
  exact if_pos (by rw [isRunning_eq_true.2 runs, crossing, announces]; rfl)

/-! ## The comparison and the reduction of a FOLLOWING lane (R64, R65) -/

section
variable {s : State} {x : LaneId}

/-- Where the follow target is `target`. -/
theorem followCompare_of_following {e target : Nat} (follows : (s.lane x).follow = .following)
    (estimate : s.sourceEstimate x = some e)
    (aims : (match (s.lane x).glide with | some g => g.target | none => (s.lane x).increment) = target) :
    s.followCompare x = if (s.lane x).increment < ((e : Int) - target).natAbs * 4096 then
      s.newTarget x e (s.lane x).followGlide else s := by
  cases glide : (s.lane x).glide with
  | none =>
    rw [glide] at aims
    cases aims
    simp only [State.followCompare, follows, estimate, glide, beq_self_eq_true, if_true]
  | some g =>
    rw [glide] at aims
    cases aims
    simp only [State.followCompare, follows, estimate, glide, beq_self_eq_true, if_true]

theorem newTarget_of_glide (target : Nat) {g : Nat} (glides : 1 ≤ g) : s.newTarget x target g =
    s.setLane x { s.lane x with glide := some ⟨(s.lane x).increment, target, g, 0⟩, glideDue := false } :=
  if_neg (Nat.one_le_iff_ne_zero.1 glides)

theorem alignInForce_eq (s : State) (x : LaneId) : s.alignInForce x = match (s.lane x).source with
    | .tap => .beat
    | .reference => if s.ref.downbeat = false ∨ (s.lane x).alignLength = .beat then .beat else .bar
    | _ => (s.lane x).alignLength := by
  unfold State.alignInForce
  dsimp only
  cases (s.lane x).source with
  | reference => cases s.ref.downbeat <;> simp
  | _ => rfl

theorem reduceQuotient_eq (m : AlignMode) (d : Int) (u : Nat) : reduceQuotient m d u = match m with
    | .nearest => (d + (u : Int) / 2) / u
    | .forward => d / u := by
  cases m with
  | nearest =>
    refine (Int.fdiv_eq_ediv_of_nonneg _ (Int.natCast_nonneg u)).trans ?_
    rw [Int.natCast_ediv]
    rfl
  | forward => exact Int.fdiv_eq_ediv_of_nonneg _ (Int.natCast_nonneg u)

theorem setResidual_true (r : Int) : s.setResidual x r true =
    let t := s.setLane x { s.lane x with residual := r, aligned := decide (r.natAbs ≤ 2 ^ 40) }
    if decide (r.natAbs ≤ 2 ^ 40) = true ∧ (s.lane x).aligned = false then t.post (.aligned x) else t := by
  have aligned (was : Bool) : alignedAfter was r true = decide (r.natAbs ≤ 2 ^ 40) := by
    unfold alignedAfter
    by_cases near : r.natAbs ≤ 2 ^ 40
    · rw [if_pos near, decide_eq_true near]
    · rw [if_neg near, decide_eq_false near, Bool.not_true, Bool.and_false]
  unfold State.setResidual
  simp only [aligned]
  exact if_congr (by simp) rfl rfl

/-- The reduction of R65 with its quotient, residual and pull rate. -/
theorem reduce_of_side {src : SourceSide} (side : s.sourceSide x = some src) : s.reduce x =
    let l := s.lane x
    let len := s.alignInForce x
    let d : Int := (relPosition len src.beatInBar src.barInPhrase src.beatsPerBar src.phase : Int)
      - relPosition len l.beatInBar l.barInPhrase l.beatsPerBar l.pos.phase
    let u := s.unitInForce x
    let r := reduceResidual l.alignMode d u
    let t := s.setLane x { l with
      residual := r
      barOffset := clampOffset (reduceQuotient l.alignMode d u)
      pullRate := pullRateFor l.increment l.pullLimit r
      aligned := decide (r.natAbs ≤ 2 ^ 40) }
    if decide (r.natAbs ≤ 2 ^ 40) = true ∧ l.aligned = false then t.post (.aligned x) else t := by
  unfold State.reduce
  rw [side]
  dsimp only
  rw [setResidual_true]
  simp only [State.modLane, lane_setLane_same, setLane_setLane]

end

/-- Settles O17: the boundary by its parts or after the leader's, the comparison by the distance, and the reduction. -/
theorem announcedBoundaryOfFollowingLane : Obligations.AnnouncedBoundaryOfFollowingLane := by
  refine ⟨fun s x => ?_, fun s x => ?_⟩
  · intro l o y running runs crossing carries above opened led
    have live := live_of_running running
    have announces : l.announces = true := (announces_iff l).2 ⟨carries, above⟩
    refine ⟨fun settled going high _ => ?_, fun source _ _ running' settled going crossing' announces' => ?_⟩
    · refine congrArg Host.Outcome.next ((if_pos live).trans ?_)
      rw [announcedBoundary_of_settled settled runs crossing announces]
      obtain ⟨own, other⟩ := lane_advanceLane s x
      have uncrossed : ((s.advanceLane x).ripenJoins o).uncrossed := by
        have ownSettled : ((s.advanceLane x).lane x).crossing = false := by rw [own]; rfl
        have otherSettled : ((s.advanceLane x).lane (otherLane x)).crossing = false := by rw [other]; exact settled
        intro z
        cases x <;> cases z
        · exact ownSettled
        · exact otherSettled
        · exact otherSettled
        · exact ownSettled
      have at_ : (((s.advanceLane x).ripenJoins o).lane x).pos.beat = y := by
        have same : ((s.advanceLane x).ripenJoins o).lane x = (s.advanceLane x).lane x := by cases x <;> rfl
        rw [same, own]
        rfl
      exact congrArg State.measureKnown ((workLaneBy_of_announced runs crossing announces).trans
        (announce_of_uncrossed uncrossed at_ rfl going high))
    · refine congrArg Host.Outcome.next ((if_pos live).trans (Eq.trans ?_ (if_pos (live_of_running running')).symm))
      rw [announcedBoundary_of_settled settled going crossing' announces']
      unfold State.announcedBoundary
      rw [if_pos source]
      exact if_pos (by rw [isRunning_eq_true.2 going, crossing', announces']; rfl)
  · intro l
    refine ⟨fun free => ?_, fun unlocked => ?_, fun e follows estimate => ?_, fun src follows locked side => ?_⟩
    · exact ⟨if_neg (by simpa using free), if_neg fun h => free h.1⟩
    · exact if_neg fun h => unlocked h.2
    · intro target off
      have compared : s.followCompare x = if l.increment < off then s.newTarget x e l.followGlide else s :=
        followCompare_of_following (target := target) follows estimate rfl
      clear_value off
      refine ⟨fun near => ?_, fun far alone free => ?_, fun far glides => ?_⟩
      · exact compared.trans (if_neg (Nat.not_lt.2 near))
      · refine compared.trans ((if_pos far).trans ((newTarget_of_not_followed free ..).trans ?_))
        rw [if_pos alone]
      · exact compared.trans ((if_pos far).trans (newTarget_of_glide e glides))
    · intro len L d q r near reduced
      have len_eq : s.alignInForce x = len := alignInForce_eq s x
      have unit : s.unitInForce x = L := by
        rw [State.unitInForce, len_eq]
        simp only [L]
        cases len <;> rfl
      have five : s.partFive x = s.reduce x := if_pos ⟨follows, locked⟩
      have quotient : reduceQuotient l.alignMode d L = q := reduceQuotient_eq ..
      have residual : reduceResidual l.alignMode d L = r := by rw [reduceResidual, quotient]
      have reduced_eq := reduce_of_side side
      rw [len_eq, unit] at reduced_eq
      change s.reduce x = if decide ((reduceResidual l.alignMode d L).natAbs ≤ 2 ^ 40) = true ∧ l.aligned = false then _
        else _ at reduced_eq
      rw [residual, quotient] at reduced_eq
      exact five.trans reduced_eq

end Sys2Proof.Machine

/-! The entries at an announced boundary (O19): one entry that is due there, carried out or held over. -/

namespace Sys2Proof.Machine

/-! ## What a change leaves of the queue (R36, R68, R79) -/

section
variable {s : State} {x : LaneId}

theorem touches_newTarget (target g : Nat) : TouchesLanes s (s.newTarget x target g) :=
  .ite ((touches_modLane s x _).trans (touches_setIncrement _)) (touches_modLane s x _)

theorem touches_applyMeter (b p : Nat) : TouchesLanes s (s.applyMeter x b p) :=
  (touches_setLane s x _).trans (touches_rangeResidual _ x)

theorem queue_of_touches {t : State} (h : TouchesLanes s t) : t.queue = s.queue := by rw [h]

theorem mem_plainJoin_queue {d e : Entry} (mem : d ∈ (s.plainJoin e x).queue) : d ∈ s.queue := by
  rw [plainJoin_queue] at mem
  exact List.mem_of_mem_filter mem

theorem mem_joinsLeft_queue {k : SourceKind} {d : Entry} (mem : d ∈ (s.joinsLeft x k).queue) : d ∈ s.queue :=
  foldl_keeps (P := fun t => ∀ d ∈ t.queue, d ∈ s.queue) s _
    (fun _ _ _ ht d mem => ht d (mem_plainJoin_queue mem)) (fun _ mem => mem) d mem

theorem mem_stopLane_queue {d : Entry} (mem : d ∈ (s.stopLane x).queue) : d ∈ s.queue := by
  rw [stopLane_eq] at mem
  exact mem_laneStopped_queue (mem_joinsLeft_queue mem)

end

/-! ## One entry due at the boundary (R74, R75) -/

section
variable {s : State} {x : LaneId} {y : U32} {e : Entry} {before after : List Entry}

theorem boundaryEntries_of_found {fuel : Nat} (found : s.findEntry (·.dueAt x y) = some e)
    (now : s.heldOver e.change (some x) = none) : State.boundaryEntries x y (fuel + 1) s =
      if ((s.carryOut e).lane x).transport = .running then State.boundaryEntries x y fuel (s.carryOut e)
      else s.carryOut e := by
  rw [State.boundaryEntries, found]
  dsimp only
  rw [now]
  exact if_congr isRunning_eq_true rfl rfl

theorem findEntry_of_only (queue : s.queue = before ++ e :: after) (due : e.dueAt x y = true)
    (others : ∀ d ∈ before ++ after, d.dueAt x y = false) : s.findEntry (·.dueAt x y) = some e := by
  have early : before.find? (·.dueAt x y) = none :=
    List.find?_eq_none.2 fun d mem => by simp [others d (List.mem_append_left _ mem)]
  rw [State.findEntry, queue, List.find?_append, early, List.find?_cons_of_pos (p := fun d : Entry => d.dueAt x y) due]
  rfl

/-- An entry that is the only one due, once it is carried out, ends part 2. -/
theorem partTwo_of_carried (queue : s.queue = before ++ e :: after) (due : e.dueAt x y = true)
    (others : ∀ d ∈ before ++ after, d.dueAt x y = false) (now : s.heldOver e.change (some x) = none)
    (left : ∀ d ∈ (s.carryOut e).queue, d ∈ before ++ after) : s.partTwo x y = s.carryOut e := by
  have last (fuel : Nat) : State.boundaryEntries x y fuel (s.carryOut e) = s.carryOut e :=
    boundaryEntries_of_none (fun d mem => others d (left d mem)) fuel
  have length : s.queue.length = (before ++ after).length + 1 := by
    rw [queue, List.length_append, List.length_append, List.length_cons, Nat.add_assoc]
  rw [State.partTwo, length, boundaryEntries_of_found (findEntry_of_only queue due others) now, last, ite_self]

/-- An entry that is the only one due, once it is held over to another boundary, ends part 2. -/
theorem partTwo_of_held (queue : s.queue = before ++ e :: after) (distinct : s.idsDistinct) (due : e.dueAt x y = true)
    (others : ∀ d ∈ before ++ after, d.dueAt x y = false) {z : LaneId} (held : s.heldOver e.change (some x) = some z)
    {next : U32} (at_ : nextStartFrom (s.countedBeat x y z) .bar (s.lane z) = next) (moved : z = x → next ≠ y) :
    s.partTwo x y = { s with
      queue := before ++ { e with timing := z, due := .beat next } :: after
      generation := s.generation + 1 } := by
  have over_ : s.holdOver e z (s.countedBeat x y z) = { s with
      queue := before ++ { e with timing := z, due := .beat next } :: after
      generation := s.generation + 1 } := by
    rw [State.holdOver, at_, retime_of_queue queue distinct]
    rfl
  have free : ∀ d ∈ before ++ { e with timing := z, due := .beat next } :: after, d.dueAt x y = false := by
    intro d mem
    rw [List.mem_append, List.mem_cons] at mem
    rcases mem with mem | rfl | mem
    · exact others d (List.mem_append_left _ mem)
    · refine Bool.eq_false_iff.2 fun again => ?_
      simp only [Entry.dueAt, Bool.and_eq_true, beq_iff_eq, Due.beat.injEq] at again
      exact moved again.1.1 again.1.2
    · exact others d (List.mem_append_right _ mem)
  have length : s.queue.length = (before ++ after).length + 1 := by
    rw [queue, List.length_append, List.length_append, List.length_cons, Nat.add_assoc]
  rw [State.partTwo, length, State.boundaryEntries, findEntry_of_only queue due others]
  dsimp only
  rw [held]
  dsimp only
  rw [over_]
  exact boundaryEntries_of_none free _

end

/-- Settles O19: no entry, the first of several, and the only one by its kind. -/
theorem entriesAtAnAnnouncedBoundary : Obligations.EntriesAtAnAnnouncedBoundary := by
  intro s x y
  refine ⟨fun free => boundaryEntries_of_none free _, fun e fuel found now => boundaryEntries_of_found found now,
    fun before after e queue distinct due others => ?_⟩
  intro gone heldTo done
  have removed : s.removeEntry e.id = gone := removeEntry_of_queue queue distinct
  have lane_gone (z : LaneId) : gone.lane z = s.lane z := by rw [← removed, lane_removeEntry]
  have carried {out : State × Bool} (now : s.heldOver e.change (some x) = none) (change : gone.applyChange e.change = out)
      (left : ∀ d ∈ out.1.queue, d ∈ before ++ after) : s.partTwo x y = out.1.postApplied e out.2 := by
    have form : s.carryOut e = out.1.postApplied e out.2 := by rw [State.carryOut, removed, change]
    refine (partTwo_of_carried queue due others now ?_).trans form
    rw [form, State.postApplied, post_queue]
    exact left
  have done_eq {p : Prop} [Decidable p] {now : State} :
      done (decide p) now = (if p then (now, true) else (gone, false)).1.postApplied e
        (if p then (now, true) else (gone, false)).2 := by
    by_cases h : p
    · simp only [done, h, decide_true, if_true]
    · simp only [done, h, decide_false, if_false]
      rfl
  have settle {p : Prop} [Decidable p] {now : State} (free : s.heldOver e.change (some x) = none)
      (change : gone.applyChange e.change = if p then (now, true) else (gone, false))
      (left : ∀ d ∈ now.queue, d ∈ before ++ after) : s.partTwo x y = done (decide p) now := by
    refine (carried free change ?_).trans done_eq.symm
    split
    · exact left
    · exact fun d mem => mem
  have stopped_iff (z : LaneId) : ¬ (gone.lane z).isRunning = true ↔ (s.lane z).transport = .stopped := by
    rw [lane_gone, Bool.not_eq_true, isRunning_eq_false]
  have flip {p q : Prop} [Decidable p] [Decidable q] (h : ¬ p ↔ q) (now : State) :
      (if p then (gone, false) else (now, true)) = if q then (now, true) else (gone, false) := by
    by_cases hp : p
    · rw [if_pos hp, if_neg fun hq => h.2 hq hp]
    · rw [if_neg hp, if_pos (h.1 hp)]
  have same {now : State} (h : TouchesLanes gone now) : ∀ d ∈ now.queue, d ∈ before ++ after := by
    rw [queue_of_touches h]
    exact fun d mem => mem
  refine ⟨fun z i g change => ?_, fun z b p change => ⟨fun here => ?_, fun own runs inside legal high => ?_,
    fun other runs => ?_⟩, fun z g change none_ => ?_, fun z change => ?_, fun z change => ?_, fun z change => ?_,
    fun z change => ?_⟩
  · refine settle (by rw [change]; rfl) ?_ (same (touches_newTarget i g))
    rw [change, ← lane_gone]
    rfl
  · have now : s.meterNow z (some x) = true := by
      rcases here with stopped | ⟨own, start⟩
      · rw [State.meterNow, (isRunning_eq_false _).2 stopped]
        rfl
      · rw [State.meterNow, own, ← own, start, beq_self_eq_true, beq_self_eq_true, Bool.and_self, Bool.or_true]
    have free : s.heldOver e.change (some x) = none := by
      rw [change]
      exact if_pos now
    exact carried (out := (gone.applyMeter z b p, true)) free (by rw [change]; rfl) (same (touches_applyMeter b p))
  · subst own
    obtain ⟨⟨-, beats, -, -⟩, within, -⟩ := legal
    have later : s.meterNow z (some z) = false := by
      rw [State.meterNow, isRunning_eq_true.2 runs, beq_eq_false_iff_ne.2 inside, Bool.and_false]
      rfl
    have held : s.heldOver e.change (some z) = some z := by
      rw [change]
      exact if_neg (by rw [later]; exact Bool.false_ne_true)
    have step : ahead (y + BitVec.ofNat 32 ((s.lane z).beatsPerBar - (s.lane z).beatInBar)) y =
        ((s.lane z).beatsPerBar - (s.lane z).beatInBar : Nat) := by
      rw [ahead_add (by rw [ahead_self]; omega) (by omega), ahead_self, zero_add]
    refine partTwo_of_held queue distinct due others held ?_ fun _ again => ?_
    · have counted : s.countedBeat z y z = y := if_pos rfl
      rw [counted, nextStartFrom, high]
      exact if_pos (by rw [step]; omega)
    · rw [again, ahead_self] at step
      omega
  · have later : s.meterNow z (some x) = false := by
      have apart : (some x == some z) = false := beq_eq_false_iff_ne.2 fun h => other (Option.some.inj h).symm
      rw [State.meterNow, isRunning_eq_true.2 runs, apart, Bool.false_and]
      rfl
    have held : s.heldOver e.change (some x) = some z := by
      rw [change]
      exact if_neg (by rw [later]; exact Bool.false_ne_true)
    refine partTwo_of_held queue distinct due others held ?_ fun own => absurd own other
    have counted : s.countedBeat x y z = (s.lane z).pos.beat := if_neg other
    rw [counted]
    rfl
  · have none_gone : ∀ d ∈ (gone.sourced z g).queue, d.isJoinOf z = false := by
      rw [sourced_queue]
      intro d mem
      refine none_ d ?_
      rw [queue, List.mem_append, List.mem_cons]
      exact (List.mem_append.1 mem).imp id .inr
    by_cases both : g.kind = .lane ∧ (s.lane (otherLane z)).source = .lane
    · refine settle (by rw [change]; rfl) ?_ ?_
      · rw [change, if_neg (not_not.2 both)]
        exact if_pos (by rw [lane_gone]; exact both)
      · have left : gone.applySource z g = (gone, false) := if_pos (by rw [lane_gone]; exact both)
        rw [left]
        exact fun d mem => mem
    · have changed := applySource_of_no_join (s := gone) (x := z) (g := g) (by rw [lane_gone]; exact both) none_gone
      refine settle (by rw [change]; rfl) ?_ ?_
      · rw [change, if_pos both, changed]
        exact changed
      · rw [changed, sourced_queue]
        exact fun d mem => mem
  · refine settle (by rw [change]; rfl) ?_ (same (touches_started ..))
    rw [change]
    exact flip (stopped_iff z) _
  · refine settle (by rw [change]; rfl) ?_ fun d mem => mem_stopLane_queue mem
    rw [change]
    exact if_congr (by rw [lane_gone, isRunning_eq_true]) rfl rfl
  · refine settle (by rw [change]; rfl) ?_ (same ?_)
    · rw [change]
      exact flip (stopped_iff z) _
    · rw [resumeLane_eq_started]
      exact touches_started ..
  · refine settle (by rw [change]; rfl) ?_ (same ?_)
    · rw [change]
      exact flip (stopped_iff z) _
    · rw [copyLane_eq_started]
      exact touches_started ..

end Sys2Proof.Machine

/-! CUE_EDGE (O35): the break records that wait on the line, and the entries after them. -/

namespace Sys2Proof.Machine

/-! ## The break records of a cue line (R81, R132) -/

section
variable (s : State) (c : Fin 4) (q : Quantize)

/-- The due that a taken edge gives a break of timing lane `b.timing` (R81, R132). -/
def State.cueDue (b : BreakRecord) : BreakDue :=
  if (s.lane b.timing).transport = .stopped then .absent
  else match q with
    | .none => .absent
    | .beat => .beat ((s.lane b.timing).high + 1)
    | .bar => .beat (TakeMode.nextBar.dueBeat (s.lane b.timing))

/-- Whether a WAITING member of record `r` enters at once when the records of `l` are resolved. -/
def State.cueMark (l : List (Fin 4)) (ch : Channel) (r : Fin 4) (once : Bool) : Bool :=
  match s.brk r with
  | some b =>
    if r ∈ l ∧ b.due = .cue c then
      match s.cueDue q b with
      | .beat y => once || (ch.projectedOn (s.lane b.timing)).reached y
      | _ => true
    else once
  | none => once

/-- The membership that a taken edge leaves a channel when the records of `l` are resolved. -/
def State.cueMember (l : List (Fin 4)) (ch : Channel) : Option BreakMembership :=
  match ch.brk with
  | some ⟨r, .waiting once⟩ => some ⟨r, .waiting (s.cueMark c q l ch r once)⟩
  | other => other

/-- What a taken edge makes of record `r`. -/
def State.cueBrk (r : Fin 4) : Option BreakRecord :=
  (s.brk r).map fun b => if b.due = .cue c then { b with due := s.cueDue q b } else b

variable {s c q}

theorem cueMark_of_not_mem {l : List (Fin 4)} {r : Fin 4} (other : r ∉ l) (ch : Channel) (once : Bool) :
    s.cueMark c q l ch r once = once := by
  unfold State.cueMark
  split
  · exact if_neg fun h => other h.1
  · rfl

theorem cueMember_of_marks {l : List (Fin 4)} {ch : Channel} (same : ∀ r once, s.cueMark c q l ch r once = once) :
    s.cueMember c q l ch = ch.brk := by
  unfold State.cueMember
  split
  · next r once h => rw [h, same]
  · rfl

/-- A WAITING member of record `r`. -/
def Channel.waitsIn (r : Fin 4) (ch : Channel) : Bool :=
  match ch.brk with
  | some ⟨r', .waiting _⟩ => r' = r
  | _ => false

theorem markAll_eq (s : State) (r : Fin 4) : s.markAll r =
    s.changeWhere (fun _ ch => ch.waitsIn r = true) fun _ ch => { ch with brk := some ⟨r, .waiting true⟩ } := by
  have step (n : Fin 16) (t : State) (_ : True) :
      (if (t.chan n).waitsIn r = true then t.modChan n fun ch => { ch with brk := some ⟨r, .waiting true⟩ } else t) =
      match (t.chan n).brk with
      | some ⟨r', .waiting _⟩ =>
        if r' = r then t.modChan n fun ch => { ch with brk := some ⟨r', .waiting true⟩ } else t
      | _ => t := by
    unfold Channel.waitsIn
    split
    · next r' _ _ =>
      by_cases own : r' = r
      · simp [own]
      · simp [own]
    · simp
  exact (forChannels_congr_of s (P := fun _ => True) trivial (fun _ _ _ => trivial) step).symm

/-- The record `r` resolved, and its waiting members marked. -/
theorem resolveCueBreak_of_waiting {r : Fin 4} {b : BreakRecord} (held : s.brk r = some b) (waits : b.due = .cue c) :
    s.resolveCueBreak c q r =
      let t := s.setBrk r (some { b with due := s.cueDue q b })
      match s.cueDue q b with
      | .beat y => t.markPassed r b.timing y
      | _ => t.markAll r := by
  unfold State.resolveCueBreak State.cueDue
  rw [held]
  cases running : (s.lane b.timing).transport with
  | stopped => simp [waits, Lane.isRunning, running]
  | running => cases q <;> simp [waits, Lane.isRunning, running] <;> rfl

theorem cueMark_of_mem {l : List (Fin 4)} {r : Fin 4} {b : BreakRecord} (mem : r ∈ l) (held : s.brk r = some b)
    (waits : b.due = .cue c) (ch : Channel) (once : Bool) : s.cueMark c q l ch r once =
      match s.cueDue q b with
      | .beat y => once || (ch.projectedOn (s.lane b.timing)).reached y
      | _ => true := by
  unfold State.cueMark
  rw [held]
  exact if_pos ⟨mem, waits⟩

/-- A change of the waiting members of record `r` alone. -/
theorem cueMember_single (r : Fin 4) (ch : Channel) : s.cueMember c q [r] ch = match ch.brk with
    | some ⟨r', .waiting once⟩ => if r' = r then some ⟨r, .waiting (s.cueMark c q [r] ch r once)⟩ else ch.brk
    | other => other := by
  unfold State.cueMember
  rcases h : ch.brk with _ | ⟨r', waiting | inBreak⟩
  · rfl
  · dsimp only
    by_cases own : r' = r
    · rw [if_pos own, own]
    · rw [if_neg own, cueMark_of_not_mem (by simpa using own)]
  · rfl

theorem cueMark_all (ch : Channel) (r : Fin 4) (once : Bool) : s.cueMark c q allRecords ch r once =
    match s.brk r with
    | some b =>
      if b.due = .cue c then
        match s.cueDue q b with
        | .beat y => once || (ch.projectedOn (s.lane b.timing)).reached y
        | _ => true
      else once
    | none => once := by
  unfold State.cueMark
  cases s.brk r with
  | none => rfl
  | some b => exact if_congr (and_iff_right (mem_allRecords r)) rfl rfl

/-- What a taken edge makes of the record `r` and of its members. -/
theorem resolveCueBreak_facts (s : State) (c : Fin 4) (q : Quantize) (r : Fin 4) :
    (∀ n, (s.resolveCueBreak c q r).chan n = { s.chan n with brk := s.cueMember c q [r] (s.chan n) }) ∧
    (∀ p, (s.resolveCueBreak c q r).brk p = if p = r then s.cueBrk c q r else s.brk p) ∧
    OnlyBreaks s (s.resolveCueBreak c q r) := by
  by_cases waiting : ∃ b, s.brk r = some b ∧ b.due = .cue c
  · obtain ⟨b, held, waits⟩ := waiting
    have record : s.cueBrk c q r = some { b with due := s.cueDue q b } := by
      rw [State.cueBrk, held, Option.map_some, if_pos waits]
    have marked (ch : Channel) (once : Bool) := cueMark_of_mem (q := q) (List.mem_singleton.2 rfl) held waits ch once
    have brk (p : Fin 4) : (s.setBrk r (some { b with due := s.cueDue q b })).brk p =
        if p = r then s.cueBrk c q r else s.brk p := by rw [brk_setBrk, record]
    have set := onlyBreaks_setBrk s r (some { b with due := s.cueDue q b })
    have changed {p : Fin 16 → Channel → Prop} [∀ n ch, Decidable (p n ch)]
        (resolved : s.resolveCueBreak c q r = (s.setBrk r (some { b with due := s.cueDue q b })).changeWhere p
          fun _ ch => { ch with brk := some ⟨r, .waiting true⟩ })
        (each : ∀ n ch, s.cueMember c q [r] ch = if p n ch then some ⟨r, .waiting true⟩ else ch.brk) :
        (∀ n, (s.resolveCueBreak c q r).chan n = { s.chan n with brk := s.cueMember c q [r] (s.chan n) }) ∧
        (∀ p, (s.resolveCueBreak c q r).brk p = if p = r then s.cueBrk c q r else s.brk p) ∧
        OnlyBreaks s (s.resolveCueBreak c q r) := by
      rw [resolved]
      refine ⟨fun n => (chan_changeWhere _ _ _ n).trans ?_, fun m => ?_, set.trans ?_⟩
      · rw [each n, chan_setBrk]
        split <;> rfl
      · rw [(onlyChannels_changeWhere _ _ _).brk]
        exact brk m
      · obtain ⟨channels, only⟩ := onlyChannels_changeWhere (s.setBrk r (some { b with due := s.cueDue q b })) p
          fun _ ch => { ch with brk := some ⟨r, .waiting true⟩ }
        exact ⟨_, channels, only⟩
    have resolved := resolveCueBreak_of_waiting (q := q) held waits
    have all (marks : ∀ ch once, s.cueMark c q [r] ch r once = true) (n : Fin 16) (ch : Channel) :
        s.cueMember c q [r] ch = if ch.waitsIn r = true then some ⟨r, .waiting true⟩ else ch.brk := by
      rw [cueMember_single]
      unfold Channel.waitsIn
      rcases h : ch.brk with _ | ⟨r', waiting | inBreak⟩
      · rfl
      · by_cases own : r' = r <;> simp [own, marks]
      · rfl
    cases due : s.cueDue q b with
    | beat y =>
      rw [due] at resolved
      dsimp only at resolved
      rw [markPassed_eq] at resolved
      refine changed (by rw [due]; exact resolved) fun n ch => ?_
      rw [cueMember_single, lane_setBrk]
      unfold passedMember
      rcases h : ch.brk with _ | ⟨r', waiting | inBreak⟩
      · simp
      · by_cases own : r' = r
        · subst own
          simp only [if_true, marked, due, decide_true, Bool.true_and]
          by_cases past : (ch.projectedOn (s.lane b.timing)).reached y = true
          · rw [if_pos past, past, Bool.or_true]
          · rw [if_neg past, Bool.eq_false_iff.2 past, Bool.or_false]
        · simp [own]
      · simp
    | absent =>
      simp only [due] at resolved
      rw [markAll_eq] at resolved
      refine changed (by rw [due]; exact resolved) (all fun ch once => ?_)
      rw [marked, due]
    | cue d =>
      simp only [due] at resolved
      rw [markAll_eq] at resolved
      refine changed (by rw [due]; exact resolved) (all fun ch once => ?_)
      rw [marked, due]
  · have same : s.resolveCueBreak c q r = s := by
      unfold State.resolveCueBreak
      cases held : s.brk r with
      | none => rfl
      | some b => exact if_neg fun waits => waiting ⟨b, held, waits⟩
    have marks (ch : Channel) (p : Fin 4) (once : Bool) : s.cueMark c q [r] ch p once = once := by
      by_cases own : p = r
      · subst own
        unfold State.cueMark
        split
        · next b held => exact if_neg fun h => waiting ⟨b, held, h.2⟩
        · rfl
      · exact cueMark_of_not_mem (by simpa using own) ch once
    rw [same]
    refine ⟨fun n => ?_, fun p => ?_, s.breaks, s.channels, rfl⟩
    · rw [cueMember_of_marks (marks _)]
    · split
      · next own =>
        subst own
        rw [State.cueBrk]
        cases held : s.brk p with
        | none => rfl
        | some b => rw [Option.map_some, if_neg fun waits => waiting ⟨b, held, waits⟩]
      · rfl

theorem cueMember_nil (ch : Channel) : s.cueMember c q [] ch = ch.brk :=
  cueMember_of_marks fun _ _ => cueMark_of_not_mem List.not_mem_nil ..

/-- The marks once one record more has been resolved. -/
theorem cueMember_append {l : List (Fin 4)} {r : Fin 4} (fresh : r ∉ l) (ch : Channel) :
    s.cueMember c q (l ++ [r]) ch = s.cueMember c q [r] { ch with brk := s.cueMember c q l ch } := by
  unfold State.cueMember
  rcases h : ch.brk with _ | ⟨r', once | inBreak⟩
  · rfl
  · refine congrArg (fun once : Bool => some (BreakMembership.mk r' (.waiting once))) ?_
    dsimp only
    by_cases own : r' = r
    · subst own
      have among : r' ∈ l ++ [r'] ↔ r' ∈ [r'] := by simp
      rw [cueMark_of_not_mem fresh]
      unfold State.cueMark
      simp only [among]
      rfl
    · have among : r' ∈ l ++ [r] ↔ r' ∈ l := by simp [own]
      rw [cueMark_of_not_mem (l := [r]) (by simpa using own)]
      unfold State.cueMark
      simp only [among]
  · rfl

theorem resolveCueBreaks_facts (s : State) (c : Fin 4) (q : Quantize) {l : List (Fin 4)} (nodup : l.Nodup) :
    let t := l.foldl (fun t r => t.resolveCueBreak c q r) s
    (∀ n, t.chan n = { s.chan n with brk := s.cueMember c q l (s.chan n) }) ∧
    (∀ p, t.brk p = if p ∈ l then s.cueBrk c q p else s.brk p) ∧ OnlyBreaks s t := by
  induction l using List.reverseRecOn with
  | nil => exact ⟨fun n => by rw [cueMember_nil]; rfl, fun p => by simp, s.breaks, s.channels, rfl⟩
  | append_singleton l r ih =>
    rw [List.foldl_append, List.foldl_cons, List.foldl_nil]
    obtain ⟨chan, brk, frame⟩ := ih (List.nodup_append.1 nodup).1
    have fresh : r ∉ l := fun h => (List.nodup_append.1 nodup).2.2 r h r (List.mem_singleton.2 rfl) rfl
    generalize l.foldl (fun t r => t.resolveCueBreak c q r) s = t at chan brk frame
    have held : t.brk r = s.brk r := by rw [brk, if_neg fresh]
    have lane (z : LaneId) : t.lane z = s.lane z := by
      rw [frame.frame]
      cases z <;> rfl
    have due (b : BreakRecord) : t.cueDue q b = s.cueDue q b := by
      simp only [State.cueDue, lane]
    have record : t.cueBrk c q r = s.cueBrk c q r := by
      simp only [State.cueBrk, held, due]
    have member (ch : Channel) : t.cueMember c q [r] ch = s.cueMember c q [r] ch := by
      rw [cueMember_single, cueMember_single]
      simp only [State.cueMark, held, due, lane]
    obtain ⟨chan', brk', frame'⟩ := resolveCueBreak_facts t c q r
    dsimp only
    refine ⟨fun n => ?_, fun p => ?_, frame.trans frame'⟩
    · rw [chan', member, chan, cueMember_append fresh]
    · rw [brk', record, brk]
      by_cases own : p = r
      · subst own
        simp
      · simp [own]

end

/-! ## The edge (R80, R81) -/

/-- The edge taken on line `c`. -/
def State.cueTaken (s : State) (c : Fin 4) : State :=
  { s with cues := s.cues.set c.val { s.cues[c] with lastEdge := some s.clock } c.isLt }

/-- The break records of line `c` resolved. -/
def State.cueBreaks (s : State) (c : Fin 4) (q : Quantize) : State :=
  allRecords.foldl (fun t r => t.resolveCueBreak c q r) s

/-- The entries of line `c` named by `ids` resolved, the edge counted once where one was given a due point. -/
def State.cueEntries (s : State) (c : Fin 4) (q : Quantize) (ids : List Nat) : State :=
  let out := State.resolveCueEntries c q ids s
  if out.2 then out.1.bumpGeneration else out.1

/-- The ids of the entries that wait on line `c`. -/
def State.cueIds (s : State) (c : Fin 4) : List Nat := (s.queue.filter fun e => e.due == .cue c).map (·.id)

section
variable (s : State) (c : Fin 4) (q : Quantize)

theorem cueBreaks_facts :
    (∀ n, (s.cueBreaks c q).chan n = { s.chan n with brk := s.cueMember c q allRecords (s.chan n) }) ∧
    (∀ p, (s.cueBreaks c q).brk p = s.cueBrk c q p) ∧ OnlyBreaks s (s.cueBreaks c q) := by
  obtain ⟨chan, brk, frame⟩ := resolveCueBreaks_facts s c q (l := allRecords) (by decide)
  exact ⟨chan, fun p => (brk p).trans (if_pos (mem_allRecords p)), frame⟩

theorem cueBreaks_queue : (s.cueBreaks c q).queue = s.queue := by
  rw [(cueBreaks_facts s c q).2.2.frame]

/-- What the break records of a line become does not depend on the queue. -/
theorem cueBreaks_withQueue (r : List Entry) : (s.withQueue r).cueBreaks c q = (s.cueBreaks c q).withQueue r := by
  obtain ⟨chan, brk, frame⟩ := cueBreaks_facts s c q
  obtain ⟨chan', brk', frame'⟩ := cueBreaks_facts (s.withQueue r) c q
  have due : (s.withQueue r).cueDue q = s.cueDue q := by
    funext b
    unfold State.cueDue
    rw [lane_withQueue]
  have record (p : Fin 4) : (s.withQueue r).cueBrk c q p = s.cueBrk c q p := by
    unfold State.cueBrk
    rw [due]
    rfl
  have member (n : Fin 16) : (s.withQueue r).cueMember c q allRecords ((s.withQueue r).chan n) =
      s.cueMember c q allRecords (s.chan n) := by
    unfold State.cueMember State.cueMark
    simp only [due, lane_withQueue]
    rfl
  have channels : ((s.withQueue r).cueBreaks c q).channels = (s.cueBreaks c q).channels :=
    channels_of_chan fun n => by rw [chan', chan, member]; rfl
  have breaks : ((s.withQueue r).cueBreaks c q).breaks = (s.cueBreaks c q).breaks :=
    breaks_of_brk fun p => by rw [brk', brk, record]
  refine frame'.frame.trans (Eq.trans ?_ (congrArg (·.withQueue r) frame.frame.symm))
  rw [channels, breaks]
  rfl

/-- Where no break record waits on the line the records stand. -/
theorem cueBreaks_of_none (none_ : ∀ r b, s.brk r = some b → b.due ≠ .cue c) : s.cueBreaks c q = s := by
  refine foldl_keeps (P := fun t => t = s) s allRecords (fun t r _ h => ?_) rfl
  rw [h]
  unfold State.resolveCueBreak
  cases held : s.brk r with
  | none => rfl
  | some b => exact if_neg (none_ r b held)

variable {s c q}

theorem cueEdge_of_taken (late : ∀ last, (s.cues[c]).lastEdge = some last → 1920 ≤ since s.clock last) :
    s.cueEdge c = ((s.cueTaken c).cueBreaks c (s.cues[c]).quantize).cueEntries c (s.cues[c]).quantize (s.cueIds c) := by
  have taken : edgeTaken cueDebounce s.clock (s.cues[c]).lastEdge = true := by
    unfold edgeTaken
    cases last : (s.cues[c]).lastEdge with
    | none => rfl
    | some t => exact decide_eq_true (late t last)
  have ids : ((s.cueTaken c).cueBreaks c (s.cues[c]).quantize).cueIds c = s.cueIds c := by
    rw [State.cueIds, cueBreaks_queue]
    rfl
  rw [← ids]
  unfold State.cueEdge
  dsimp only
  rw [if_pos taken]
  rfl

theorem withQueue_restored (r : List Entry) {t : State} {r' : List Entry} (same : t.queue = r') :
    (t.withQueue r).withQueue r' = t := by
  rw [← same]
  rfl

/-- The edge on a line on which no entry waits. -/
theorem cueEdge_without_entries (late : ∀ last, (s.cues[c]).lastEdge = some last → 1920 ≤ since s.clock last) :
    (s.withQueue (s.queue.filter fun e => e.due != .cue c)).cueEdge c =
      ((s.cueTaken c).cueBreaks c (s.cues[c]).quantize).withQueue (s.queue.filter fun e => e.due != .cue c) := by
  have unnamed : (s.withQueue (s.queue.filter fun e => e.due != .cue c)).cueIds c = [] := by
    refine List.map_eq_nil_iff.2 (List.filter_eq_nil_iff.2 fun e mem => ?_)
    simpa using List.of_mem_filter mem
  have apart := cueEdge_of_taken (s := s.withQueue (s.queue.filter fun e => e.due != .cue c)) late
  rw [unnamed] at apart
  refine apart.trans ?_
  rw [← cueBreaks_withQueue]
  rfl

theorem cueEdge_of_bouncing {last : Nat} (edge : (s.cues[c]).lastEdge = some last) (early : since s.clock last < 1920) :
    s.cueEdge c = s := by
  refine if_neg ?_
  rw [edge]
  simpa [edgeTaken] using early

theorem cueIds_of_none (none_ : ∀ e ∈ s.queue, e.due ≠ .cue c) : s.cueIds c = [] := by
  rw [State.cueIds, List.filter_eq_nil_iff.2 fun e mem => by simpa using none_ e mem]
  rfl

/-! ## The entries of a cue line (R81) -/

theorem resolveCueEntries_of_gone {id : Nat} {ids : List Nat}
    (gone : s.findEntry (fun d => d.id == id && d.due == .cue c) = none) :
    State.resolveCueEntries c q (id :: ids) s = State.resolveCueEntries c q ids s := by
  rw [State.resolveCueEntries, gone]

theorem resolveCueEntries_of_found {id : Nat} {ids : List Nat} {e : Entry}
    (found : s.findEntry (fun d => d.id == id && d.due == .cue c) = some e) :
    State.resolveCueEntries c q (id :: ids) s =
      ((State.resolveCueEntries c q ids (s.resolveCueEntry q e).1).1,
        (s.resolveCueEntry q e).2 || (State.resolveCueEntries c q ids (s.resolveCueEntry q e).1).2) := by
  rw [State.resolveCueEntries, found]

variable (s q) in
/-- The beat at which an entry of a RUNNING timing lane falls due by a taken edge. -/
def State.cueBeat (e : Entry) : U32 :=
  match q with
  | .bar => TakeMode.nextBar.dueBeat (s.lane e.timing)
  | _ => (s.lane e.timing).high + 1

/-- The entry given a due point on its timing lane. -/
theorem resolveCueEntry_of_running {e : Entry} (runs : (s.lane e.timing).transport = .running) (quantized : q ≠ .none) :
    s.resolveCueEntry q e = (s.retime e.id e.timing (.beat (s.cueBeat q e)), true) := by
  unfold State.resolveCueEntry
  dsimp only
  rw [isRunning_eq_true.2 runs]
  cases q with
  | none => exact absurd rfl quantized
  | beat => rfl
  | bar => rfl

variable (s q) in
/-- The entries named by `ids` due at the beats of a taken edge. -/
def State.cueQueue (ids : List Nat) : List Entry :=
  s.queue.map fun e => if e.id ∈ ids then { e with due := .beat (s.cueBeat q e) } else e

theorem cueBeat_withQueue (r : List Entry) (e : Entry) : (s.withQueue r).cueBeat q e = s.cueBeat q e := by
  unfold State.cueBeat
  rw [lane_withQueue]

theorem eq_of_id {d e : Entry} (distinct : s.idsDistinct) (hd : d ∈ s.queue) (he : e ∈ s.queue) (same : d.id = e.id) :
    d = e := List.inj_on_of_nodup_map distinct.1 hd he same

theorem mem_cueIds {e : Entry} (distinct : s.idsDistinct) (mem : e ∈ s.queue) : e.id ∈ s.cueIds c ↔ e.due = .cue c := by
  unfold State.cueIds
  rw [List.mem_map]
  refine ⟨fun ⟨d, mem_d, same⟩ => ?_, fun waits => ⟨e, List.mem_filter.2 ⟨mem, beq_iff_eq.2 waits⟩, rfl⟩⟩
  obtain ⟨mem_d, waits⟩ := List.mem_filter.1 mem_d
  rw [← eq_of_id distinct mem_d mem same]
  exact beq_iff_eq.1 waits

/-- Entries of RUNNING timing lanes keep their places, and the edge is counted. -/
theorem resolveCueEntries_of_running {ids : List Nat} (distinct : s.idsDistinct) (nodup : ids.Nodup) (quantized : q ≠ .none)
    (runs : ∀ id ∈ ids, ∃ e ∈ s.queue, e.id = id ∧ e.due = .cue c ∧ (s.lane e.timing).transport = .running) :
    State.resolveCueEntries c q ids s = (s.withQueue (s.cueQueue q ids), !ids.isEmpty) := by
  induction ids generalizing s with
  | nil =>
    have same : s.cueQueue q [] = s.queue := by
      unfold State.cueQueue
      simp
    rw [same]
    rfl
  | cons id ids ih =>
    obtain ⟨fresh, nodup'⟩ := List.nodup_cons.1 nodup
    obtain ⟨e, mem, own, waits, running⟩ := runs id List.mem_cons_self
    have found : s.findEntry (fun d => d.id == id && d.due == .cue c) = some e := by
      cases found : s.findEntry (fun d => d.id == id && d.due == .cue c) with
      | none =>
        have absent := List.find?_eq_none.1 found e mem
        simp [own, waits] at absent
      | some d =>
        have id_d := List.find?_some found
        rw [Bool.and_eq_true, beq_iff_eq] at id_d
        rw [eq_of_id distinct (List.mem_of_find?_eq_some found) mem (id_d.1.trans own.symm)]
    have first : s.retime e.id e.timing (.beat (s.cueBeat q e)) = s.withQueue (s.cueQueue q [id]) := by
      refine congrArg s.withQueue (List.map_congr_left fun d mem_d => ?_)
      by_cases same : d.id = e.id
      · rw [if_pos same, if_pos (List.mem_singleton.2 (same.trans own)), eq_of_id distinct mem_d mem same]
      · rw [if_neg same, if_neg fun h => same ((List.mem_singleton.1 h).trans own.symm)]
    have ids_kept : (s.cueQueue q [id]).map (·.id) = s.queue.map (·.id) := by
      unfold State.cueQueue
      rw [List.map_map]
      refine List.map_congr_left fun d _ => ?_
      dsimp only [Function.comp]
      split <;> rfl
    have distinct' : (s.withQueue (s.cueQueue q [id])).idsDistinct := by
      refine ⟨?_, fun d mem_d => ?_⟩
      · change ((s.cueQueue q [id]).map (·.id)).Nodup
        rw [ids_kept]
        exact distinct.1
      · have named : d.id ∈ s.queue.map (·.id) := ids_kept ▸ List.mem_map_of_mem mem_d
        obtain ⟨d', mem', same⟩ := List.mem_map.1 named
        rw [← same]
        exact distinct.2 d' mem'
    have second := ih (s := s.withQueue (s.cueQueue q [id])) distinct' nodup' (fun id' mem' => by
      obtain ⟨d, mem_d, own_d, waits_d, running_d⟩ := runs id' (List.mem_cons_of_mem _ mem')
      refine ⟨d, List.mem_map.2 ⟨d, mem_d, if_neg fun h => ?_⟩, own_d, waits_d, by rw [lane_withQueue]; exact running_d⟩
      rw [own_d, List.mem_singleton] at h
      exact fresh (h ▸ mem'))
    rw [resolveCueEntries_of_found found, resolveCueEntry_of_running running quantized]
    dsimp only
    rw [first, second]
    refine Prod.ext (congrArg s.withQueue ?_) rfl
    unfold State.cueQueue
    simp only [cueBeat_withQueue]
    refine List.map_map.trans (List.map_congr_left fun d _ => ?_)
    dsimp only [Function.comp]
    by_cases same : d.id = id
    · simp only [List.mem_cons, same, fresh, if_true, if_false, true_or]
    · simp only [List.mem_cons, List.not_mem_nil, same, if_false, false_or]

theorem cueEntries_of_running (distinct : s.idsDistinct) (waiting : ∃ e ∈ s.queue, e.due = .cue c)
    (runs : ∀ e ∈ s.queue, e.due = .cue c → (s.lane e.timing).transport = .running) (quantized : q ≠ .none) :
    s.cueEntries c q (s.cueIds c) = { s with
      queue := s.queue.map fun e => if e.due = .cue c then { e with due := .beat (s.cueBeat q e) } else e
      generation := s.generation + 1 } := by
  obtain ⟨e, mem, waits⟩ := waiting
  have named : e.id ∈ s.cueIds c := (mem_cueIds distinct mem).2 waits
  have nodup : (s.cueIds c).Nodup := distinct.1.sublist (List.filter_sublist.map _)
  have counted : (!(s.cueIds c).isEmpty) = true := by
    rw [Bool.not_eq_true', List.isEmpty_eq_false_iff]
    exact List.ne_nil_of_mem named
  have queue : s.cueQueue q (s.cueIds c) =
      s.queue.map fun e => if e.due = .cue c then { e with due := .beat (s.cueBeat q e) } else e :=
    List.map_congr_left fun d mem_d => if_congr (mem_cueIds distinct mem_d) rfl rfl
  have resolved := resolveCueEntries_of_running (c := c) distinct nodup quantized fun id mem_id => by
    obtain ⟨d, mem_d, own⟩ := List.mem_map.1 mem_id
    obtain ⟨mem_d, waits_d⟩ := List.mem_filter.1 mem_d
    exact ⟨d, mem_d, own, beq_iff_eq.1 waits_d, runs d mem_d (beq_iff_eq.1 waits_d)⟩
  rw [State.cueEntries, resolved]
  dsimp only
  rw [if_pos counted, queue]
  rfl

/-- An entry in its IMMEDIATE form: a due point of its own, or carried out at once. -/
theorem resolveCueEntry_of_immediate {e : Entry} (idle : (s.lane e.timing).transport = .stopped ∨ q = .none) :
    s.resolveCueEntry q e = match s.immediateDue e with
      | some (x, y) => (s.retime e.id x (.beat y), true)
      | none => (s.carryOut e, false) := by
  have quantize : (if (s.lane e.timing).isRunning then q else .none) = .none := by
    rcases idle with stopped | none_
    · exact if_neg (by rw [isRunning_eq_true, stopped]; exact Transport.noConfusion)
    · rw [none_, ite_self]
  unfold State.resolveCueEntry
  dsimp only
  rw [quantize] <;> cases s.immediateDue e <;> rfl

end

/-- An entry given a due point keeps its place, and one carried out leaves the queue first. -/
theorem resolveCueEntry_cases (u : State) (before after : List Entry) (e : Entry)
    (queue : u.queue = before ++ e :: after) (distinct : u.idsDistinct) :
    let gone : State := { u with queue := before ++ after, generation := u.generation + 1 }
    let dueAt (z : LaneId) (y : U32) : State × Bool :=
      ({ u with queue := before ++ { e with timing := z, due := .beat y } :: after }, true)
    (∀ z y, (u.retime e.id z (.beat y), true) = dueAt z y) ∧
    (∀ out, gone.applyChange e.change = out → (u.carryOut e, false) = (out.1.postApplied e out.2, false)) := by
  refine ⟨fun z y => ?_, fun out change => ?_⟩
  · rw [retime_of_queue queue distinct]
  · rw [State.carryOut, removeEntry_of_queue queue distinct, change]

/-- Settles O35: the edge by its debounce time, its break records and its entries, and one entry by its kind. -/
theorem cueEdgeResolves : Obligations.CueEdgeResolves := by
  refine ⟨fun s c running => ?_, fun c q u id ids => ⟨resolveCueEntries_of_gone, fun e found =>
    resolveCueEntries_of_found found⟩, fun u q before after e queue distinct => ?_⟩
  · intro line taken
    have live := live_of_running running
    have edge : exec (.cueEdge c) s = .next (s.cueEdge c) := congrArg Host.Outcome.next (if_pos live)
    have taken_eq : s.cueTaken c = taken := rfl
    have ids_eq : (s.queue.filter fun e => e.due == .cue c).map (·.id) = s.cueIds c := rfl
    refine ⟨fun last bouncing early => ?_, fun late => ?_⟩
    · rw [edge, cueEdge_of_bouncing bouncing early]
    have worked := cueEdge_of_taken late
    rw [taken_eq] at worked
    have free (none_ : ∀ r b, s.brk r = some b → b.due ≠ .cue c) : taken.cueBreaks c line.quantize = taken :=
      cueBreaks_of_none _ _ _ none_
    refine ⟨fun none_ unnamed => ?_, fun none_ => ?_, fun broken withoutEntries => ?_, fun none_ distinct waiting runs quantized => ?_,
      fun unnamed => ?_⟩
    · rw [edge, worked, free none_, cueIds_of_none unnamed]
      rfl
    · rw [edge, worked, free none_]
      rfl
    · have result := Host.Outcome.next.inj
        (withoutEntries.symm.trans (congrArg Host.Outcome.next ((if_pos live).trans (cueEdge_without_entries late))))
      have restored : broken.withQueue s.queue = (s.cueTaken c).cueBreaks c line.quantize := by
        rw [result]
        exact withQueue_restored _ (cueBreaks_queue ..)
      rw [edge, cueEdge_of_taken late, ← restored]
      rfl
    · have kept := cueEntries_of_running (s := taken) (c := c) distinct waiting runs quantized
      rw [edge, worked, free none_]
      exact congrArg Host.Outcome.next kept
    · refine ⟨taken.cueBreaks c line.quantize, ?_, ?_⟩
      · rw [edge, worked, cueIds_of_none unnamed]
        rfl
      obtain ⟨chan, brk, frame⟩ := cueBreaks_facts taken c line.quantize
      refine ⟨frame.frame, ?_⟩
      intro due
      have due_eq (b : BreakRecord) : taken.cueDue line.quantize b = due b := rfl
      refine ⟨fun r => ?_, fun n => (chan n).trans ?_⟩
      · rw [brk]
        rfl
      · unfold State.cueMember
        simp only [cueMark_all]
        rfl
  · intro lane gone dueAt done
    obtain ⟨retimed, carried⟩ := resolveCueEntry_cases u before after e queue distinct
    have lane_gone (z : LaneId) : gone.lane z = u.lane z := by cases z <;> rfl
    refine ⟨fun runs beat => ?_, fun runs bar => ?_, fun idle => ?_⟩
    · rw [beat, resolveCueEntry_of_running runs Quantize.noConfusion]
      exact retimed ..
    · rw [bar, resolveCueEntry_of_running runs Quantize.noConfusion]
      exact retimed ..
    have immediate := resolveCueEntry_of_immediate idle
    have settle {out : State × Bool} (free : u.immediateDue e = none) (change : gone.applyChange e.change = out) :
        u.resolveCueEntry q e = (out.1.postApplied e out.2, false) := by
      rw [immediate, free]
      exact carried out change
    have settleIf {p : Prop} [Decidable p] {now : State} (free : u.immediateDue e = none)
        (change : gone.applyChange e.change = if p then (now, true) else (gone, false)) :
        u.resolveCueEntry q e = done (decide p) now := by
      refine (settle free change).trans ?_
      by_cases h : p
      · simp only [done, h, decide_true, if_true]
      · simp only [done, h, decide_false, if_false]
        rfl
    have stopped_iff (z : LaneId) : ¬ (gone.lane z).isRunning = true ↔ (u.lane z).transport = .stopped := by
      rw [lane_gone, Bool.not_eq_true, isRunning_eq_false]
    have flip {p q : Prop} [Decidable p] [Decidable q] (h : ¬ p ↔ q) (now : State) :
        (if p then (gone, false) else (now, true)) = if q then (now, true) else (gone, false) := by
      by_cases hp : p
      · rw [if_pos hp, if_neg fun hq => h.2 hq hp]
      · rw [if_neg hp, if_pos (h.1 hp)]
    have plain (z : LaneId) (a : EntryAction) (change : e.change = .transport z a) : u.immediateDue e = none := by
      rw [State.immediateDue, change]
    refine ⟨fun z i g change => ?_, fun z b p change => ?_, fun z g change => ?_, fun z change => ?_, fun z change => ?_,
      fun z change => ?_, fun z change => ?_, fun n cfg change => ?_⟩
    · refine settleIf (by rw [State.immediateDue, change]) ?_
      rw [change, ← lane_gone]
      rfl
    · by_cases runs : (u.lane z).transport = .running
      · rw [if_pos runs, immediate, State.immediateDue, change]
        dsimp only
        rw [if_pos (isRunning_eq_true.2 runs)]
        exact retimed ..
      · rw [if_neg runs]
        refine settle (out := (gone.applyMeter z b p, true)) ?_ (by rw [change]; rfl)
        rw [State.immediateDue, change]
        exact if_neg (mt isRunning_eq_true.1 runs)
    · have free : u.immediateDue e = none := by rw [State.immediateDue, change]
      have changed : gone.applyChange e.change = gone.applySource z g := by rw [change, State.applyChange]
      refine (settle free changed).trans ?_
      by_cases both : g.kind = .lane ∧ (gone.lane (otherLane z)).source = .lane
      · have left : gone.applySource z g = (gone, false) := if_pos both
        rw [left]
        rfl
      · rw [applySource_eq both]
        rfl
    · refine settleIf (plain _ _ change) ?_
      rw [change]
      exact flip (stopped_iff z) _
    · refine settleIf (plain _ _ change) ?_
      rw [change]
      exact if_congr (by rw [lane_gone, isRunning_eq_true]) rfl rfl
    · refine settleIf (plain _ _ change) ?_
      rw [change]
      exact flip (stopped_iff z) _
    · refine settleIf (plain _ _ change) ?_
      rw [change]
      exact flip (stopped_iff z) _
    · intro d grid
      have entry : ((u.chan n).running && cfg.enabled && gridChange (u.chan n).cfg cfg) = true ↔
          (u.chan n).running = true ∧ cfg.enabled = true ∧ grid := by
        rw [Bool.and_eq_true, Bool.and_eq_true, gridChange_iff, and_assoc]
      by_cases becomes : (u.chan n).running = true ∧ cfg.enabled = true ∧ grid
      · rw [if_pos becomes, immediate, State.immediateDue, change]
        dsimp only
        rw [if_pos (entry.2 becomes)]
        exact retimed ..
      · rw [if_neg becomes]
        refine settle (out := (gone.applyConfig n cfg .acceptance, true)) ?_ (by rw [change]; rfl)
        rw [State.immediateDue, change]
        exact if_neg (mt entry.1 becomes)

end Sys2Proof.Machine

/-! The entries of a channel in due order (R73), once the first of them has left the queue. -/

namespace Sys2Proof.Machine

section
variable (h : U32)

/-- Entry `a` is due no later than entry `b`, as seen from beat `h`. -/
def DueBefore (a b : Entry) : Prop := a.dueFrom h ≤ b.dueFrom h

theorem insertDue_cons (e f : Entry) (rest : List Entry) : insertDue h e (f :: rest) =
    if e.dueFrom h ≤ f.dueFrom h then e :: f :: rest else f :: insertDue h e rest := rfl

theorem insertDue_of_dueBefore {e : Entry} {l : List Entry} (first : ∀ f ∈ l, DueBefore h e f) :
    insertDue h e l = e :: l := by
  cases l with
  | nil => rfl
  | cons f rest => exact if_pos (first f List.mem_cons_self)

theorem pairwise_insertDue {l : List Entry} (sorted : l.Pairwise (DueBefore h)) (e : Entry) :
    (insertDue h e l).Pairwise (DueBefore h) := by
  induction l with
  | nil => exact List.pairwise_singleton _ e
  | cons f rest ih =>
    obtain ⟨first, rest_sorted⟩ := List.pairwise_cons.1 sorted
    rw [insertDue_cons]
    split
    · next le =>
      refine List.pairwise_cons.2 ⟨fun g member => ?_, sorted⟩
      rcases List.mem_cons.1 member with rfl | later
      · exact le
      · exact Int.le_trans le (first g later)
    · next gt =>
      refine List.pairwise_cons.2 ⟨fun g member => ?_, ih rest_sorted⟩
      rcases List.mem_cons.1 ((insertDue_perm h e rest).mem_iff.1 member) with rfl | later
      · exact Int.le_of_lt (Int.not_le.1 gt)
      · exact first g later

theorem pairwise_sortDue (l : List Entry) : (sortDue h l).Pairwise (DueBefore h) := by
  induction l with
  | nil => exact .nil
  | cons e rest ih => exact pairwise_insertDue h ih e

theorem filter_insertDue (p : Entry → Bool) {l : List Entry} (sorted : l.Pairwise (DueBefore h)) (e : Entry) :
    (insertDue h e l).filter p = if p e then insertDue h e (l.filter p) else l.filter p := by
  induction l with
  | nil => exact List.filter_cons
  | cons f rest ih =>
    obtain ⟨first, rest_sorted⟩ := List.pairwise_cons.1 sorted
    rw [insertDue_cons]
    by_cases le : e.dueFrom h ≤ f.dueFrom h
    · have early : insertDue h e ((f :: rest).filter p) = e :: (f :: rest).filter p := by
        refine insertDue_of_dueBefore h fun g member => ?_
        rcases List.mem_cons.1 (List.mem_of_mem_filter member) with rfl | later
        · exact le
        · exact Int.le_trans le (first g later)
      rw [if_pos le, List.filter_cons]
      exact if_congr Iff.rfl early.symm rfl
    · rw [if_neg le, List.filter_cons, ih rest_sorted]
      cases keeps : p f <;> cases p e <;> simp [keeps, insertDue_cons, le]

/-- Due order is kept by the entries that stay. -/
theorem sortDue_filter (p : Entry → Bool) (l : List Entry) : sortDue h (l.filter p) = (sortDue h l).filter p := by
  induction l with
  | nil => rfl
  | cons e rest ih =>
    simp only [sortDue]
    rw [filter_insertDue h p (pairwise_sortDue h rest), ← ih, List.filter_cons]
    split <;> rfl

end

section
variable {s : State} {n : Fin 16} {e : Entry} {rest : List Entry}

theorem beatDue_removeEntry (s : State) (id : Nat) (x : LaneId) :
    (s.removeEntry id).beatDue x = (s.beatDue x).filter fun e => e.id != id := by
  unfold State.beatDue
  rw [lane_removeEntry, removeEntry_queue, ← sortDue_filter, List.filter_filter, List.filter_filter]
  simp only [Bool.and_comm]

theorem channelEntries_removeEntry (s : State) (n : Fin 16) (id : Nat) :
    (s.removeEntry id).channelEntries n = (s.channelEntries n).filter fun e => e.id != id := by
  unfold State.channelEntries
  rw [beatDue_removeEntry, beatDue_removeEntry, ← List.filter_append, List.filter_filter, List.filter_filter]
  simp only [Bool.and_comm]

theorem nodup_channelEntries (distinct : s.idsDistinct) (n : Fin 16) : ((s.channelEntries n).map (·.id)).Nodup := by
  have nodup : (s.queue.map (·.id)).Nodup := distinct.1
  have apart := List.pairwise_map.1 nodup
  have lane (x : LaneId) : ((s.beatDue x).map (·.id)).Nodup :=
    ((sortDue_perm _ _).map _).nodup_iff.2 (nodup.sublist (List.filter_sublist.map _))
  refine List.Nodup.sublist (List.filter_sublist.map _) ?_
  rw [List.map_append]
  refine List.nodup_append.2 ⟨lane .a, lane .b, ?_⟩
  intro a ha b hb same
  obtain ⟨ea, ina, rfl⟩ := List.mem_map.1 ha
  obtain ⟨eb, inb, rfl⟩ := List.mem_map.1 hb
  obtain ⟨qa, ta, -⟩ := (mem_beatDue s).1 ina
  obtain ⟨qb, tb, -⟩ := (mem_beatDue s).1 inb
  have : ea = eb := List.inj_on_of_nodup_map nodup qa qb same
  rw [this, tb] at ta
  cases ta

/-- The first entry gone, the others stand as they did (R73). -/
theorem channelEntries_of_first (distinct : s.idsDistinct) (entries : s.channelEntries n = e :: rest) :
    (s.removeEntry e.id).channelEntries n = rest := by
  have nodup := nodup_channelEntries distinct n
  rw [entries, List.map_cons, List.nodup_cons] at nodup
  rw [channelEntries_removeEntry, entries, List.filter_cons_of_neg (by simp)]
  refine List.filter_eq_self.2 fun d member => ?_
  simp only [bne_iff_ne]
  exact fun same => nodup.1 (same ▸ List.mem_map_of_mem member)

end

end Sys2Proof.Machine

/-! What a switch is made of (R77, R134, R151, R152): the entry applied at it, the count of the old lane's beats, the move,
and what the judging of the member's break leaves of the handover records. -/

namespace Sys2Proof.Machine

/-! ## What leaves the handover records as they are -/

/-- From `s` to `t` neither a handover record nor a channel's membership in one changes. -/
structure HandoversKept (s t : State) : Prop where
  records : ∀ r, t.ho r = s.ho r
  members : ∀ m, (t.chan m).ho = (s.chan m).ho

namespace HandoversKept

theorem refl (s : State) : HandoversKept s s := ⟨fun _ => rfl, fun _ => rfl⟩

theorem trans {s t u : State} (h : HandoversKept s t) (g : HandoversKept t u) : HandoversKept s u :=
  ⟨fun r => (g.records r).trans (h.records r), fun m => (g.members m).trans (h.members m)⟩

theorem ite {p : Prop} [Decidable p] {s t u : State} (h : HandoversKept s t) (g : HandoversKept s u) :
    HandoversKept s (if p then t else u) := by
  split
  · exact h
  · exact g

end HandoversKept

section
variable (s : State)

theorem handoversKept_setChan {n : Fin 16} {c : Channel} (same : c.ho = (s.chan n).ho) :
    HandoversKept s (s.setChan n c) := by
  refine ⟨fun _ => rfl, fun m => ?_⟩
  rw [chan_setChan]
  split
  · next here => rw [same, here]
  · rfl

theorem handoversKept_modChan {n : Fin 16} {f : Channel → Channel} (same : (f (s.chan n)).ho = (s.chan n).ho) :
    HandoversKept s (s.modChan n f) := handoversKept_setChan s same

theorem handoversKept_setBrk (r : Fin 4) (b : Option BreakRecord) : HandoversKept s (s.setBrk r b) :=
  ⟨fun _ => rfl, fun _ => rfl⟩

theorem handoversKept_post (b : NoticeBody) : HandoversKept s (s.post b) :=
  ⟨fun r => ho_post s b r, fun m => by rw [chan_post]⟩

theorem handoversKept_finishBreak (r : Fin 4) : HandoversKept s (s.finishBreak r) := by
  unfold State.finishBreak
  split
  · exact .refl s
  · exact .ite ((handoversKept_setBrk s r none).trans (handoversKept_post _ _)) (.refl s)

theorem breakEntered_ho (c : Channel) (mode : BreakMode) : (c.breakEntered mode).ho = c.ho := by
  cases mode
  · rw [breakEntered_mute]
  · rw [breakEntered_halt]

theorem handoversKept_enterBreak (n : Fin 16) : HandoversKept s (s.enterBreak n) := by
  unfold State.enterBreak
  split
  · split
    · exact (handoversKept_modChan s (breakEntered_ho ..)).trans (handoversKept_setBrk _ _ _)
    · exact .refl s
  · exact .refl s

theorem handoversKept_endMember (n : Fin 16) (y : U32) (complete : Bool) :
    HandoversKept s (s.endMember n y complete) := by
  unfold State.endMember
  split
  · exact .refl s
  · refine .trans (.trans (handoversKept_setChan s ?_) (.ite (handoversKept_setBrk _ _ _) (.refl _)))
      (handoversKept_finishBreak _ _)
    dsimp only
    split
    · rw [haltEnd_eq]
    · rfl

theorem handoversKept_countBreak (n : Fin 16) : HandoversKept s (s.countBreak n) := by
  unfold State.countBreak
  split
  · exact .ite (handoversKept_setChan s rfl) (.refl s)
  · exact .refl s

theorem handoversKept_judgeBreak (n : Fin 16) : HandoversKept s (s.judgeBreak n) := by
  unfold State.judgeBreak
  extract_lets t
  have entered : HandoversKept s t := .ite (handoversKept_enterBreak s n) (.refl s)
  split
  · exact entered.trans (handoversKept_endMember t n _ _)
  · exact entered.trans (.ite (handoversKept_countBreak t n) (.refl t))

end

/-! ## The judging of a break (R132, R134) -/

section
variable {s : State} {n : Fin 16}

/-- A channel in no break has none judged. -/
theorem judgeBreak_of_outside (outside : (s.chan n).brk = none) : s.judgeBreak n = s := by
  have entry : s.entryOfBreakDue n = false := by simp [State.entryOfBreakDue, State.breakEntryDue, outside]
  have ends : s.endOfBreakDue n = none := by simp [State.endOfBreakDue, State.breakEndAt, outside]
  have count : s.countBreak n = s := by simp [State.countBreak, outside]
  simp only [State.judgeBreak, entry, Bool.false_eq_true, if_false, ends, count, ite_self]

theorem running_of_judged (h : s.judged n = true) : (s.chan n).running = true := by
  simp only [State.judged, State.unevaluated, Bool.and_eq_true] at h
  exact h.1.1.1.1

/-- Without an entry that is due, a break judged is its beats counted. -/
theorem judgeBreak_of_no_entry (no_entry : s.entryOfBreakDue n = false) :
    s.judgeBreak n = if s.judged n then s.countBeats n else s := by
  simp only [State.judgeBreak, no_entry, Bool.false_eq_true, if_false]
  by_cases judged : s.judged n = true
  · simp only [State.endOfBreakDue, judged, if_true, State.countBeats, running_of_judged judged]
  · simp only [State.endOfBreakDue, judged, if_false, Bool.false_eq_true]

/-- A member whose entry is due is WAITING in a record that is not FREE (R132). -/
theorem waiting_of_entryOfBreakDue (due : s.entryOfBreakDue n = true) :
    ∃ r once b, (s.chan n).brk = some ⟨r, .waiting once⟩ ∧ s.brk r = some b := by
  have entry := (Bool.and_eq_true_iff.1 due).2
  unfold State.breakEntryDue at entry
  split at entry
  · next r once member =>
    split at entry
    · next b record => exact ⟨r, once, b, member, record⟩
    · cases entry
  · cases entry

/-- Once a member has entered, no entry of it is due. -/
theorem entered_once (due : s.entryOfBreakDue n = true) : (s.enterBreak n).entryOfBreakDue n = false := by
  obtain ⟨r, once, b, member, record⟩ := waiting_of_entryOfBreakDue due
  have brk : ((s.enterBreak n).chan n).brk =
      some ⟨r, .inBreak b.length (entryMark b once (s.chan n).cfg.lane (s.projection n).beat)⟩ := by
    rw [enterBreak_of_member member record, chan_setBrk, chan_setChan_same]
    cases b.mode
    · rw [breakEntered_mute]
    · rw [breakEntered_halt]
  simp [State.entryOfBreakDue, State.breakEntryDue, brk]

theorem judgeBreak_of_entry (due : s.entryOfBreakDue n = true) : s.judgeBreak n = (s.enterBreak n).judgeBreak n := by
  have once := entered_once due
  simp only [State.judgeBreak, due, once, if_true, Bool.false_eq_true, if_false]

theorem countBreak_of_member {r : Fin 4} {beats : Nat} {mark : U32}
    (member : (s.chan n).brk = some ⟨r, .inBreak beats mark⟩) : s.countBreak n =
      if 0 < ahead (s.projection n).beat mark then
        s.setChan n { s.chan n with
          brk := some ⟨r, .inBreak (beats - (ahead (s.projection n).beat mark).toNat) (s.projection n).beat⟩ }
      else s := by
  simp only [State.countBreak, member]
  rfl

end

/-! ## The count on the old lane (R134) -/

section
variable (s : State) (n : Fin 16)

/-- The membership with the beats counted that the member has crossed on its old lane, where it does not end there. -/
def State.membershipCounted : Option BreakMembership :=
  match (s.chan n).brk with
  | some ⟨q, .inBreak beats mark⟩ =>
    if s.breakEndAt n = none ∧ 0 < ahead (s.projection n).beat mark then
      some ⟨q, .inBreak (beats - (ahead (s.projection n).beat mark).toNat) (s.projection n).beat⟩
    else some ⟨q, .inBreak beats mark⟩
  | other => other

theorem countBeforeSwitch_eq :
    s.countBeforeSwitch n = s.setChan n { s.chan n with brk := s.membershipCounted n } := by
  have unchanged (b : Option BreakMembership) (same : (s.chan n).brk = b) :
      s = s.setChan n { s.chan n with brk := b } := by
    rw [← same]
    exact (setChan_chan s n).symm
  unfold State.membershipCounted
  rcases countBeforeSwitch_cases s n with ⟨ends, same⟩ | ⟨stays, counted⟩
  · rw [same]
    rcases member : (s.chan n).brk with _ | ⟨q, once | ⟨beats, mark⟩⟩
    · exact unchanged _ member
    · exact unchanged _ member
    · simp only [ends, false_and, if_false]
      exact unchanged _ member
  · rw [counted]
    rcases member : (s.chan n).brk with _ | ⟨q, once | ⟨beats, mark⟩⟩
    · simp only [State.countBreak, member]
      exact unchanged _ member
    · simp only [State.countBreak, member]
      exact unchanged _ member
    · rw [countBreak_of_member member]
      simp only [stays, true_and]
      split
      · rfl
      · exact unchanged _ member

/-- The channel keeps its break's mode with any membership of the same record that has been entered as it was. -/
theorem breakModeOf_setChan {c : Channel}
    (same : c.brk.map (fun m => (m.record, m.entered)) = (s.chan n).brk.map fun m => (m.record, m.entered)) :
    (s.setChan n c).breakModeOf n = s.breakModeOf n := by
  unfold State.breakModeOf
  rw [chan_setChan_same]
  rcases new : c.brk with _ | m <;> rcases old : (s.chan n).brk with _ | m' <;> rw [new, old] at same
  · cases same
  · cases same
  · obtain ⟨record, entered⟩ := Prod.mk.inj (Option.some.inj same)
    dsimp only
    rw [record, entered, brk_setChan]

theorem membershipCounted_entered :
    (s.membershipCounted n).map (fun m => (m.record, m.entered)) = (s.chan n).brk.map fun m => (m.record, m.entered) := by
  unfold State.membershipCounted
  rcases (s.chan n).brk with _ | ⟨q, once | ⟨beats, mark⟩⟩
  · rfl
  · rfl
  · dsimp only
    split <;> rfl

end

end Sys2Proof.Machine

/-! The holds and switches of handover members (O51). -/

namespace Sys2Proof.Machine

/-! ## A CHANNEL entry applied at a switch (R77, R105) -/

/-- The enabled channel with the fields of `cfg` but for its lane, at step `now` (R105). -/
def Channel.fitted (c : Channel) (cfg : ChannelConfig) (now : Nat) (halted : Bool) : Channel :=
  Channel.marksKept (if c.cfg.function = cfg.function then { c with cfg := { cfg with lane := c.cfg.lane } }
    else c.functionChanged { cfg with lane := c.cfg.lane } now halted) cfg

theorem fitted_keeps (c : Channel) (cfg : ChannelConfig) (now : Nat) (halted : Bool) :
    let d := c.fitted cfg now halted
    d.cfg = { cfg with lane := c.cfg.lane } ∧ d.running = c.running ∧ d.evaluated = c.evaluated ∧
      d.evalLead = c.evalLead ∧ d.brk = c.brk ∧ d.ho = c.ho := by
  unfold Channel.fitted Channel.marksKept
  split <;> exact ⟨rfl, rfl, rfl, rfl, rfl, rfl⟩

theorem fitted_with_brk (c : Channel) (b : Option BreakMembership) (cfg : ChannelConfig) (now : Nat) (halted : Bool) :
    Channel.fitted { c with brk := b } cfg now halted = { c.fitted cfg now halted with brk := b } := by
  unfold Channel.fitted Channel.marksKept
  dsimp only
  split <;> rfl

theorem keepLead_with_brk (c : Channel) (b : Option BreakMembership) (lead : Nat) :
    Channel.keepLead { c with brk := b } lead = { c.keepLead lead with brk := b } := by
  rw [keepLead_eq, keepLead_eq]

/-- CHANNEL entry `e` of channel `n`, whose configuration is `cfg`, applied at a switch (R77). -/
def State.entryAtSwitch (s : State) (n : Fin 16) (e : Entry) (cfg : ChannelConfig) : State :=
  (((s.removeEntry e.id).modChan n (·.keepLead cfg.lead)).applyConfig n cfg .switch).postApplied e true

section
variable {s : State} {n : Fin 16} {e : Entry} {cfg : ChannelConfig}

theorem applyAtSwitch_cons (change : e.change = .channel n cfg) (rest : List Entry) :
    s.applyAtSwitch n (e :: rest) = (s.entryAtSwitch n e cfg).applyAtSwitch n rest := by
  simp only [State.applyAtSwitch, List.foldl_cons, change]
  rfl

theorem applyConfig_of_switch (was : (s.chan n).cfg.enabled = true) (on : cfg.enabled = true) :
    s.applyConfig n cfg .switch = s.setChan n ((s.chan n).fitted cfg s.clock (s.halted n)) := by
  have settled : s.applyConfig n cfg .switch = s.reconfigure n { cfg with lane := (s.chan n).cfg.lane } .switch := by
    simp only [State.applyConfig, was, if_pos, on]
  rw [settled, reconfigure_eq, State.placed, if_neg (by simp)]
  rfl

theorem entryAtSwitch_eq (was : (s.chan n).cfg.enabled = true) (on : cfg.enabled = true) :
    s.entryAtSwitch n e cfg = (s.removeEntry e.id |>.postApplied e true).setChan n
      (((s.chan n).keepLead cfg.lead).fitted cfg s.clock (s.halted n)) := by
  have chan : ((s.removeEntry e.id).modChan n (·.keepLead cfg.lead)).chan n = (s.chan n).keepLead cfg.lead :=
    chan_setChan_same ..
  have halted : ((s.removeEntry e.id).modChan n (·.keepLead cfg.lead)).halted n = s.halted n :=
    congrArg (· == some BreakMode.halt)
      (breakModeOf_setChan (s.removeEntry e.id) n (c := (s.chan n).keepLead cfg.lead) (by rw [keepLead_eq]; rfl))
  rw [State.entryAtSwitch, applyConfig_of_switch (by rw [chan, keepLead_eq]; exact was) on, chan, halted, State.modChan,
    setChan_setChan]
  exact post_setChan ..

end

/-! ### The switch after an entry that keeps the member enabled -/

section
variable {s t : State} {n : Fin 16}

/-- For the switch of channel `n`, state `t` is as `s`: the lanes, the records, and what of the channel's own decides
when it switches and what it has counted. -/
structure SwitchAlike (n : Fin 16) (s t : State) : Prop where
  lanes : ∀ x, t.lane x = s.lane x
  handovers : ∀ r, t.ho r = s.ho r
  breaks : ∀ r, t.brk r = s.brk r
  running : (t.chan n).running = (s.chan n).running
  evaluated : (t.chan n).evaluated = (s.chan n).evaluated
  lane : (t.chan n).cfg.lane = (s.chan n).cfg.lane
  lead : (t.chan n).lead = (s.chan n).lead
  brk : (t.chan n).brk = (s.chan n).brk
  ho : (t.chan n).ho = (s.chan n).ho

namespace SwitchAlike

variable (h : SwitchAlike n s t)
include h

theorem switchOf : t.switchOf n = s.switchOf n := by
  unfold State.switchOf
  rw [h.ho]
  simp only [h.handovers]

theorem projectedOn (l : Lane) : (t.chan n).projectedOn l = (s.chan n).projectedOn l := by
  unfold Channel.projectedOn
  rw [h.lead]

theorem projection : t.projection n = s.projection n := by
  unfold State.projection State.laneOf
  rw [h.lane, h.lanes, h.projectedOn]

theorem switchDue : t.switchDue n = s.switchDue n := by
  unfold State.switchDue State.unevaluated State.settled State.settledLane
  rw [h.switchOf, h.running, h.evaluated, h.lane]
  simp only [h.lanes, h.projectedOn]

theorem breakEndAt : t.breakEndAt n = s.breakEndAt n := by
  unfold State.breakEndAt State.beatsCrossed
  rw [h.brk, h.projection]
  simp only [h.breaks]

theorem membershipCounted : t.membershipCounted n = s.membershipCounted n := by
  unfold State.membershipCounted
  rw [h.brk, h.breakEndAt, h.projection]

end SwitchAlike

end

section
variable {s : State} {n : Fin 16} {e : Entry} {rest : List Entry} {cfg : ChannelConfig}

theorem switchAlike_entryAtSwitch (was : (s.chan n).cfg.enabled = true) (on : cfg.enabled = true)
    (running : (s.chan n).running = true) (unevaluated : (s.chan n).evaluated = false) :
    SwitchAlike n s (s.entryAtSwitch n e cfg) := by
  rw [entryAtSwitch_eq was on]
  obtain ⟨config, runs, eval, lead, brk, ho⟩ :=
    fitted_keeps ((s.chan n).keepLead cfg.lead) cfg s.clock (s.halted n)
  simp only [keepLead_cfg, keepLead_running, keepLead_evaluated, keepLead_brk, keepLead_ho] at config runs eval brk ho
  refine {
    lanes := fun x => by rw [lane_setChan, lane_postApplied, lane_removeEntry]
    handovers := fun r => ho_post (s.removeEntry e.id) _ r
    breaks := fun r => brk_post (s.removeEntry e.id) _ r
    running := ?_, evaluated := ?_, lane := ?_, lead := ?_, brk := ?_, ho := ?_ } <;> rw [chan_setChan_same]
  · exact runs
  · exact eval
  · rw [config]
  · rw [Channel.lead, lead, config]
    exact keepLead_lead (s.chan n) cfg running unevaluated
  · exact brk
  · exact ho

theorem channelEntries_entryAtSwitch (distinct : s.idsDistinct) (entries : s.channelEntries n = e :: rest)
    (was : (s.chan n).cfg.enabled = true) (on : cfg.enabled = true) :
    (s.entryAtSwitch n e cfg).channelEntries n = rest := by
  refine Eq.trans ?_ (channelEntries_of_first distinct entries)
  rw [entryAtSwitch_eq was on]
  have queue : ((s.removeEntry e.id).postApplied e true).queue = (s.removeEntry e.id).queue := post_queue ..
  unfold State.channelEntries State.beatDue
  simp only [lane_setChan, lane_postApplied, ← queue]
  rfl

/-- The old lane's beats are counted alike before the entry and after it. -/
theorem countBeforeSwitch_entryAtSwitch (was : (s.chan n).cfg.enabled = true) (on : cfg.enabled = true)
    (running : (s.chan n).running = true) (unevaluated : (s.chan n).evaluated = false) :
    (s.countBeforeSwitch n).entryAtSwitch n e cfg = (s.entryAtSwitch n e cfg).countBeforeSwitch n := by
  have counted := (switchAlike_entryAtSwitch (e := e) was on running unevaluated).membershipCounted
  have halted : (s.setChan n { s.chan n with brk := s.membershipCounted n }).halted n = s.halted n :=
    congrArg (· == some BreakMode.halt) (breakModeOf_setChan s n (membershipCounted_entered s n))
  rw [countBeforeSwitch_eq, countBeforeSwitch_eq, counted, entryAtSwitch_eq (by rw [chan_setChan_same]; exact was) on,
    halted, chan_setChan_same, keepLead_with_brk, fitted_with_brk, entryAtSwitch_eq was on, chan_setChan_same,
    setChan_setChan]
  refine Eq.trans (congrArg (State.setChan · n _) (post_setChan (s.removeEntry e.id) n _ _)) ?_
  rw [setChan_setChan]
  rfl

theorem switchMember_entryAtSwitch (distinct : s.idsDistinct) (entries : s.channelEntries n = e :: rest)
    (change : e.change = .channel n cfg) (was : (s.chan n).cfg.enabled = true) (on : cfg.enabled = true)
    (running : (s.chan n).running = true) (unevaluated : (s.chan n).evaluated = false) {y : U32} {x : LaneId}
    (found : s.switchOf n = some (y, x)) : s.switchMember n = (s.entryAtSwitch n e cfg).switchMember n := by
  have alike := switchAlike_entryAtSwitch (e := e) was on running unevaluated
  have keeps : e.keepsEnabled = true := by simp only [Entry.keepsEnabled, change, on]
  simp only [State.switchMember, alike.switchOf, found, channelEntries_entryAtSwitch distinct entries was on, entries,
    List.takeWhile_cons_of_pos keeps, List.dropWhile_cons_of_pos keeps]
  rw [applyAtSwitch_cons change, countBeforeSwitch_entryAtSwitch was on running unevaluated]

end

end Sys2Proof.Machine

/-! The holds and switches of handover members (O51). -/

namespace Sys2Proof.Machine

/-! ## The move (R151, R152) -/

theorem switchActions_eq (c : Channel) (l : Lane) (y : U32) (quiet : Bool) : c.switchActions l y quiet =
    let position := c.cfg.function = .code ∧ c.cfg.barCodes = true
    { c with
      pulseOwed := match c.cfg.function with
        | .bar => isStart .bar l y && !quiet
        | .phrase => isStart .phrase l y && !quiet
        | _ => c.pulseOwed
      barDue := if position then false else c.barDue
      phraseDue := if position then false else c.phraseDue
      slot := if position then
          match c.slot with
          | none => some (.position (barCountAt l y))
          | some (.position _) => some (.position (barCountAt l y))
          | other => other
        else c.slot } := by
  unfold Channel.switchActions
  cases function : c.cfg.function with
  | tick | gate | bar | phrase => simp
  | code =>
    cases codes : c.cfg.barCodes with
    | false => simp
    | true =>
      simp only [Channel.putSlot, if_true, and_self]
      rcases slot : c.slot with _ | item
      · rfl
      · cases item <;> simp [← slot]

/-- The channel moved to lane `x`, whose record is `l`, at beat `y`; `old` is its projection on the lane it leaves. -/
def Channel.switchedTo (c : Channel) (x : LaneId) (l : Lane) (y : U32) (quiet : Bool) (old : Position) : Channel :=
  (({ ({ c with cfg := { c.cfg with lane := x } }).reorigin (.atBeat y) with
    pulseOwed := false
    mark := y - 1 } : Channel).switchActions l y quiet).remark old y

theorem switchedTo_eq (c : Channel) (x : LaneId) (l : Lane) (y : U32) (quiet : Bool) (old : Position) :
    c.switchedTo x l y quiet old =
      let position := c.cfg.function = .code ∧ c.cfg.barCodes = true
      { c with
        cfg := { c.cfg with lane := x }
        origin := ⟨y, 0⟩
        delta := c.emitted
        owing := false
        mark := y - 1
        pulseOwed := match c.cfg.function with
          | .bar => isStart .bar l y && !quiet
          | .phrase => isStart .phrase l y && !quiet
          | _ => false
        barDue := if position then false else c.barDue
        phraseDue := if position then false else c.phraseDue
        slot := if position then
            match c.slot with
            | none => some (.position (barCountAt l y))
            | some (.position _) => some (.position (barCountAt l y))
            | other => other
          else c.slot
        brk := match c.brk with
          | some ⟨q, .inBreak beats _⟩ => some ⟨q, .inBreak beats (if 2 ^ 47 ≤ old.phase.toNat then y - 1 else y)⟩
          | other => other } := by
  rw [Channel.switchedTo, switchActions_eq, remark_eq]
  rfl

/-- The membership of a member moved at beat `y`: its beats counted, and its mark taken afresh (R134). -/
def State.membershipMoved (s : State) (n : Fin 16) (y : U32) : Option BreakMembership :=
  match (s.chan n).brk with
  | some ⟨q, .inBreak beats mark⟩ =>
    some ⟨q, .inBreak
      (if s.breakEndAt n = none then beats - (ahead (s.projection n).beat mark).toNat else beats)
      (if 2 ^ 47 ≤ (s.projection n).phase.toNat then y - 1 else y)⟩
  | other => other

theorem membershipMoved_eq (s : State) (n : Fin 16) (y : U32) : s.membershipMoved n y =
    match s.membershipCounted n with
    | some ⟨q, .inBreak beats _⟩ =>
      some ⟨q, .inBreak beats (if 2 ^ 47 ≤ (s.projection n).phase.toNat then y - 1 else y)⟩
    | other => other := by
  unfold State.membershipMoved State.membershipCounted
  rcases (s.chan n).brk with _ | ⟨q, once | ⟨beats, mark⟩⟩
  · rfl
  · rfl
  · dsimp only
    by_cases stays : s.breakEndAt n = none
    · by_cases past : 0 < ahead (s.projection n).beat mark
      · simp [stays, past]
      · have none_crossed : (ahead (s.projection n).beat mark).toNat = 0 := Int.toNat_of_nonpos (Int.not_lt.1 past)
        simp [stays, past, none_crossed]
    · simp [stays]

/-- Member `n` of record `r`, moved to the lane of the record at beat `y`, has joined the switched set. -/
def State.memberMoved (s : State) (n : Fin 16) (r : Fin 4) (h : HandoverRecord) (y : U32) : State :=
  let c := s.chan n
  let l := s.lane h.toLane
  let quiet := s.muted n || s.halted n
  let position := c.cfg.function = .code ∧ c.cfg.barCodes = true
  (s.setHo r (some { h with switched := addTo h.switched n })).setChan n { c with
    cfg := { c.cfg with lane := h.toLane }
    brk := s.membershipMoved n y
    ho := none
    switched := true
    origin := ⟨y, 0⟩
    delta := c.emitted
    owing := false
    mark := y - 1
    pulseOwed := match c.cfg.function with
      | .bar => isStart .bar l y && !quiet
      | .phrase => isStart .phrase l y && !quiet
      | _ => false
    barDue := if position then false else c.barDue
    phraseDue := if position then false else c.phraseDue
    slot := if position then
        match c.slot with
        | none => some (.position (barCountAt l y))
        | some (.position _) => some (.position (barCountAt l y))
        | other => other
      else c.slot }

section
variable {s : State} {n : Fin 16} {r : Fin 4} {h : HandoverRecord} {held : Bool}
  (member : (s.chan n).ho = some ⟨r, held⟩) (record : s.ho r = some h)
include member record

theorem recordSwitch_eq : s.recordSwitch n =
    (s.setHo r (some { h with switched := addTo h.switched n })).setChan n
      { s.chan n with ho := none, switched := true } := by
  simp only [State.recordSwitch, member, record]
  rfl

theorem moved_eq (y : U32) : ((s.countBeforeSwitch n).moveMember n h.toLane y).recordSwitch n = s.memberMoved n r h y := by
  have modes : (s.setChan n { s.chan n with brk := s.membershipCounted n }).breakModeOf n = s.breakModeOf n :=
    breakModeOf_setChan s n (membershipCounted_entered s n)
  have projection : (s.setChan n { s.chan n with brk := s.membershipCounted n }).projection n = s.projection n := by
    unfold State.projection State.laneOf
    rw [lane_setChan, chan_setChan_same]
    rfl
  have move : (s.countBeforeSwitch n).moveMember n h.toLane y = s.setChan n
      (Channel.switchedTo { s.chan n with brk := s.membershipCounted n } h.toLane (s.lane h.toLane) y
        (s.muted n || s.halted n) (s.projection n)) := by
    rw [countBeforeSwitch_eq]
    unfold State.moveMember State.modChan State.muted State.halted
    dsimp only
    rw [modes, projection, lane_setChan, chan_setChan_same, setChan_setChan]
    rfl
  rw [move, switchedTo_eq, recordSwitch_eq (s := s.setChan n _) (by rw [chan_setChan_same]; exact member) record,
    chan_setChan_same, setChan_setHo, setChan_setChan]
  unfold State.memberMoved
  rw [membershipMoved_eq]

end

/-! ## The end of the record (R153) -/

section
variable {s u : State} {n : Fin 16} {r : Fin 4} {h : HandoverRecord}

/-- A record that member `n` has left ends where no other is in it. -/
theorem finishHandover_without (record : u.ho r = some h) (left : (u.chan n).ho = none) :
    u.finishHandover r = if ∃ m, m ≠ n ∧ u.inHandoverRecord r m = true then u
      else (u.setHo r none).post
        (.handoverDone r h.doneOutcome h.fromLane h.toLane h.set h.switched h.switchBeat) := by
  split
  · next others =>
    obtain ⟨m, -, member⟩ := others
    exact finishHandover_of_member u member
  · next alone =>
    refine finishHandover_of_empty u record fun m => Bool.eq_false_iff.2 fun member => alone ⟨m, fun here => ?_, member⟩
    rw [here] at member
    simp [State.inHandoverRecord, left] at member

/-- The outcome that a record with a due switch ends with (R153). -/
def SwitchOutcome.done : SwitchOutcome → DoneOutcome
  | .aligned => .aligned
  | .forced => .forced
  | .cut => .cut

/-- The outcome of a record whose switch is due is its own, once a member has switched (R153). -/
theorem doneOutcome_of_switched {g : HandoverRecord} {o : SwitchOutcome} {y : U32} {yFrom : Option U32}
    (stage : g.stage = .switchDue o y yFrom) (switched : g.switched ≠ 0) :
    g.doneOutcome = o.done ∧ g.switchBeat = some y := by
  constructor
  · rw [HandoverRecord.doneOutcome, if_neg (by simpa using switched), stage]
    cases o <;> rfl
  · rw [HandoverRecord.switchBeat, stage]

/-- The record's end behind a switch of member `n`, which nothing between has let another member leave. -/
theorem finishHandover_of_memberMoved {o : SwitchOutcome} {y : U32} {yFrom : Option U32}
    (stage : h.stage = .switchDue o y yFrom) (kept : HandoversKept (s.memberMoved n r h y) u) : u.finishHandover r =
      if ∃ m, m ≠ n ∧ s.inHandoverRecord r m = true then u
      else (u.setHo r none).post (.handoverDone r o.done h.fromLane h.toLane h.set (addTo h.switched n) (some y)) := by
  have record : u.ho r = some { h with switched := addTo h.switched n } :=
    (kept.records r).trans ((ho_setHo s r r _).trans (if_pos rfl))
  have left : (u.chan n).ho = none := by
    rw [kept.members]
    exact congrArg Channel.ho (chan_setChan_same ..)
  have others (m : Fin 16) (other : m ≠ n) : u.inHandoverRecord r m = s.inHandoverRecord r m := by
    have same : ((s.memberMoved n r h y).chan m).ho = (s.chan m).ho :=
      congrArg Channel.ho (chan_setChan_ne (s.setHo r _) n m _ other)
    simp only [State.inHandoverRecord, kept.members, same]
  obtain ⟨outcome, beat⟩ := doneOutcome_of_switched (g := { h with switched := addTo h.switched n }) stage
    (addTo_ne_zero _ _)
  rw [finishHandover_without record left, outcome, beat]
  refine if_congr (exists_congr fun m => and_congr_right fun other => ?_) rfl rfl
  rw [others m other]

end

/-! ## An entry that disables the member (R128, R129) -/

section
variable {u : State} {n : Fin 16} {e : Entry} {cfg : ChannelConfig}

theorem entryAtSwitch_of_disabling (was : (u.chan n).cfg.enabled = true) (off : cfg.enabled = false)
    (left : (u.chan n).ho = none) :
    HandoversKept u (u.entryAtSwitch n e cfg) ∧ ((u.entryAtSwitch n e cfg).chan n).brk = none := by
  have chan : ((u.removeEntry e.id).modChan n (·.keepLead cfg.lead)).chan n = (u.chan n).keepLead cfg.lead :=
    chan_setChan_same ..
  have kept : HandoversKept u ((u.removeEntry e.id).modChan n (·.keepLead cfg.lead)) :=
    .trans (t := u.removeEntry e.id) ⟨fun _ => rfl, fun _ => rfl⟩
      (handoversKept_modChan (u.removeEntry e.id) (f := (·.keepLead cfg.lead)) (keepLead_ho ..))
  generalize entry : (u.removeEntry e.id).modChan n (·.keepLead cfg.lead) = v at chan kept
  have disables : v.applyConfig n cfg .switch = v.disableChannel n { cfg with lane := (v.chan n).cfg.lane } := by
    have enabled : (v.chan n).cfg.enabled = true := by rw [chan, keepLead_cfg, was]
    simp only [State.applyConfig, enabled, if_pos, off]
  have outside : ((v.breakLeft n .cancel).chan n).ho = none := by rw [chan_breakLeft, chan, keepLead_ho, left]
  have broken : HandoversKept v (v.breakLeft n .cancel) :=
    ⟨fun r => ho_breakLeft .cancel r, fun m => by rw [chan_breakLeft]⟩
  have applied : u.entryAtSwitch n e cfg = ((v.breakLeft n .cancel).setChan n
      ((v.chan n).disabledBy { cfg with lane := (v.chan n).cfg.lane } v.clock)).postApplied e true := by
    rw [State.entryAtSwitch, entry, disables, disableChannel_eq, handoverLeft_of_none outside]
  rw [applied]
  refine ⟨kept.trans (broken.trans (.trans (handoversKept_setChan _ ?_) (handoversKept_post _ _))), ?_⟩
  · exact outside.symm
  · rw [chan_postApplied, chan_setChan_same]
    rfl

end

/-! ## The events (R150, R151) -/

section
variable {s : State} {n : Fin 16} {r : Fin 4} {h : HandoverRecord} {held : Bool} {o : SwitchOutcome} {y : U32}
  {yFrom : Option U32} (member : (s.chan n).ho = some ⟨r, held⟩) (record : s.ho r = some h)
  (stage : h.stage = .switchDue o y yFrom)
include member

theorem memberSwitch_eq (mode : s.mode = .running) (due : s.switchDue n = true) :
    exec (.memberSwitch n) s = .next (((s.switchMember n).judgeBreak n).finishHandover r) := by
  refine congrArg Host.Outcome.next ((whenLive_of_due mode due).trans ?_)
  simp only [State.workSwitch, due, if_true, member]

include record stage

theorem switchOf_of_member : s.switchOf n = some (y, h.toLane) := by
  simp [State.switchOf, member, record, HandoverRecord.switchBeat, stage]

theorem switchDue_of_member (running : (s.chan n).running = true) (unevaluated : (s.chan n).evaluated = false)
    (own : (s.laneOf n).crossing = false) (runs : (s.lane h.toLane).transport = .running)
    (other : (s.lane h.toLane).crossing = false)
    (reached : ((s.chan n).projectedOn (s.lane h.toLane)).reached y = true) : s.switchDue n = true := by
  have settled : s.settled n = true := by
    rw [State.settled, State.settledLane, Bool.not_eq_true']
    exact own
  simp [State.switchDue, switchOf_of_member member record stage, State.unevaluated, running, unevaluated,
    State.settledLane, settled, other, isRunning_eq_true.2 runs, reached]

theorem holdDue_of_member (running : (s.chan n).running = true) (unevaluated : (s.chan n).evaluated = false)
    (own : (s.laneOf n).crossing = false) {yf : U32} (from_ : yFrom = some yf) (free : held = false)
    (reached : (s.projection n).reached yf = true) (other : (s.lane h.toLane).crossing = false)
    (waits : s.switchDue n = false) : s.holdDue n = true := by
  have settled : s.settled n = true := by
    rw [State.settled, State.settledLane, Bool.not_eq_true']
    exact own
  have beat : s.holdBeat n = some yf := by
    simp [State.holdBeat, member, free, record, HandoverRecord.fromSwitchBeat, stage, from_]
  simp [State.holdDue, beat, State.unevaluated, running, unevaluated, settled, State.switchSettled,
    switchOf_of_member member record stage, State.settledLane, other, waits, reached]

end

/-- Settles O51: the hold, the switch with the entries before and behind it, and the break judged after it. -/
theorem membersHoldAndSwitch : Obligations.MembersHoldAndSwitch := by
  intro s n r h held o y yFrom c x mode running own member record stage
  refine ⟨fun evaluated => ?_, fun unevaluated => ⟨fun yf from_ free reached other waits => ?_,
    fun runs other reached => ?_⟩, fun u live => ⟨fun due => ?_, judgeBreak_of_no_entry, fun judged ends => ?_,
    fun q beats mark judged stays inBreak => ?_⟩⟩
  · obtain ⟨noSwitch, noHold, -⟩ := not_due_of_evaluated s evaluated
    exact ⟨congrArg Host.Outcome.next (if_neg (by simp [noHold])), congrArg Host.Outcome.next (if_neg (by simp [noSwitch]))⟩
  · have due := holdDue_of_member member record stage running unevaluated own from_ free reached other waits
    refine congrArg Host.Outcome.next ((whenLive_of_due mode due).trans ?_)
    rw [State.setHeld, State.modChan, member]
    rfl
  · intro l quiet position switched moved done
    have due := switchDue_of_member member record stage running unevaluated own runs other reached
    have found := switchOf_of_member member record stage
    have carried := memberSwitch_eq member mode due
    have move : ((s.countBeforeSwitch n).moveMember n h.toLane y).recordSwitch n = moved := moved_eq member record y
    have chan : moved.chan n = _ := chan_setChan_same ..
    have ends (u : State) (kept : HandoversKept moved u) : u.finishHandover r = done u :=
      (finishHandover_of_memberMoved stage kept).trans (by cases o <;> rfl)
    refine ⟨fun none_ => ⟨?_, fun outside => judgeBreak_of_outside ?_⟩, fun e rest cfg entries distinct change was => ?_⟩
    · have switches : s.switchMember n = moved := by
        simp only [State.switchMember, found, none_]
        exact move
      rw [carried, switches]
      exact congrArg Host.Outcome.next (ends _ (handoversKept_judgeBreak moved n))
    · rw [chan, outside]
    · intro applied
      refine ⟨fun on => ?_, fun off last => ?_, fun on same => ?_⟩
      · have alike : SwitchAlike n s (applied s) := switchAlike_entryAtSwitch was on running unevaluated
        have mode' : (applied s).mode = .running := by
          rw [show applied s = _ from entryAtSwitch_eq was on]
          exact (post_mode ..).trans mode
        rw [carried, memberSwitch_eq (alike.ho.trans member) mode' (alike.switchDue.trans due),
          switchMember_entryAtSwitch distinct entries change was on running unevaluated found]
        rfl
      · obtain ⟨kept, outside⟩ := entryAtSwitch_of_disabling (u := moved) (n := n) (e := e) (cfg := cfg)
          (by rw [chan]; exact was) off (by rw [chan])
        have disables : ¬ e.keepsEnabled = true := by simp [Entry.keepsEnabled, change, off]
        have switches : s.switchMember n = applied moved := by
          simp only [State.switchMember, found, entries, last, List.takeWhile_cons_of_neg disables,
            List.dropWhile_cons_of_neg disables]
          rw [applyAtSwitch_cons change]
          exact congrArg (State.entryAtSwitch · n e cfg) move
        rw [carried, switches, judgeBreak_of_outside (s := applied moved) outside]
        exact congrArg Host.Outcome.next (ends _ kept)
      · refine (entryAtSwitch_eq was on).trans ?_
        rw [Channel.fitted, if_pos (by rw [keepLead_cfg]; exact same.symm), keepLead_cfg]
        refine (post_setChan ..).symm.trans (congrArg (fun d => ((s.removeEntry e.id).setChan n d).postApplied e true) ?_)
        rw [Channel.marksKept, keepLead_eq]
  · exact ⟨_, congrArg Host.Outcome.next (whenLive_of_due live due), judgeBreak_of_entry due⟩
  · refine congrArg Host.Outcome.next ((whenLive_of_due live rfl).trans ?_)
    rw [State.endOfBreakDue, if_pos judged, State.countBeats, if_pos (running_of_judged judged)]
    cases ended : u.breakEndAt n with
    | none => exact absurd ended ends
    | some p => rfl
  · rw [State.countBeats, if_pos (running_of_judged judged), stays]
    exact countBreak_of_member inBreak

end Sys2Proof.Machine

/-! PHASE_STEP of a running part as it closes the step and begins the next (R1, R194): the time, and the reset that the
closing of a step may begin. -/

namespace Sys2Proof.Machine

/-! ## The host link's work at the closing of a step -/

section
variable (s : State)

theorem stays_modLink {f : Link → Link} (rate : (f s.link).rate = s.link.rate := by exact rfl) :
    Stays s (s.modLink f) := ⟨rfl, rfl, rfl, rate⟩

theorem Stays.ite {s t u : State} {p : Prop} [Decidable p] (h : Stays s t) (g : Stays s u) :
    Stays s (if p then t else u) := by
  split
  · exact h
  · exact g

/-- The closing of a step up to the choice of the transmitter: the frame verified and the partial frame discarded
(R183, R184). -/
def State.received (s : State) : State :=
  let t := s.verifyFrame
  if t.gapDue then t.gapTimeout else t

theorem closeStep_eq : s.closeStep = if s.received.resetDue then s.received.beginReset .request
    else (s.received.modLink (·.choose)).handleHead.closeBlocks := rfl

/-- From `s` to `t` the host link alone may have changed, and of it neither the rate nor the transmitter. -/
structure Receives (s t : State) : Prop where
  frame : t = { s with link := t.link }
  rate : t.link.rate = s.link.rate
  tx : t.link.tx = s.link.tx

namespace Receives

theorem refl : Receives s s := ⟨rfl, rfl, rfl⟩

variable {s} {t u : State}

theorem trans (h : Receives s t) (g : Receives t u) : Receives s u :=
  ⟨by rw [g.frame, h.frame], g.rate.trans h.rate, g.tx.trans h.tx⟩

theorem ite {p : Prop} [Decidable p] (h : Receives s t) (g : Receives s u) : Receives s (if p then t else u) := by
  split
  · exact h
  · exact g

theorem stays (h : Receives s t) : Stays s t := by
  obtain ⟨frame, rate, -⟩ := h
  exact ⟨by rw [frame], by rw [frame], by rw [frame], rate⟩

theorem resetDue (h : Receives s t) : t.resetDue = s.resetDue := by
  simp only [State.resetDue, State.live, Link.txEnded, Link.txResets, h.stays.mode, h.tx, h.rate]

end Receives

theorem receives_modLink {f : Link → Link} (rate : (f s.link).rate = s.link.rate := by exact rfl)
    (tx : (f s.link).tx = s.link.tx := by exact rfl) : Receives s (s.modLink f) := ⟨rfl, rate, tx⟩

theorem receives_placeFrame (f : HostFrame) : Receives s (s.placeFrame f) :=
  .ite (receives_modLink s) (.ite (receives_modLink s) (receives_modLink s))

theorem receives_verifyFrame : Receives s s.verifyFrame := by
  unfold State.verifyFrame
  split
  · exact .refl s
  · exact (receives_modLink s (f := fun k => { k with complete := none })).trans
      (.ite (receives_placeFrame _ _) (receives_modLink _))

theorem receives_gapTimeout : Receives s s.gapTimeout := ⟨rfl, rfl, rfl⟩

theorem receives_received : Receives s s.received :=
  (receives_verifyFrame s).trans (.ite (receives_gapTimeout _) (.refl _))

theorem choose_rate (k : Link) : k.choose.rate = k.rate := by
  unfold Link.choose Link.beginReply Link.beginNotice
  repeat' split
  all_goals rfl

/-! ## The head of the request queue (R186) -/

theorem stays_answered {t : State} (h : Stays s.takeHead t) (type tag : Byte) (p : List Byte) (z : Bool) :
    Stays s (t.reply type tag p z) := (stays_modLink s).trans (h.trans (stays_modLink t))

theorem stays_handle (type : Byte) (mine : List Byte → Bool) (len : Nat) {rule : List Byte → State → State × Answer}
    (h : ∀ t p, Works t (rule p t).1) : Stays s (s.handle type mine len rule) := by
  rcases handle_cases (s := s) (type := type) (mine := mine) (len := len) (rule := rule) with
    e | ⟨tag, p, -, -, ⟨-, e⟩ | ⟨-, e⟩⟩
  · exact e.symm ▸ .refl s
  · exact e.symm ▸ stays_answered s (h _ _).toStays _ _ _ _
  · exact e.symm ▸ stays_answered s (.refl _) _ _ _ _

theorem stays_handleReset : Stays s s.handleReset := by
  unfold State.handleReset
  split
  · exact .refl s
  · exact .ite (stays_answered s (stays_modLink _) _ _ _ _) (stays_answered s (.refl _) _ _ _ _)

theorem stays_unknownType : Stays s s.unknownType := by
  unfold State.unknownType
  split
  · exact .ite (.refl s) (stays_answered s (.refl _) _ _ _ _)
  · exact .refl s

theorem stays_answerBusy : Stays s s.answerBusy := by
  unfold State.answerBusy
  split
  · exact stays_answered s (.refl _) _ _ _ _
  · exact .refl s

theorem stays_handleHead : Stays s s.handleHead := by
  unfold State.handleHead
  split
  · exact .refl s
  · exact stays_answerBusy s
  · next f _ =>
    split
    · next found =>
      have sound := ruleWorks_ruleOf f.type f.payload
      rw [found] at sound
      exact stays_handle s _ _ _ sound
    · exact .ite (stays_handleReset s) (stays_unknownType s)

/-! ## The closing of a step (log 6) -/

theorem stays_closeBlocks : Stays s s.closeBlocks := by
  unfold State.closeBlocks
  extract_lets expired joined closed
  have h1 : Works s expired := (works_workLanes s).trans (works_workExpiries _)
  have h2 : Works expired joined := .foldl _ (fun t x _ => works_workJoins x _ t) _
  have h3 : Works joined closed := .forChannels (fun n t => works_closeChannel t n) _
  exact (h1.trans (h2.trans (h3.trans (works_workBus closed)))).toStays.trans (stays_modLink _ (choose_rate _))

variable {s}

theorem closeStep_of_no_reset (noReset : s.resetDue = false) :
    s.closeStep = (s.received.modLink (·.choose)).handleHead.closeBlocks := by
  rw [closeStep_eq, if_neg (by rw [(receives_received s).resetDue, noReset]; exact Bool.false_ne_true)]

theorem stays_closeStep (noReset : s.resetDue = false) : Stays s s.closeStep := by
  rw [closeStep_of_no_reset noReset]
  exact (receives_received s).stays.trans ((stays_modLink _ (choose_rate _)).trans
    ((stays_handleHead _).trans (stays_closeBlocks _)))

theorem phaseStep_of_running (running : s.mode = .running) :
    s.phaseStep = if s.closeStep.live then s.closeStep.newStep else s.closeStep.resetStep := by
  have waits : s.releaseServed = s := by simp [State.releaseServed, State.releasable, running]
  rw [State.phaseStep, waits]
  simp only [running]

theorem phaseStep_of_no_reset (running : s.mode = .running) (noReset : s.resetDue = false) :
    s.phaseStep = s.closeStep.newStep := by
  rw [phaseStep_of_running running, if_pos]
  exact live_of_running ((stays_closeStep noReset).mode.trans running)

/-- The reset of a RESET whose reply has ended begins at the closing of the step (R194). -/
theorem phaseStep_of_reset (running : s.mode = .running) (due : s.resetDue = true) :
    s.phaseStep = State.resetValues (.inReset .request 1) s.link.rate s.pins s.pending := by
  have received := receives_received s
  have closed : s.closeStep = s.received.beginReset .request := by
    rw [closeStep_eq, if_pos (received.resetDue.trans due)]
  have begun : s.received.beginReset .request = s.beginReset .request := by
    unfold State.beginReset
    rw [received.rate, received.frame]
  rw [phaseStep_of_running running, closed, begun]
  rfl

end

/-! ## The new step (R1) -/

theorem newStep_time (s : State) : s.newStep.clock = s.clock + 1 ∧ s.newStep.mode = s.mode ∧
    s.newStep.link.handled = false ∧ s.newStep.pins = s.pins ∧ s.newStep.link.rate = s.link.rate := by
  have works := works_advanceStep s.tickClock
  have rate : s.link.age.rate = s.link.rate := by
    unfold Link.age
    split <;> rfl
  exact ⟨works.clock, works.mode, works.handled, works.pins, works.rate.trans rate⟩

end Sys2Proof.Machine

/-! The evaluation of a channel for which no row of part 5 is due (R108), as a change of that channel alone which the
other channels have no part in. -/

namespace Sys2Proof.Machine

/-! ## What the end of an evaluation reads -/

/-- From `s` to `t` the channels alone may have changed, channel `n` in its break membership alone, and that not in the
mode that holds it. -/
structure EvaluatedAlike (n : Fin 16) (s t : State) : Prop where
  frame : OnlyChannels s t
  chan : t.chan n = { s.chan n with brk := (t.chan n).brk }
  mode : t.breakModeOf n = s.breakModeOf n

section
variable {s t : State} {n : Fin 16}

/-- What the step owes of rows of part 5 for channel `n`: a pulse to begin or codes to queue (R115, R120, R125). -/
def State.partFiveDue (s : State) (n : Fin 16) : Bool := s.tickPulseDue n || s.barPulseDue n || s.tickCodeDue n

namespace EvaluatedAlike

variable (h : EvaluatedAlike n s t)
include h

theorem muted : t.muted n = s.muted n := by rw [State.muted, h.mode, State.muted]

theorem projection : t.projection n = s.projection n := by
  rw [State.projection, State.laneOf, h.chan, h.frame.lane]
  rfl

theorem held : t.held n = s.held n := by
  rw [State.held, h.chan]
  rfl

theorem quiet : t.quiet n = s.quiet n := by
  simp only [State.quiet, h.muted, h.held, State.halted, h.mode]

theorem targetCount : t.targetCount n = s.targetCount n := by
  simp only [State.targetCount, State.countOf, h.held, State.halted, h.mode, h.projection]
  rw [h.chan]
  rfl

theorem crossed : t.crossed n = { s.crossed n with brk := (t.chan n).brk } := by
  rw [State.crossed, State.crossed, h.quiet, h.projection, crossings_eq, crossings_eq, State.laneOf, h.frame.lane, h.chan]
  rfl

theorem clock : t.clock = s.clock := by
  obtain ⟨_, rfl⟩ := h.frame
  rfl

theorem tickPulseDue : t.tickPulseDue n = s.tickPulseDue n := by
  simp only [State.tickPulseDue, h.muted, h.targetCount, h.clock]
  rw [h.chan]
  rfl

theorem barPulseDue : t.barPulseDue n = s.barPulseDue n := by
  simp only [State.barPulseDue, h.quiet, h.clock]
  rw [h.crossed]
  rfl

theorem tickCodeDue : t.tickCodeDue n = s.tickCodeDue n := by
  simp only [State.tickCodeDue, h.muted, h.targetCount]
  rw [h.crossed, h.chan]
  rfl

theorem partFiveDue : t.partFiveDue n = s.partFiveDue n := by
  simp only [State.partFiveDue, h.tickPulseDue, h.barPulseDue, h.tickCodeDue]

end EvaluatedAlike

/-! ## An evaluation without a row of part 5 (R108, R121, R133) -/

/-- The emitted count after an evaluation for which no row of part 5 is due: a muted TICK or CODE channel whose target is
ahead counts one tick without output (R133). -/
def State.silentCount (s : State) (n : Fin 16) : U32 :=
  if s.muted n = true ∧ ((s.chan n).cfg.function = .tick ∨ (s.chan n).cfg.function = .code) ∧
      0 < ahead (s.targetCount n) (s.chan n).emitted then (s.chan n).emitted + 1
  else (s.chan n).emitted

theorem EvaluatedAlike.silentCount (h : EvaluatedAlike n s t) : t.silentCount n = s.silentCount n := by
  simp only [State.silentCount, h.muted, h.targetCount]
  rw [h.chan]

theorem partFiveDue_eq_false : s.partFiveDue n = false ↔
    s.tickPulseDue n = false ∧ s.barPulseDue n = false ∧ s.tickCodeDue n = false := by
  simp [State.partFiveDue, and_assoc]

theorem crossed_keeps (s : State) (n : Fin 16) :
    (s.crossed n).cfg = (s.chan n).cfg ∧ (s.crossed n).emitted = (s.chan n).emitted := by
  rw [State.crossed, crossings_eq]
  exact ⟨rfl, rfl⟩

/-- The end of an evaluation for which no row of part 5 is due: the crossings, the silent tick and the owing flag. -/
theorem completeEvaluation_of_no_row (noRow : s.partFiveDue n = false) : s.completeEvaluation n = s.setChan n
    { s.crossed n with
      emitted := s.silentCount n
      owing := decide (0 < ahead (s.targetCount n) (s.silentCount n))
      evaluated := true
      evalLead := none } := by
  obtain ⟨tick, bar, code⟩ := partFiveDue_eq_false.1 noRow
  obtain ⟨config, emitted⟩ := crossed_keeps s n
  refine completeEvaluation_eq (c := { s.crossed n with emitted := s.silentCount n }) ?_
  rw [tick, bar, code, Channel.act, if_neg Bool.false_ne_true, if_neg Bool.false_ne_true, if_neg Bool.false_ne_true,
    config, emitted, State.silentCount]
  by_cases silent : s.muted n = true ∧ ((s.chan n).cfg.function = .tick ∨ (s.chan n).cfg.function = .code) ∧
      0 < ahead (s.targetCount n) (s.chan n).emitted
  · rw [if_pos silent, if_pos (by simpa [and_assoc] using silent), ← config]
  · rw [if_neg silent, if_neg (by simpa [and_assoc] using silent), ← emitted]

/-- No row of part 5 is due for a muted channel, whose crossings move its mark alone (R133). -/
theorem muted_evaluation (muted : s.muted n = true) : s.partFiveDue n = false ∧ s.crossed n = { s.chan n with
    mark := if 0 < ahead (s.projection n).beat (s.chan n).mark then (s.projection n).beat else (s.chan n).mark } := by
  have quiet : s.quiet n = true := by rw [State.quiet, muted, Bool.true_or, Bool.true_or]
  refine ⟨partFiveDue_eq_false.2 ⟨?_, ?_, ?_⟩, ?_⟩
  · simp [State.tickPulseDue, muted]
  · simp [State.barPulseDue, quiet]
  · simp [State.tickCodeDue, muted]
  · rw [State.crossed, crossings_eq, quiet]
    simp

end

/-! ## The channel after its quiet evaluation -/

section
variable (s : State) (n : Fin 16)

/-- The membership with the beats counted that the channel has crossed (R134). -/
def State.beatsCounted : Option BreakMembership :=
  match (s.chan n).brk with
  | some ⟨r, .inBreak beats mark⟩ =>
    if 0 < ahead (s.projection n).beat mark then
      some ⟨r, .inBreak (beats - (ahead (s.projection n).beat mark).toNat) (s.projection n).beat⟩
    else (s.chan n).brk
  | other => other

theorem countBreak_eq : s.countBreak n = s.setChan n { s.chan n with brk := s.beatsCounted n } := by
  have unchanged : s = s.setChan n { s.chan n with brk := (s.chan n).brk } := (setChan_chan s n).symm
  rcases member : (s.chan n).brk with _ | ⟨r, once | ⟨beats, mark⟩⟩
  · simp only [State.countBreak, State.beatsCounted, member]
    rwa [member] at unchanged
  · simp only [State.countBreak, State.beatsCounted, member]
    rwa [member] at unchanged
  · rw [countBreak_of_member member]
    simp only [State.beatsCounted, member]
    split
    · rfl
    · rwa [member] at unchanged

theorem evaluatedAlike_countBreak : EvaluatedAlike n s (s.countBreak n) := by
  rw [countBreak_eq]
  have counted : (s.beatsCounted n).map (fun m => (m.record, m.entered)) =
      (s.chan n).brk.map fun m => (m.record, m.entered) := by
    unfold State.beatsCounted
    rcases (s.chan n).brk with _ | ⟨q, once | ⟨beats, mark⟩⟩
    · rfl
    · rfl
    · dsimp only
      split <;> rfl
  exact ⟨⟨_, rfl⟩, by rw [chan_setChan_same], breakModeOf_setChan s n counted⟩

/-- The channel once it has been evaluated where no row of part 5 is due (R108). -/
def State.evaluatedQuietly : Channel :=
  if s.atPartFive n = true ∧ s.partFiveDue n = false then { s.crossed n with
    brk := s.beatsCounted n
    emitted := s.silentCount n
    owing := decide (0 < ahead (s.targetCount n) (s.silentCount n))
    evaluated := true
    evalLead := none }
  else s.chan n

theorem quietEvaluate_eq : s.quietEvaluate n = s.setChan n (s.evaluatedQuietly n) := by
  unfold State.evaluatedQuietly
  by_cases evaluates : s.atPartFive n = true ∧ s.partFiveDue n = false
  · have alike := evaluatedAlike_countBreak s n
    obtain ⟨tick, bar, code⟩ := partFiveDue_eq_false.1 evaluates.2
    rw [State.quietEvaluate, if_pos (by simp [evaluates.1, tick, bar, code]), if_pos evaluates,
      completeEvaluation_of_no_row (alike.partFiveDue.trans evaluates.2), alike.crossed, alike.silentCount,
      alike.targetCount, countBreak_eq, chan_setChan_same, setChan_setChan]
  · rw [if_neg evaluates, setChan_chan]
    refine if_neg fun due => evaluates ?_
    simpa [partFiveDue_eq_false, and_assoc] using due

end

end Sys2Proof.Machine

/-! The evaluations that follow the advance of a new step (R108): each channel's is its own. -/

namespace Sys2Proof.Machine

section
variable {s t : State} {n : Fin 16}

/-- From `s` to `t` the channels alone may have changed, and channel `n` has not. -/
structure ChannelAlike (n : Fin 16) (s t : State) : Prop where
  frame : OnlyChannels s t
  chan : t.chan n = s.chan n

namespace ChannelAlike

variable (h : ChannelAlike n s t)
include h

theorem brk (r : Fin 4) : t.brk r = s.brk r := h.frame.brk r

theorem lane (x : LaneId) : t.lane x = s.lane x := h.frame.lane x

theorem ho (r : Fin 4) : t.ho r = s.ho r := h.frame.ho r

theorem channelEntries : t.channelEntries n = s.channelEntries n := by
  obtain ⟨_, rfl⟩ := h.frame
  rfl

theorem evaluated : EvaluatedAlike n s t := by
  refine ⟨h.frame, by rw [h.chan], ?_⟩
  unfold State.breakModeOf
  rw [h.chan]
  simp only [h.brk]

theorem settledLane (x : LaneId) : t.settledLane x = s.settledLane x := by rw [State.settledLane, h.lane, State.settledLane]

theorem settled : t.settled n = s.settled n := by rw [State.settled, h.settledLane, h.chan, State.settled]

theorem unevaluated : t.unevaluated n = s.unevaluated n := by rw [State.unevaluated, h.chan, State.unevaluated]

theorem switchOf : t.switchOf n = s.switchOf n := by
  unfold State.switchOf
  rw [h.chan]
  simp only [h.ho]

theorem switchSettled : t.switchSettled n = s.switchSettled n := by
  unfold State.switchSettled
  rw [h.switchOf]
  simp only [h.settledLane]

theorem switchDue : t.switchDue n = s.switchDue n := by
  unfold State.switchDue
  rw [h.switchOf, h.unevaluated, h.settled, h.chan]
  simp only [h.settledLane, h.lane]

theorem holdDue : t.holdDue n = s.holdDue n := by
  have beat : t.holdBeat n = s.holdBeat n := by
    unfold State.holdBeat
    rw [h.chan]
    simp only [h.ho]
  unfold State.holdDue
  rw [beat, h.unevaluated, h.settled, h.switchSettled, h.switchDue, h.evaluated.projection]

theorem entriesClear : t.entriesClear n = s.entriesClear n := by
  have entryOpen (e : Entry) : t.entryOpen n e = s.entryOpen n e := by
    unfold State.entryOpen State.entryReached
    rw [h.settledLane, h.chan, h.lane]
  unfold State.entriesClear
  rw [h.channelEntries, show t.entryOpen n = s.entryOpen n from funext entryOpen]

theorem entryOfBreakDue : t.entryOfBreakDue n = s.entryOfBreakDue n := by
  unfold State.entryOfBreakDue State.breakEntryDue
  rw [h.settled, h.switchSettled, h.switchDue, h.chan]
  simp only [h.brk, h.settledLane, h.lane]

theorem breakEntryUnknown : t.breakEntryUnknown n = s.breakEntryUnknown n := by
  unfold State.breakEntryUnknown
  rw [h.chan]
  simp only [h.brk, h.settledLane]

theorem endOfBreakDue : t.endOfBreakDue n = s.endOfBreakDue n := by
  unfold State.endOfBreakDue State.judged State.breakEndAt State.beatsCrossed
  rw [h.unevaluated, h.settled, h.switchSettled, h.switchDue, h.evaluated.projection, h.chan]
  simp only [h.brk]

theorem atPartFive : t.atPartFive n = s.atPartFive n := by
  unfold State.atPartFive State.evaluable State.partTwoClear
  rw [h.unevaluated, h.settled, h.switchSettled, h.entriesClear, h.switchDue, h.holdDue, h.entryOfBreakDue,
    h.breakEntryUnknown, h.endOfBreakDue]

theorem beatsCounted : t.beatsCounted n = s.beatsCounted n := by
  unfold State.beatsCounted
  rw [h.evaluated.projection, h.chan]

theorem evaluatedQuietly : t.evaluatedQuietly n = s.evaluatedQuietly n := by
  have alike := h.evaluated
  unfold State.evaluatedQuietly
  rw [h.atPartFive, alike.partFiveDue, alike.crossed, alike.silentCount, alike.targetCount, h.beatsCounted, h.chan]

end ChannelAlike

end

/-! ## Changes of each channel by its own record -/

/-- Changes of the channels of a list, each of which no other channel has a part in. -/
theorem foldl_setChan {s : State} {g : State → Fin 16 → Channel}
    (own : ∀ t n, ChannelAlike n s t → g t n = g s n) (l : List (Fin 16)) {u : State} (only : OnlyChannels s u)
    (fresh : ∀ n ∈ l, u.chan n = s.chan n) (once : l.Nodup) :
    let v := l.foldl (fun t n => t.setChan n (g t n)) u
    OnlyChannels s v ∧ ∀ n, v.chan n = if n ∈ l then g s n else u.chan n := by
  induction l generalizing u with
  | nil => exact ⟨only, fun n => (if_neg List.not_mem_nil).symm⟩
  | cons m l ih =>
    obtain ⟨apart, once⟩ := List.nodup_cons.1 once
    have here : g u m = g s m := own u m ⟨only, fresh m List.mem_cons_self⟩
    obtain ⟨after, chans⟩ := ih (u := u.setChan m (g u m)) (only.trans ⟨_, rfl⟩) (fun n later => by
      have other : n ≠ m := fun same => apart (same ▸ later)
      rw [chan_setChan_ne _ _ _ _ other]
      exact fresh n (List.mem_cons_of_mem m later)) once
    refine ⟨after, fun n => ?_⟩
    rw [List.foldl_cons, chans n]
    by_cases first : n = m
    · rw [first, if_neg apart, if_pos List.mem_cons_self, chan_setChan_same, here]
    · rw [chan_setChan_ne _ _ _ _ first]
      simp only [List.mem_cons, first, false_or]

theorem quietEvaluations (s : State) :
    let v := s.forChannels fun n t => t.quietEvaluate n
    OnlyChannels s v ∧ ∀ n, v.chan n = s.evaluatedQuietly n := by
  have same : (s.forChannels fun n t => t.quietEvaluate n) =
      allChannels.foldl (fun t n => t.setChan n (t.evaluatedQuietly n)) s := by
    unfold State.forChannels
    simp only [quietEvaluate_eq]
  rw [same]
  obtain ⟨only, chans⟩ := foldl_setChan (s := s) (g := State.evaluatedQuietly)
    (fun t n h => h.evaluatedQuietly) allChannels (.refl s) (fun _ _ => rfl) (by decide)
  refine ⟨only, fun n => (chans n).trans (if_pos ?_)⟩
  fin_cases n <;> decide

/-! ## The new step (R1, R108) -/

theorem ageChar_eq (c : Channel) : c.ageChar = { c with tx := match c.tx with
    | .sending ch age len => .sending ch (age + 3) len
    | .idle => .idle } := by
  unfold Channel.ageChar
  cases tx : c.tx with
  | idle => simp [← tx]
  | sending ch age len => rfl

theorem linkAge_eq (k : Link) : k.age = { k with tx := match k.tx with
    | .sending bytes age isReply resets => .sending bytes (age + 75) isReply resets
    | .idle => .idle } := by
  unfold Link.age
  cases tx : k.tx with
  | idle => simp [← tx]
  | sending bytes age isReply resets => rfl

theorem settle_of_outstanding {s : State} (outstanding : s.laneA.crossing = true ∨ s.laneB.crossing = true) :
    s.settle = s := by
  refine if_neg ?_
  rcases outstanding with h | h <;> simp [State.settledLane, State.lane, h]

theorem settle_of_settled {s : State} (a : s.laneA.crossing = false) (b : s.laneB.crossing = false) :
    s.settle = s.forChannels fun n t => t.quietEvaluate n :=
  if_pos (by simp [State.settledLane, State.lane, a, b])

theorem settle_frame (s : State) : OnlyChannels s s.settle := .ite (quietEvaluations s).1 (.refl s)

end Sys2Proof.Machine

/-! A STOPPED lane while no entry waits (R20): what the closing of a step and the new step leave of it. -/

namespace Sys2Proof.Machine

/-! ## The relation -/

/-- Lane `k` runs or stands as `l` does, with its position, counters, H and meter. -/
structure Lane.StandsAs (k l : Lane) : Prop where
  transport : k.transport = l.transport
  pos : k.pos = l.pos
  beatInBar : k.beatInBar = l.beatInBar
  barInPhrase : k.barInPhrase = l.barInPhrase
  barCount : k.barCount = l.barCount
  phraseCount : k.phraseCount = l.phraseCount
  high : k.high = l.high
  beatsPerBar : k.beatsPerBar = l.beatsPerBar
  barsPerPhrase : k.barsPerPhrase = l.barsPerPhrase

theorem Lane.StandsAs.refl (l : Lane) : l.StandsAs l := ⟨rfl, rfl, rfl, rfl, rfl, rfl, rfl, rfl, rfl⟩

theorem Lane.StandsAs.trans {l m k : Lane} (h : m.StandsAs l) (g : k.StandsAs m) : k.StandsAs l where
  transport := g.transport.trans h.transport
  pos := g.pos.trans h.pos
  beatInBar := g.beatInBar.trans h.beatInBar
  barInPhrase := g.barInPhrase.trans h.barInPhrase
  barCount := g.barCount.trans h.barCount
  phraseCount := g.phraseCount.trans h.phraseCount
  high := g.high.trans h.high
  beatsPerBar := g.beatsPerBar.trans h.beatsPerBar
  barsPerPhrase := g.barsPerPhrase.trans h.barsPerPhrase

/-- From `s` to `t` lane `x` stands, if it is STOPPED and no entry waits, and still none waits. -/
def Rests (x : LaneId) (s t : State) : Prop :=
  s.queue = [] → (s.lane x).transport = .stopped → t.queue = [] ∧ (t.lane x).StandsAs (s.lane x)

namespace Rests

variable {x : LaneId} {s t u : State}

theorem refl (s : State) : Rests x s s := fun queue _ => ⟨queue, .refl _⟩

theorem trans (h : Rests x s t) (g : Rests x t u) : Rests x s u := fun queue stopped => by
  obtain ⟨empty, stands⟩ := h queue stopped
  obtain ⟨empty', stands'⟩ := g empty (stands.transport.trans stopped)
  exact ⟨empty', stands.trans stands'⟩

theorem ite {p : Prop} [Decidable p] (h : Rests x s t) (g : Rests x s u) : Rests x s (if p then t else u) := by
  split
  · exact h
  · exact g

theorem foldl {α : Type} {f : State → α → State} (l : List α) (h : ∀ t a, Rests x t (f t a)) (s : State) :
    Rests x s (l.foldl f s) :=
  foldl_keeps (P := Rests x s) s l (fun t a _ ht => ht.trans (h t a)) (.refl s)

theorem forChannels {f : Fin 16 → State → State} (h : ∀ n t, Rests x t (f n t)) (s : State) :
    Rests x s (s.forChannels f) :=
  forChannels_keeps (P := Rests x s) s (fun n t ht => ht.trans (h n t)) (.refl s)

/-- The queue and the lanes as they are. -/
theorem of_same (queue : t.queue = s.queue) (a : t.laneA = s.laneA) (b : t.laneB = s.laneB) : Rests x s t :=
  fun empty _ => ⟨queue.trans empty, by rw [lane_eq_of_lanes a b]; exact .refl _⟩

end Rests

section
variable {x : LaneId} (s : State)

/-! ## Fields beside the lanes and the queue -/

theorem rests_modLink (f : Link → Link) : Rests x s (s.modLink f) := .of_same rfl rfl rfl

theorem rests_modBus (f : Bus → Bus) : Rests x s (s.modBus f) := .of_same rfl rfl rfl

theorem rests_modChan (n : Fin 16) (f : Channel → Channel) : Rests x s (s.modChan n f) := .of_same rfl rfl rfl

theorem rests_setBrk (r : Fin 4) (b : Option BreakRecord) : Rests x s (s.setBrk r b) := .of_same rfl rfl rfl

theorem rests_setHo (r : Fin 4) (h : Option HandoverRecord) : Rests x s (s.setHo r h) := .of_same rfl rfl rfl

theorem rests_known (k : List KnownBoundary) : Rests x s { s with known := k } := .of_same rfl rfl rfl

theorem rests_post (b : NoticeBody) : Rests x s (s.post b) := .of_same (post_queue ..) (post_laneA ..) (post_laneB ..)

/-! ## Lanes (sections 1.3 to 3.6) -/

theorem rests_setLane_other (l : Lane) : Rests x s (s.setLane (otherLane x) l) :=
  fun queue _ => ⟨by cases x <;> exact queue, by rw [lane_setLane_other']; exact .refl _⟩

theorem rests_modLane_other (f : Lane → Lane) : Rests x s (s.modLane (otherLane x) f) := rests_setLane_other s _

/-- A change of any lane that leaves what a STOPPED one keeps. -/
theorem rests_setLane {z : LaneId} {l : Lane} (stands : l.StandsAs (s.lane z)) : Rests x s (s.setLane z l) := by
  refine fun queue _ => ⟨by cases z <;> exact queue, ?_⟩
  rw [lane_setLane]
  split
  · next here => exact here ▸ stands
  · exact .refl _

theorem rests_modLane {z : LaneId} {f : Lane → Lane}
    (stands : (f (s.lane z)).StandsAs (s.lane z) := by exact ⟨rfl, rfl, rfl, rfl, rfl, rfl, rfl, rfl, rfl⟩) :
    Rests x s (s.modLane z f) := rests_setLane s stands

theorem rests_setResidual (z : LaneId) (r : Int) (reduction : Bool) : Rests x s (s.setResidual z r reduction) :=
  (rests_modLane s).trans (.ite (rests_post _ _) (.refl _))

theorem rests_reduce (z : LaneId) : Rests x s (s.reduce z) := by
  unfold State.reduce
  split
  · exact .refl s
  · exact (rests_modLane s).trans (rests_setResidual _ z _ _)

theorem rests_takeEstimate (z : LaneId) : Rests x s (s.takeEstimate z) := by
  refine .ite ?_ (.refl s)
  split
  · exact rests_setLane s ⟨rfl, rfl, rfl, rfl, rfl, rfl, rfl, rfl, rfl⟩
  · exact .refl s

theorem rests_setIncrement (z : LaneId) (i : Nat) : Rests x s (s.setIncrement z i) :=
  (rests_modLane s).trans (.ite (rests_takeEstimate _ _) (.refl _))

theorem rests_glideStep (z : LaneId) : Rests x s (s.glideStep z) := by
  have mark (g : Option Glide) : Rests x s (s.modLane z fun l => { l with glide := g }) :=
    rests_modLane s
  unfold State.glideStep
  split
  · exact .refl s
  · exact .ite ((mark _).trans (rests_setIncrement _ z _))
      ((mark none).trans ((rests_setIncrement _ z _).trans (rests_post _ _)))

theorem rests_newTarget (z : LaneId) (target g : Nat) : Rests x s (s.newTarget z target g) :=
  .ite ((rests_modLane s).trans (rests_setIncrement _ z _))
    (rests_modLane s)

theorem rests_followCompare (z : LaneId) : Rests x s (s.followCompare z) := by
  refine .ite ?_ (.refl s)
  split
  · exact .refl s
  · exact .ite (rests_newTarget s z _ _) (.refl s)

theorem rests_followLeft (z : LaneId) : Rests x s (s.followLeft z) := by
  refine rests_modLane s ?_
  split <;> exact ⟨rfl, rfl, rfl, rfl, rfl, rfl, rfl, rfl, rfl⟩

theorem rests_leadRequest (z : LaneId) (kind : TxKind) : Rests x s (s.leadRequest z kind) :=
  .ite (rests_modBus s _) (.refl s)

/-! ## Without an entry (sections 4.3 and 4.4) -/

theorem rests_partTwo (z : LaneId) (y : U32) : Rests x s (s.partTwo z y) := fun queue stopped => by
  rw [State.partTwo, queue]
  exact Rests.refl s queue stopped

theorem rests_joinsLeft (z : LaneId) (k : SourceKind) : Rests x s (s.joinsLeft z k) := fun queue stopped => by
  rw [State.joinsLeft, queue]
  exact Rests.refl s queue stopped

theorem rests_ripenJoins (z : LaneId) : Rests x s (s.ripenJoins z) := fun queue _ =>
  ⟨by rw [State.ripenJoins, queue]; rfl, by cases x <;> exact .refl _⟩

theorem rests_workJoins (z : LaneId) : Rests x s (State.workJoins z s.queue.length s) := fun queue stopped => by
  rw [queue]
  exact Rests.refl s queue stopped

/-! ## The trackers (R54, R60) -/

theorem rests_lostSource (k : SourceKind) : Rests x s (s.lostSource k) :=
  (Rests.foldl _ (fun t z => .ite (rests_followLeft t z) (.refl t)) s).trans
    (.foldl _ (fun t z => rests_joinsLeft t z k) _)

theorem rests_became (b : NoticeBody) (k : SourceKind) : Rests x s ((s.post b).lostSource k) :=
  (rests_post s b).trans (rests_lostSource _ k)

theorem rests_workExpiries : Rests x s s.workExpiries := by
  have expires (t u : State) (b : NoticeBody) (k : SourceKind) (p : Prop) [Decidable p] (same : Rests x t u) :
      Rests x t (if p then (u.post b).lostSource k else t) := .ite (same.trans (rests_became u b k)) (.refl t)
  refine (expires s _ _ _ _ ?_).trans ((expires _ _ _ _ _ ?_).trans (.foldl _ (fun t n =>
    (expires t _ _ _ _ ?_).trans (expires _ _ _ _ _ ?_)) _)) <;> exact .of_same rfl rfl rfl

/-! ## The beat bus (sections 9.4 to 9.6) -/

theorem rests_judgeGood (l : BusLine) : Rests x s (s.judgeGood l) :=
  .ite ((rests_modBus s _).trans (rests_post _ _)) (rests_modBus s _)

theorem rests_judgeBad (l : BusLine) (o : BadOutcome) : Rests x s (s.judgeBad l o) :=
  .ite ((rests_modBus s _).trans ((rests_modLink _ _).trans (rests_post _ _))) (rests_modBus s _)

theorem rests_judgePair (l : BusLine) (o : BadOutcome) : Rests x s (s.judgePair l o) := by
  cases l with
  | one => exact (rests_judgeGood s _).trans (rests_judgeBad _ _ _)
  | two => exact (rests_judgeBad s _ _).trans (rests_judgeGood _ _)

theorem rests_timeOutPairings (n : Nat) (s : State) : Rests x s (State.timeOutPairings n s) := by
  induction n generalizing s with
  | zero => exact .refl s
  | succ n ih =>
    unfold State.timeOutPairings
    split
    · exact .refl s
    · exact (rests_modBus s _).trans ((rests_judgePair _ _ _).trans (ih _))

theorem rests_workBus : Rests x s s.workBus := by
  have instant (t : State) : Rests x t t.captureInstant := by
    unfold State.captureInstant
    split
    · exact .refl t
    · exact rests_modBus t _
  have sent (t : State) : Rests x t t.finishFrame := by
    unfold State.finishFrame
    split
    · exact .refl t
    · exact rests_modBus t _
  have begins (t : State) : Rests x t t.beginFrame := by
    unfold State.beginFrame
    split
    · exact .refl t
    · exact .ite (rests_modBus t _) (rests_modBus t _)
  exact (rests_timeOutPairings _ s).trans ((Rests.ite (instant _) (.refl _)).trans
    ((Rests.ite (sent _) (.refl _)).trans (begins _)))

end

end Sys2Proof.Machine

/-! A STOPPED lane at the events of channels and at the boundaries of the other lane, and PHASE_STEP (O6). -/

namespace Sys2Proof.Machine

section
variable {x : LaneId} (s : State)

/-! ## Channels (section 6.3) -/

theorem rests_finishBreak (r : Fin 4) : Rests x s (s.finishBreak r) := by
  unfold State.finishBreak
  split
  · exact .refl s
  · exact .ite ((rests_setBrk s r _).trans (rests_post _ _)) (.refl s)

theorem rests_finishHandover (r : Fin 4) : Rests x s (s.finishHandover r) := by
  unfold State.finishHandover
  split
  · exact .refl s
  · exact .ite ((rests_setHo s r _).trans (rests_post _ _)) (.refl s)

theorem rests_enterBreak (n : Fin 16) : Rests x s (s.enterBreak n) := by
  unfold State.enterBreak
  split
  · split
    · exact (rests_modChan s n _).trans (rests_setBrk _ _ _)
    · exact .refl s
  · exact .refl s

theorem rests_endMember (n : Fin 16) (y : U32) (complete : Bool) : Rests x s (s.endMember n y complete) := by
  unfold State.endMember
  split
  · exact .refl s
  · exact (rests_modChan s n _).trans ((Rests.ite (rests_setBrk _ _ _) (.refl _)).trans (rests_finishBreak _ _))

theorem rests_countBreak (n : Fin 16) : Rests x s (s.countBreak n) := by
  unfold State.countBreak
  split
  · exact .ite (rests_modChan s n _) (.refl s)
  · exact .refl s

theorem rests_judgeBreak (n : Fin 16) : Rests x s (s.judgeBreak n) := by
  unfold State.judgeBreak
  extract_lets t
  have entered : Rests x s t := .ite (rests_enterBreak s n) (.refl s)
  split
  · exact entered.trans (rests_endMember t n _ _)
  · exact entered.trans (.ite (rests_countBreak t n) (.refl t))

theorem rests_recordSwitch (n : Fin 16) : Rests x s (s.recordSwitch n) := by
  unfold State.recordSwitch
  split
  · exact .refl s
  · exact (rests_setHo s _ _).trans (rests_modChan _ n _)

/-- Without an entry a switch is the count, the move and the switched set. -/
theorem rests_switchMember (n : Fin 16) : Rests x s (s.switchMember n) := fun queue stopped => by
  have entries : s.channelEntries n = [] := by
    simp [State.channelEntries, State.beatDue, queue, sortDue]
  have counted : Rests x s (s.countBeforeSwitch n) := .ite (rests_countBreak s n) (.refl s)
  unfold State.switchMember
  split
  · exact Rests.refl s queue stopped
  · rw [entries]
    exact (counted.trans ((rests_modChan _ n _).trans (rests_recordSwitch _ n))) queue stopped

theorem rests_workSwitch (n : Fin 16) : Rests x s (s.workSwitch n) := by
  refine .ite ?_ (.refl s)
  split
  · exact (rests_switchMember s n).trans ((rests_judgeBreak _ n).trans (rests_finishHandover _ _))
  · exact .refl s

theorem rests_partTwoChannel (n : Fin 16) : Rests x s (s.partTwoChannel n) := by
  have crossings : Rests x s (State.applyCrossings n s.queue.length s) := fun queue stopped => by
    rw [queue]
    exact Rests.refl s queue stopped
  exact crossings.trans ((rests_workSwitch _ n).trans
    ((Rests.ite (rests_modChan _ n _) (.refl _)).trans (rests_judgeBreak _ n)))

theorem rests_completeEvaluation (n : Fin 16) : Rests x s (s.completeEvaluation n) := rests_modChan s n fun _ => _

theorem rests_closeChannel (n : Fin 16) : Rests x s (s.closeChannel n) := by
  unfold State.closeChannel
  extract_lets ended charEnded partTwo moved evaluated gated
  have h1 : Rests x s ended := .ite (rests_modChan s n _) (.refl s)
  have h2 : Rests x ended charEnded := rests_modChan _ n _
  have h3 : Rests x charEnded partTwo := rests_partTwoChannel _ n
  have h4 : Rests x partTwo moved := .ite (rests_modChan _ n _) (.refl _)
  have h5 : Rests x moved evaluated := .ite (rests_completeEvaluation _ n) (.refl _)
  have h6 : Rests x evaluated gated := .ite (rests_modChan _ n _) (.refl _)
  exact h1.trans (h2.trans (h3.trans (h4.trans (h5.trans (h6.trans (rests_modChan _ n _))))))

/-! ## Boundaries (section 2.2) -/

theorem rests_measureAll (k : KnownBoundary) (at_ : U32) : Rests x s (s.measureAll k at_) := by
  refine .foldl _ (fun t r => .ite (.refl t) ?_) s
  unfold State.measure
  split
  · exact .refl t
  · have set := rests_setHo (x := x) t r
    exact .ite (.ite (set _) (.ite (.ite (set _) (set _)) (set _))) (.refl t)

theorem rests_measureKnown : Rests x s s.measureKnown :=
  (rests_known s []).trans (.foldl _ (fun t k => .ite (rests_known t _) (rests_measureAll t k _)) _)

theorem rests_partSeven (z : LaneId) (f : BoundaryFacts) (at_ : U32) : Rests x s (s.partSeven z f at_) :=
  ((Rests.ite (rests_post s _) (.refl s)).trans (.ite (rests_post _ _) (.refl _))).trans
    ((Rests.ite (rests_known _ _) (rests_measureAll _ _ at_)).trans (rests_leadRequest _ _ _))

theorem rests_openAnnounced (y : U32) : Rests x s (s.openAnnounced (otherLane x) y) :=
  (rests_modLane_other s _).trans ((rests_partTwo _ _ y).trans
    (.ite (.ite ((rests_modLane_other _ _).trans (rests_glideStep _ _)) (.refl _)) (.refl _)))

theorem rests_workCrossed (n : Nat) (y : U32) (s : State) : Rests x s (State.workCrossed (otherLane x) n y s) := by
  induction n generalizing y s with
  | zero => exact .refl s
  | succ n ih =>
    exact .ite ((rests_openAnnounced s y).trans (.ite ((rests_partSeven _ _ _ _).trans (ih _ _))
      (rests_modLane_other _ _))) ((rests_modLane_other s _).trans (ih _ _))

theorem rests_jumpAndReport (f : BoundaryFacts) : Rests x s (s.jumpAndReport (otherLane x) f) :=
  have moved (l : Lane) : Rests x s ((s.setLane (otherLane x) l).setResidual (otherLane x) 0 false) :=
    (rests_setLane_other s l).trans (rests_setResidual _ _ _ _)
  .ite (.ite ((moved _).trans ((rests_partSeven _ _ _ _).trans (rests_workCrossed _ _ _)))
    ((moved _).trans (rests_partSeven _ _ _ _))) (rests_partSeven s _ _ _)

theorem rests_closeAnnounced (y : U32) : Rests x s (s.closeAnnounced (otherLane x) y) :=
  .ite ((rests_followCompare s _).trans ((Rests.ite (rests_reduce _ _) (.refl _)).trans (rests_jumpAndReport _ _)))
    (.refl s)

theorem rests_advanceLane : Rests x s (s.advanceLane (otherLane x)) :=
  (rests_setLane_other s _).trans (.ite (.refl _) (rests_setResidual _ _ _ _))

/-- A STOPPED lane has no advance. -/
theorem rests_workLaneBy_self (announce : State → LaneId → State) : Rests x s (s.workLaneBy announce x) :=
  fun queue stopped => by
    rw [show s.workLaneBy announce x = s from if_neg (by simp [Lane.isRunning, stopped])]
    exact Rests.refl s queue stopped

theorem rests_workLaneBy_other {announce : State → LaneId → State} (h : ∀ t, Rests x t (announce t (otherLane x))) :
    Rests x s (s.workLaneBy announce (otherLane x)) :=
  have advanced := (rests_advanceLane (x := x) s).trans (rests_ripenJoins _ (otherLane (otherLane x)))
  .ite (.ite (advanced.trans (h _)) (.ite (advanced.trans (rests_modLane_other _ _)) (rests_advanceLane s))) (.refl s)

theorem rests_leaderFirst : Rests x s (s.leaderFirst (otherLane x)) := by
  refine .ite ?_ (.refl s)
  rw [otherLane_otherLane]
  exact (rests_modLane_other s _).trans ((rests_workLaneBy_self _ _).trans (rests_modLane_other _ _))

theorem rests_announce : Rests x s (s.announce (otherLane x)) :=
  (rests_openAnnounced s _).trans ((rests_leaderFirst _).trans (rests_closeAnnounced _ _))

theorem eq_or_eq_otherLane (x z : LaneId) : z = x ∨ z = otherLane x := by cases x <;> cases z <;> simp [otherLane]

theorem rests_workLane (z : LaneId) : Rests x s (s.workLane z) := by
  rcases eq_or_eq_otherLane x z with rfl | rfl
  · exact rests_workLaneBy_self s _
  · exact rests_workLaneBy_other s rests_announce

theorem rests_workFollowing (z : LaneId) : Rests x s (s.workFollowing z) :=
  .ite ((rests_workLane s _).trans (rests_workLane _ z)) (rests_workLane s z)

theorem rests_workLanes : Rests x s s.workLanes :=
  (rests_workFollowing s .a).trans ((rests_workFollowing _ .b).trans (rests_measureKnown _))

/-! ## The closing of a step and the new step -/

theorem rests_closeBlocks : Rests x s s.closeBlocks := by
  unfold State.closeBlocks
  extract_lets expired joined closed
  have h1 : Rests x s expired := (rests_workLanes s).trans (rests_workExpiries _)
  have h2 : Rests x expired joined := .foldl _ (fun t z => rests_workJoins t z) _
  have h3 : Rests x joined closed := .forChannels (fun n t => rests_closeChannel t n) _
  exact h1.trans (h2.trans (h3.trans ((rests_workBus closed).trans (rests_modLink _ _))))

theorem rests_beginAdvance (z : LaneId) : Rests x s (s.beginAdvance z) := by
  rcases eq_or_eq_otherLane x z with rfl | rfl
  · intro queue stopped
    rw [show s.beginAdvance z = s from if_neg (by simp [Lane.isRunning, stopped])]
    exact Rests.refl s queue stopped
  · exact .ite (.ite (rests_setLane_other s _) (rests_advanceLane s)) (.refl s)

theorem rests_newStep : Rests x s s.newStep := by
  have settled (t : State) : Rests x t t.settle := by
    obtain ⟨channels, eq⟩ := settle_frame t
    rw [eq]
    exact .of_same rfl rfl rfl
  have ticked : Rests x s s.tickClock := .of_same rfl rfl rfl
  exact ticked.trans ((rests_beginAdvance _ .a).trans ((rests_beginAdvance _ .b).trans (settled _)))

variable {s}

/-- Without a request and without a frame to verify, no request is handled at the closing of the step. -/
theorem rests_closeStep (noReset : s.resetDue = false) (requests : s.link.requests = []) (frame : s.link.complete = none) :
    Rests x s s.closeStep := by
  have received : s.received.link.requests = [] ∧ Rests x s s.received := by
    unfold State.received
    rw [verifyFrame_of_none frame]
    dsimp only
    split
    · exact ⟨requests, .of_same rfl rfl rfl⟩
    · exact ⟨requests, .refl s⟩
  have chosen : (s.received.modLink (·.choose)).link.requests = [] := by
    refine Eq.trans ?_ received.1
    simp only [State.modLink, Link.choose, Link.beginReply, Link.beginNotice]
    repeat' split
    all_goals rfl
  have noHead : (s.received.modLink (·.choose)).handleHead = s.received.modLink (·.choose) := by
    have head : (s.received.modLink (·.choose)).head = none := by
      rw [State.head, chosen]
      exact ite_self _
    simp only [State.handleHead, head]
  rw [closeStep_of_no_reset noReset, noHead]
  exact received.2.trans ((rests_modLink _ _).trans (rests_closeBlocks _))

end

end Sys2Proof.Machine

/-! PHASE_STEP of a running part (O6). -/

namespace Sys2Proof.Machine

section
variable {s : State}

/-- The counters of a new step, field by field (R1, R108, R122, R160, R181). -/
theorem tickClock_eq (s : State) : s.tickClock = { s with
    clock := s.clock + 1
    channels := s.channels.map fun c => { c with
      evaluated := false
      evalLead := none
      reached := []
      switched := false
      tx := match c.tx with
        | .sending ch age len => .sending ch (age + 3) len
        | .idle => .idle }
    bus := { s.bus with tx := s.bus.tx.map fun f => { f with age := f.age + 125 } }
    link := { s.link with
      handled := false
      tx := match s.link.tx with
        | .sending bytes age isReply resets => .sending bytes (age + 75) isReply resets
        | .idle => .idle } } := by
  unfold State.tickClock
  rw [linkAge_eq]
  simp only [ageChar_eq]
  rfl

/-- The channels of a new step whose lanes have made their advance: the ones at part 5 for which no row is due are
evaluated (R108, R134). -/
theorem evaluatedQuietly_of_due {v : State} {n : Fin 16} (here : v.atPartFive n = true) (noRow : v.partFiveDue n = false) :
    v.evaluatedQuietly n = { v.crossed n with
      brk := v.beatsCounted n
      emitted := v.silentCount n
      owing := decide (0 < ahead (v.targetCount n) (v.silentCount n))
      evaluated := true
      evalLead := none } := if_pos ⟨here, noRow⟩

theorem evaluatedQuietly_of_not_due {v : State} {n : Fin 16} (h : v.atPartFive n = false ∨ v.partFiveDue n = true) :
    v.evaluatedQuietly n = v.chan n := by
  refine if_neg fun ⟨here, noRow⟩ => ?_
  rcases h with h | h
  · exact Bool.noConfusion (here.symm.trans h)
  · exact Bool.noConfusion (h.symm.trans noRow)

end

/-- Settles O6: the step time, the advances and the evaluations of a new step, a muted evaluation, and a STOPPED lane. -/
theorem phaseStepAdvancesTime : Obligations.PhaseStepAdvancesTime := by
  refine ⟨fun s running => ⟨fun noReset => ?_, fun due => ?_⟩, fun s running noReset closed => ?_, fun s n muted => ?_,
    fun s x running noReset stopped queue requests frame => ?_⟩
  · have stays := stays_closeStep noReset
    obtain ⟨clock, mode, handled, pins, rate⟩ := newStep_time s.closeStep
    have later : s.closeStep.newStep.clock = s.clock + 1 := by rw [clock, stays.clock]
    refine ⟨_, congrArg Host.Outcome.next (phaseStep_of_no_reset running noReset), (mode.trans stays.mode).trans running,
      ?_, later, handled, pins.trans stays.pins, rate.trans stays.rate⟩
    rw [State.stepTime, later, BitVec.ofNat_add]
    rfl
  · exact congrArg Host.Outcome.next (phaseStep_of_reset running due)
  · intro ticked v
    have step : exec .phaseStep s = .next v.settle := by
      refine congrArg Host.Outcome.next ((phaseStep_of_no_reset running noReset).trans ?_)
      rw [closed]
      exact congrArg (fun t : State => ((t.beginAdvance .a).beginAdvance .b).settle) (tickClock_eq s)
    refine ⟨v.settle, step, ?_, settle_of_outstanding, fun a b n => ?_⟩
    · obtain ⟨channels, eq⟩ := settle_frame v
      rw [eq]
    · intro c d target y silent emitted due
      have chan : v.settle.chan n = v.evaluatedQuietly n := by
        rw [settle_of_settled a b]
        exact (quietEvaluations v).2 n
      exact ⟨muted_evaluation, fun here noRow => chan.trans (evaluatedQuietly_of_due here noRow),
        fun h => chan.trans (evaluatedQuietly_of_not_due h)⟩
  · obtain ⟨noRow, crossed⟩ := muted_evaluation muted
    rw [completeEvaluation_of_no_row noRow, crossed]
    simp only [State.silentCount, muted, true_and]
  · refine ⟨_, congrArg Host.Outcome.next (phaseStep_of_no_reset running noReset), ?_⟩
    obtain ⟨-, stands⟩ := (rests_closeStep noReset requests frame).trans (rests_newStep _) queue stopped
    exact ⟨stands.transport.trans stopped, stands.pos, stands.beatInBar, stands.barInPhrase, stands.barCount,
      stands.phraseCount, stands.high, stands.beatsPerBar, stands.barsPerPhrase⟩

end Sys2Proof.Machine
